-- ==== Sys2Proof/Word.lean ====
section
/-! DEFINITION. The widths of the manual: bytes, keys, 16-byte strings, channel and slot numbers. -/

namespace Sys2Proof

/-- One byte as it crosses the part's boundary (Section 11). -/
abbrev Byte := BitVec 8

/-- One key of a key pair, 32 bytes (R24). The first byte stands in the top bits. -/
abbrev Key := BitVec 256

/-- Sixteen bytes: a tag, a nonce, a proof value, a keystream block (R56, R57, R114). First byte in the top bits. -/
abbrev Sixteen := BitVec 128

/-- A global channel number, 0 to 31 (R1). -/
abbrev ChanId := Fin 32

/-- A key slot number, 0 to 47 (R24). -/
abbrev SlotId := Fin 48

end Sys2Proof
end

