-- ==== Sys2Proof/Config.lean ====
section
/-! DEFINITION. What this manual leaves outside itself: the three keyed functions (section 0.2), the nonce generator
(R114), and how far a modem has come with a frame (R141, R142). Each is a constant with no body, so nothing about its
values can be used. -/

namespace Sys2Proof

/-- The keystream function: key and 16-byte counter block give 16 bytes (R56, section 0.2). Log 4. -/
opaque Config.keystream : Key → Sixteen → Sixteen

/-- The tag function: key and bytes give 16 bytes (R57, section 0.2). Log 4. -/
opaque Config.tag : Key → List Byte → Sixteen

/-- The derivation function: root key and input bytes give 64 bytes (section 2.5, R39). Log 4. -/
opaque Config.derive : Key → List Byte → BitVec 512

/-- The part's nonce generator (R114): the free value of the n-th draw. Log 5. -/
opaque Config.nonce : Nat → Sixteen

/-- How much of a frame the modem has taken when its sending is held or stopped (R142): the free value of the n-th draw.
Log 25. -/
opaque Config.taken : Nat → Nat

end Sys2Proof
end

