-- ==== Sys2Proof/Syntax.lean ====
section
/-! DEFINITION. The names of the manual and the 72 steps of the part, one constructor for each row of
spec/opcode_table.json. -/

namespace Sys2Proof

/-- The three command ports (section 0.4). -/
inductive Port where
  | g | p | m
  deriving DecidableEq, Repr

/-- The two trunks (R135). -/
inductive Trunk where
  | t0 | t1
  deriving DecidableEq, Repr

/-- The trunk choice of a channel (Table 1-1). -/
inductive Route where
  | t0Only | t1Only | follow
  deriving DecidableEq, Repr

/-- The four outbound sources (section 3.1). -/
inductive OutSrc where
  | g | p | m | control
  deriving DecidableEq, Repr

/-- The five holders of frame buffers (R71). -/
inductive Holder where
  | g | p | m | inbound | control
  deriving DecidableEq, Repr

/-- The four requesters that have a share (R80), in the order of the rotation of R82. -/
inductive Requester where
  | inbound | p | g | m
  deriving DecidableEq, Repr

/-- The 17 fault kinds, in the order of Table 8-1. -/
inductive FaultKind where
  | tamper | settingsBad | coreCheck | bootLimit | noTrunk | trunkDown | trunkStall | renewalFailed | renewalRefused
  | channelFrozen | tagFailures | keyStoreFull | holdExpired | rxOverrun | deliveryOverrun | protocol | restarted
  deriving DecidableEq, Repr

/-- The limit fields that OPEN and SET_LIMITS may carry (R8, R11); values as given, before any clamping. -/
structure LimitFields where
  hard : Option Nat := none
  margin : Option Nat := none
  age : Option Nat := none
  lead : Option Nat := none
  hold : Option Nat := none
  route : Option Route := none
  deriving DecidableEq, Repr

/-- New allocations that SET_ALLOCATIONS may carry (R75). -/
structure AllocFields where
  g : Option Nat := none
  p : Option Nat := none
  m : Option Nat := none
  inbound : Option Nat := none
  deriving DecidableEq, Repr

/-- New shares that SET_SHARES may carry (R80). -/
structure ShareFields where
  inbound : Option Nat := none
  p : Option Nat := none
  g : Option Nat := none
  m : Option Nat := none
  deriving DecidableEq, Repr

/-- The steps of the part. A port command carries the port that wrote it and the tag of its record (R168). -/
inductive Instr where
  /-- SEND (R47): local channel and payload. -/
  | send (pt : Port) (tag : Byte) (chan : Nat) (payload : List Byte)
  /-- CHANNEL_STATUS (R22). -/
  | channelStatus (pt : Port) (tag : Byte) (chan : Nat)
  /-- OPEN (R8). -/
  | openChannel (pt : Port) (tag : Byte) (chan : Nat) (fields : LimitFields)
  /-- CLOSE (R16). -/
  | closeChannel (pt : Port) (tag : Byte) (chan : Nat)
  /-- SET_LIMITS (R11). -/
  | setLimits (pt : Port) (tag : Byte) (chan : Nat) (fields : LimitFields)
  /-- RENEW (R103). -/
  | renew (pt : Port) (tag : Byte) (chan : Nat)
  /-- ABORT_RENEWAL (R126). -/
  | abortRenewal (pt : Port) (tag : Byte) (chan : Nat)
  /-- KEY_STORE_STATUS (R42). -/
  | keyStoreStatus (pt : Port) (tag : Byte) (slot : Nat)
  /-- SET_ALLOCATIONS (R75). -/
  | setAllocations (pt : Port) (tag : Byte) (fields : AllocFields)
  /-- POOL_STATUS (R76). -/
  | poolStatus (pt : Port) (tag : Byte)
  /-- SET_SHARES (R80). -/
  | setShares (pt : Port) (tag : Byte) (fields : ShareFields)
  /-- ARBITER_STATUS (R85). -/
  | arbiterStatus (pt : Port) (tag : Byte)
  /-- WAIT_LIST_STATUS (R104). -/
  | waitListStatus (pt : Port) (tag : Byte)
  /-- EXCHANGE_STATUS (R128). -/
  | exchangeStatus (pt : Port) (tag : Byte)
  /-- SET_TRUNK (R138). -/
  | setTrunk (pt : Port) (tag : Byte) (trunk : Trunk) (enable : Bool)
  /-- TRUNK_STATUS (R149). -/
  | trunkStatus (pt : Port) (tag : Byte) (clear : Bool)
  /-- CLEAR_LATCHES (R152): the kinds marked clear. -/
  | clearLatches (pt : Port) (tag : Byte) (kinds : List FaultKind)
  /-- SET_FAULT_MASK (R153): the kinds named. -/
  | setFaultMask (pt : Port) (tag : Byte) (kinds : List FaultKind)
  /-- TAKE_FAULT (R158). -/
  | takeFault (pt : Port) (tag : Byte)
  /-- FAULT_STATUS (R166). -/
  | faultStatus (pt : Port) (tag : Byte)
  /-- SET_PORT (R174). -/
  | setPort (pt : Port) (tag : Byte) (named : Port) (submit deliver attention : Option Bool)
  /-- PORT_STATUS (R175). -/
  | portStatus (pt : Port) (tag : Byte) (named : Port) (clear : Bool)
  /-- SET_LINE (R179): direction true is OUT. -/
  | setLine (pt : Port) (tag : Byte) (line : Nat) (dirOut latch fn : Option Bool)
  /-- READ_LINES (R181). -/
  | readLines (pt : Port) (tag : Byte)
  /-- PART_STATUS (R190). -/
  | partStatus (pt : Port) (tag : Byte)
  /-- WRITE_SETTINGS (R184): the 133 bytes of R194. -/
  | writeSettings (pt : Port) (tag : Byte) (image : List Byte)
  /-- RESTART (R187). -/
  | restart (pt : Port) (tag : Byte)
  /-- ZEROIZE (R188). -/
  | zeroize (pt : Port) (tag : Byte)
  /-- UNDEFINED_COMMAND (R169): a taken record that is malformed (R194). -/
  | undefinedCommand (pt : Port) (record : List Byte)
  /-- READ_COMPLETION (R170). -/
  | readCompletion (pt : Port)
  /-- READ_DELIVERY (R171). -/
  | readDelivery (pt : Port)
  /-- READ_ATTENTION (R172): the byte naming the latches to clear (R194). -/
  | readAttention (pt : Port) (clear : Byte)
  /-- UNDEFINED_TRANSACTION (R194). -/
  | undefinedTransaction (pt : Port) (code : Byte)
  /-- TRANSACTION_CUT_SHORT (R194). -/
  | transactionCutShort (pt : Port)
  /-- POWER_ON_RESET (R186). -/
  | powerOnReset
  /-- PORT_RESET (R176): the reset input is asserted. -/
  | portReset (pt : Port)
  /-- PORT_RESET_RELEASE (R176). -/
  | portResetRelease (pt : Port)
  /-- TAMPER (R180): the pin of L2 rises; `held` is its level after the event (log 8). -/
  | tamper (held : Bool)
  /-- CARRIER_RISING (R137): the pin of the trunk's carrier line rises. -/
  | carrierRising (t : Trunk)
  /-- CARRIER_FALLING (R137): the pin of the trunk's carrier line falls. -/
  | carrierFalling (t : Trunk)
  /-- HOLD_ASSERTED (R142). -/
  | holdAsserted (t : Trunk)
  /-- HOLD_RELEASED (R142). -/
  | holdReleased (t : Trunk)
  /-- FRAME_RECEIVED (R147, R148): the bytes between the markers. -/
  | frameReceived (t : Trunk) (bytes : List Byte)
  /-- PARTIAL_FRAME_DISCARDED (R147). -/
  | partialFrameDiscarded (t : Trunk)
  /-- UPTIME_STEP (R190). -/
  | uptimeStep
  /-- HOLD_EXPIRY (R54): the held frame of a source with this submission number. -/
  | holdExpiry (src : OutSrc) (sub : Nat)
  /-- SETTLE_DEADLINE (R30). -/
  | settleDeadline (slot : SlotId)
  /-- PAUSE_DEADLINE (R102). -/
  | pauseDeadline (chan : ChanId)
  /-- ASKING_DEADLINE (R115). -/
  | askingDeadline (chan : ChanId)
  /-- BACKING_OFF_DEADLINE (R116). -/
  | backingOffDeadline (chan : ChanId)
  /-- CONFIRMING_DEADLINE (R122). -/
  | confirmingDeadline (chan : ChanId)
  /-- HELLO_WAIT_DEADLINE (R130). -/
  | helloWaitDeadline
  /-- HELLO_BACKOFF_DEADLINE (R130). -/
  | helloBackoffDeadline
  /-- HELLO_SLOW_DEADLINE (R130). -/
  | helloSlowDeadline
  /-- PROVING_DEADLINE (R137). -/
  | provingDeadline (t : Trunk)
  /-- REPORT_DEADLINE (R160). -/
  | reportDeadline
  /-- STALL_LIMIT_REACHED (R142). -/
  | stallLimitReached (t : Trunk)
  /-- OUTBOUND_JOB_START (R55). -/
  | outboundJobStart
  /-- INBOUND_JOB_START (R61). -/
  | inboundJobStart
  /-- OUTBOUND_JOB_END (R58). -/
  | outboundJobEnd
  /-- INBOUND_JOB_END (R64). -/
  | inboundJobEnd
  /-- DERIVATION_START (R40). -/
  | derivationStart
  /-- TURNOVER_DERIVATION_END (R119). -/
  | turnoverDerivationEnd
  /-- BOOTSTRAP_DERIVATION_END (R41). -/
  | bootstrapDerivationEnd
  /-- SELF_CHECK_END (R186): whether every known-answer case gave its fixed answer. -/
  | selfCheckEnd (ok : Bool)
  /-- SETTINGS_WRITE_END (R184). -/
  | settingsWriteEnd
  /-- COUNT_WRITE_END (R41). -/
  | countWriteEnd
  /-- DEFERRED_RESTART (R187). -/
  | deferredRestart
  /-- WAITING_CUTOVER (R29). -/
  | waitingCutover
  /-- TRANSMISSION_START (R141). -/
  | transmissionStart (t : Trunk)
  /-- TRANSMISSION_END (R141). -/
  | transmissionEnd (t : Trunk)
  /-- EXCHANGE_START (R105). -/
  | exchangeStart
  deriving DecidableEq, Repr

end Sys2Proof
end

