-- ==== Sys2Proof/Machine/Types.lean ====
section
/-! DEFINITION. The records of the part, block by block, as plain data. -/

namespace Sys2Proof.Machine

/-- Part modes (Table 10-2). -/
inductive Mode where
  | starting | running | safe | lockdown
  deriving DecidableEq, Repr

/-- Owners of a channel (Table 1-1). -/
inductive Owner where
  | g | p | m | link
  deriving DecidableEq, Repr

/-- Classes of a channel (Table 1-1). -/
inductive Class where
  | control | payment | bulk | mgmt
  deriving DecidableEq, Repr

/-- Channel states (Table 1-2). -/
inductive ChanState where
  | closed | openWait | booting | live | frozen
  deriving DecidableEq, Repr

/-- Renewal statuses (Table 1-3). -/
inductive Renewal where
  | idle | listed | exchanging | paused | stopped
  deriving DecidableEq, Repr

/-- Reasons of a listing or an exchange (R98, R110). -/
inductive Reason where
  | openKey | ordered | port | suspect | hard | wear | projected | age | ahead
  deriving DecidableEq, Repr

/-- The limits of a channel (Table 1-1): H, m, A, D, hold limit, route. -/
structure Limits where
  hard : Nat
  margin : Nat
  age : Nat
  lead : Nat
  hold : Nat
  route : Route
  deriving DecidableEq, Repr

/-- A record of the channel table (R1), with the paused reason that the scheduler keeps (R102). -/
structure Chan where
  state : ChanState
  owner : Owner
  cls : Class
  limits : Limits
  renewal : Renewal
  cur : Option SlotId
  next : Option SlotId
  prev : Option SlotId
  rate : Nat
  units : Nat
  bucket : Nat
  pause : Option Nat
  pauseReason : Option Reason
  deriving DecidableEq, Repr

/-- Key slot states (R24). -/
inductive SlotState where
  | empty | reserved | staged | active | settling
  deriving DecidableEq, Repr

/-- The fields of a slot that are present in STAGED, ACTIVE and SETTLING (Table 2-1). Mark k of `marks` stands for
sequence top − k. -/
structure Keyed where
  epoch : Nat
  wear : Nat
  age : Nat
  nextSeq : Nat
  top : Nat
  marks : BitVec 64
  deriving DecidableEq, Repr

/-- A key slot (R24). -/
structure Slot where
  state : SlotState
  chan : Option ChanId
  ksKey : Key
  tagKey : Key
  keyed : Option Keyed
  settle : Option Nat
  inFlight : Bool
  wipePending : Bool
  deriving DecidableEq, Repr

/-- Frame kinds (Table 11-2). -/
inductive Kind where
  | data | hello | helloAck | turnAsk | turnGive | turnDone | turnRefuse | turnOrder | faultReport | closeNote
  deriving DecidableEq, Repr

/-- What an outbound frame is bound to at its job start (R55). -/
structure Binding where
  slot : SlotId
  epoch : Nat
  seq : Nat
  trunk : Trunk
  deriving DecidableEq, Repr

/-- An outbound frame record (Table 3-1). The length L is the payload's. `cmdTag` and `marked` belong to the SEND of
a port frame (R168, R176). -/
structure Frame where
  src : OutSrc
  kind : Kind
  chan : ChanId
  loc : Nat
  cmdTag : Byte
  marked : Bool
  sub : Nat
  payload : List Byte
  held : Option Nat
  bound : Option Binding
  auth : Option Sixteen
  deriving DecidableEq, Repr

/-- An outbound source (R48, R49): send FIFO, one hold list for each channel, next submission number. -/
structure Source where
  fifo : List Frame
  holds : Vector (List Frame) 32
  nextSub : Nat
  deriving DecidableEq, Repr

/-- An inbound frame (R60), header fields as received. -/
structure InFrame where
  trunk : Trunk
  chan : ChanId
  kind : Kind
  epoch : Nat
  seq : Nat
  payload : List Byte
  auth : Sixteen
  deriving DecidableEq, Repr

/-- Buffer pool (R71, R72): allocations, holdings and the free count. CONTROL's allocation is fixed at 8. -/
structure Pool where
  allocG : Nat
  allocP : Nat
  allocM : Nat
  allocInbound : Nat
  heldG : Nat
  heldP : Nat
  heldM : Nat
  heldInbound : Nat
  heldControl : Nat
  free : Nat
  deriving DecidableEq, Repr

/-- A number for each requester that has a share (R80, R81). -/
structure PerReq where
  inbound : Nat
  p : Nat
  g : Nat
  m : Nat
  deriving DecidableEq, Repr

/-- Arbiter (R80, R81). -/
structure Arbiter where
  shares : PerReq
  spent : PerReq
  total : Nat
  last : Requester
  deriving DecidableEq, Repr

/-- Derivations (R39, R78). -/
inductive Derivation where
  | turnover (chan : ChanId) (slot : SlotId) (epoch : Nat) (store head : Sixteen)
  | bootstrap (count : Nat)
  | selfCheck
  deriving DecidableEq, Repr

/-- What the core is doing (R78). Of an outbound job: the transmit place still reserved for it, and whether its
result is to be discarded (R17). -/
inductive Core where
  | idle
  | outbound (f : Frame) (place : Option Trunk) (discard : Bool)
  | inbound (f : InFrame) (slot : SlotId)
  | derives (d : Derivation)
  deriving DecidableEq, Repr

/-- An entry of the renewal wait list (R98); the urgency follows from the reason. -/
structure WaitEntry where
  chan : ChanId
  reason : Reason
  deriving DecidableEq, Repr

/-- Renewal scheduler (section 5). -/
structure Scheduler where
  waitList : List WaitEntry
  ahead : Nat
  lastFull : Option Nat
  deriving DecidableEq, Repr

/-- Exchange entry states (Table 6-2). An entry that has taken its TURN_GIVE and is not CONFIRMING is staging (R119). -/
inductive ExchState where
  | asking | backingOff | confirming
  deriving DecidableEq, Repr

/-- Exchange entry (Table 6-2), with the proof value (R120) and whether a cutover waits (R29). -/
structure Exchange where
  chan : ChanId
  reason : Reason
  state : ExchState
  attempt : Nat
  store : Sixteen
  slot : SlotId
  newEpoch : Option Nat
  head : Option Sixteen
  deadline : Option Nat
  proof : Option Sixteen
  cutoverWaits : Bool
  deriving DecidableEq, Repr

/-- Bootstrap phases (R129). -/
inductive Phase where
  | none | helloWait | helloBackoff | helloSlow
  deriving DecidableEq, Repr

/-- Bootstrap record (R129). -/
structure Boot where
  phase : Phase
  attempt : Nat
  deadline : Option Nat
  count : Option Nat
  deriving DecidableEq, Repr

/-- Trunk states (Table 7-2). -/
inductive TrunkState where
  | off | down | proving | up
  deriving DecidableEq, Repr

/-- The six receive counters of a trunk (R149). -/
structure Counters where
  badHeader : Nat
  unknownEpoch : Nat
  late : Nat
  repeated : Nat
  tag : Nat
  overrun : Nat
  deriving DecidableEq, Repr

/-- Why an inbound frame was dropped and counted (Table 7-1). -/
inductive Drop where
  | badHeader | unknownEpoch | late | repeated | tag | overrun
  deriving DecidableEq, Repr

/-- What a modem takes from a trunk (R141): the start marker, a byte, the end marker. -/
inductive Symbol where
  | startMarker
  | byte (b : Byte)
  | endMarker
  deriving DecidableEq, Repr

/-- Trunk record (Table 7-1). Carrier is formed from the line (R136). `out` is what the transmission under way gives the
modem, while held what it has given (R142), or what the last one gave it (R141); `given` is how much of it the modem had
taken at the last cut of this transmission, so that no later cut takes it back (R142; log 25). -/
structure TrunkRec where
  enable : Bool
  state : TrunkState
  hold : Bool
  proving : Option Nat
  queue : List Frame
  reserved : Nat
  transmitting : Bool
  stall : Option Nat
  out : List Symbol
  given : Nat
  counters : Counters
  depth : Nat
  provingInterval : Nat
  deriving DecidableEq, Repr

/-- Severities (R151). -/
inductive Severity where
  | critical | major | minor
  deriving DecidableEq, Repr

/-- Fault record (Table 8-2). `inReport` says that it is in the list of the report in flight (R161). -/
structure FaultRec where
  kind : FaultKind
  chan : Option ChanId
  trunk : Option Trunk
  port : Option Port
  first : Nat
  last : Nat
  count : Nat
  sent : Bool
  taken : Bool
  inReport : Bool
  deriving DecidableEq, Repr

/-- The counts carried by the report in flight (R161). -/
structure Report where
  dropped : Nat
  lost : Nat
  deriving DecidableEq, Repr

/-- Fault unit (section 8). Latches and mask are the kinds that are set or masked, without repeats. -/
structure FaultUnit where
  latches : List FaultKind
  mask : List FaultKind
  queue : List FaultRec
  dropped : Nat
  lost : Nat
  deadline : Option Nat
  report : Option Report
  deriving DecidableEq, Repr

/-- Refusal causes (Table 9-3). -/
inductive Cause where
  | badCommand | notAllowed | mode | portDisabled | noChannel | notOpen | notClosed | badLength | noBuffer | locked
  | limit | noSlot | nothingPending | alreadyRenewing | lastTrunk | busy | heldTooLong | closedWhileQueued | linkLost
  deriving DecidableEq, Repr

/-- Results of a completion (R168). -/
inductive Result where
  | done | sent | refused (c : Cause)
  deriving DecidableEq, Repr

/-- Completion record (R168); `kind` is the code of R194, `data` the bytes of R194. -/
structure Completion where
  tag : Byte
  kind : Nat
  result : Result
  data : List Byte
  deriving DecidableEq, Repr

/-- Delivery record (R67). -/
structure Delivery where
  loc : Nat
  payload : List Byte
  deriving DecidableEq, Repr

/-- Attention latches of a port (Table 9-1). -/
structure Latches where
  completion : Bool
  delivery : Bool
  channel : Bool
  fault : Bool
  deriving DecidableEq, Repr

/-- Enables of a port (Table 9-1). -/
structure Enables where
  submit : Bool
  deliver : Bool
  attention : Bool
  deriving DecidableEq, Repr

/-- Command port record (Table 9-1), the reset input (R176), and the bytes last answered on the bus (R194). -/
structure PortRec where
  completions : List Completion
  outstanding : Nat
  marks : Nat
  deliveries : List Delivery
  latches : Latches
  enables : Enables
  missed : Nat
  inReset : Bool
  reply : List Byte
  deriving DecidableEq, Repr

/-- A signal line (R178) with the level its pin is given from outside. The rows CARRIER_RISING, CARRIER_FALLING and TAMPER
change that level at L0, L1 and L2; no row changes it at L3 to L7, where it stays as it is (DESIGN CHOICE, log 40). -/
structure Line where
  dirOut : Bool
  latch : Bool
  fn : Bool
  ext : Bool
  deriving DecidableEq, Repr

/-- A port view (section 1.2). -/
structure View where
  first : Nat
  stride : Nat
  count : Nat
  deriving DecidableEq, Repr

/-- Trunk settings of the image (Table 10-1). -/
structure TrunkSet where
  enable : Bool
  proving : Nat
  depth : Nat
  deriving DecidableEq, Repr

/-- The settings in use (R182, Table 10-1) but for the bootstrap count. `views` is absent when no view is in use. -/
structure Settings where
  fromImage : Bool
  storeId : BitVec 64
  rootKey : Key
  rootLock : Bool
  viewsLock : Bool
  paymentLock : Bool
  tamperLock : Bool
  views : Option (View × View × View)
  address : Nat
  allocG : Nat
  allocP : Nat
  allocM : Nat
  allocInbound : Nat
  shares : PerReq
  t0 : TrunkSet
  t1 : TrunkSet
  stallLimit : Nat
  reply : Nat
  attempts : Nat
  confirm : Nat
  settle : Nat
  aheadMax : Nat
  aheadRotating : Bool
  control : Limits
  payment : Limits
  bulk : Limits
  mgmt : Limits
  reportInterval : Nat
  tamperArmed : Bool
  deriving DecidableEq, Repr

/-- A write of the settings store in progress (R184, R41). -/
inductive Write where
  | settings (image : List Byte) (kept : List Nat) (result : Nat) (tag : Byte) (marked : Bool)
  | count (n : Nat)
  deriving DecidableEq, Repr

/-- The settings store (R182): the stored image; whether it was cut short by a power-on reset (R184); the write in
progress; a RESTART and a bootstrap that wait for its end (R184, R41). -/
structure Store where
  image : List Byte
  spoiled : Bool
  write : Option Write
  restartWaits : Bool
  bootWaits : Bool
  deriving DecidableEq, Repr

end Sys2Proof.Machine
end

