-- ==== Sys2Proof/Machine/Formats.lean ====
section
/-! DEFINITION. Byte layouts and codes of Section 11, the keystream pass (R56), the tag input (R57), the wear cost (R89). -/

namespace Sys2Proof

/-! ### Codes of the names that commands carry (Table 8-1, Table 11-6, R196) -/

/-- All fault kinds, in the order of Table 8-1. -/
def FaultKind.all : List FaultKind :=
  [.tamper, .settingsBad, .coreCheck, .bootLimit, .noTrunk, .trunkDown, .trunkStall, .renewalFailed, .renewalRefused,
   .channelFrozen, .tagFailures, .keyStoreFull, .holdExpired, .rxOverrun, .deliveryOverrun, .protocol, .restarted]

/-- The number of a kind, 1 to 17 (R196). -/
def FaultKind.code (k : FaultKind) : Nat := FaultKind.all.idxOf k + 1

/-- The fixed severity of each kind (Table 8-1). -/
def FaultKind.severity : FaultKind → Machine.Severity
  | .tamper | .settingsBad | .coreCheck | .bootLimit | .noTrunk => .critical
  | .trunkDown | .trunkStall | .renewalFailed | .renewalRefused | .channelFrozen | .tagFailures | .keyStoreFull => .major
  | .holdExpired | .rxOverrun | .deliveryOverrun | .protocol | .restarted => .minor

/-- Whether a kind may be masked (Table 8-1). -/
def FaultKind.maskable : FaultKind → Bool
  | .tamper | .settingsBad | .coreCheck | .bootLimit => false
  | _ => true

/-- Trunk codes (Table 11-6). -/
def Trunk.code : Trunk → Nat
  | .t0 => 0 | .t1 => 1

/-- Port codes (Table 11-6). -/
def Port.code : Port → Nat
  | .g => 0 | .p => 1 | .m => 2

/-- Route codes (item 07h). -/
def Route.code : Route → Nat
  | .t0Only => 0 | .t1Only => 1 | .follow => 2

/-- Requester codes (item 08h). -/
def Requester.code : Requester → Nat
  | .g => 0 | .p => 1 | .m => 2 | .inbound => 3

/-- Source codes (item 08h); CONTROL is 04h. -/
def OutSrc.code : OutSrc → Nat
  | .g => 0 | .p => 1 | .m => 2 | .control => 4

end Sys2Proof

namespace Sys2Proof.Machine

/-! ### Numbers as bytes (R191) -/

/-- The low `n` bytes of `v`, most significant first (R191). -/
def beBytes : Nat → Nat → List Byte
  | 0, _ => []
  | n + 1, v => beBytes n (v / 256) ++ [BitVec.ofNat 8 v]

/-- The number that bytes spell, most significant first (R191). -/
def ofBytes (l : List Byte) : Nat := l.foldl (fun a b => a * 256 + b.toNat) 0

/-- The bytes of a tag, nonce, proof value or block. -/
def sixteenBytes (x : Sixteen) : List Byte := beBytes 16 x.toNat

/-- Sixteen bytes read as one value. -/
def ofSixteen (l : List Byte) : Sixteen := BitVec.ofNat 128 (ofBytes l)

/-- Byte `i` of a list, 0 past its end. -/
def byteAt (l : List Byte) (i : Nat) : Nat := (l.getD i 0).toNat

/-- The number at offset `i`, `n` bytes wide (R191). -/
def numAt (l : List Byte) (i n : Nat) : Nat := ofBytes ((l.drop i).take n)

/-- A one-byte field. -/
def b1 (n : Nat) : List Byte := beBytes 1 n

/-- A two-byte field. -/
def b2 (n : Nat) : List Byte := beBytes 2 n

/-- A four-byte field. -/
def b4 (n : Nat) : List Byte := beBytes 4 n

/-- A field of `n` bytes that may be absent: FFh in every byte then (R191, R194). -/
def optBytes (n : Nat) : Option Nat → List Byte
  | none => List.replicate n 0xFF
  | some v => beBytes n v

/-- Yes/no, on/off, set/clear (Table 11-6). -/
def boolCode (b : Bool) : Nat := if b then 1 else 0

/-- One byte for a yes/no value. -/
def bb (b : Bool) : List Byte := b1 (boolCode b)

/-! ### Wear cost and blocks -/

/-- Started 16-byte blocks of a payload of `len` bytes: ceil(len / 16). -/
def blocks (len : Nat) : Nat := (len + 15) / 16

/-- The cost u of a frame of payload length `len` in wear units and core blocks (R89, R79). -/
def cost (len : Nat) : Nat := blocks len + 1

/-- The cost of an outbound frame. -/
def Frame.cost (f : Frame) : Nat := Machine.cost f.payload.length

/-- The cost of an inbound frame (R61). -/
def InFrame.cost (f : InFrame) : Nat := Machine.cost f.payload.length

/-! ### Link frames (R192) -/

/-- Kind codes (Table 11-2). -/
def Kind.code : Kind → Nat
  | .data => 0x01 | .hello => 0x10 | .helloAck => 0x11 | .turnAsk => 0x20 | .turnGive => 0x21
  | .turnDone => 0x22 | .turnRefuse => 0x23 | .turnOrder => 0x24 | .faultReport => 0x30 | .closeNote => 0x31

/-- All kinds, in the order of their codes. -/
def Kind.all : List Kind :=
  [.data, .hello, .helloAck, .turnAsk, .turnGive, .turnDone, .turnRefuse, .turnOrder, .faultReport, .closeNote]

/-- The kind a code names (Table 11-2), if any. -/
def Kind.ofCode (n : Nat) : Option Kind := Kind.all.find? (fun k => k.code == n)

/-- The ten header bytes (Table 11-1). -/
def headerBytes (chan : Nat) (kind : Kind) (epoch seq len : Nat) : List Byte :=
  b1 chan ++ b1 kind.code ++ b2 epoch ++ b4 seq ++ b2 len

/-- The header of a received frame as received (R60, R62). -/
def InFrame.header (f : InFrame) : List Byte := headerBytes f.chan.val f.kind f.epoch f.seq f.payload.length

/-! ### Keystream and tag (R56, R57) -/

/-- The counter block (Table 3-3): channel, direction, epoch, sequence, zero, block index. -/
def counterBlock (chan dir epoch seq index : Nat) : Sixteen :=
  ofSixteen (b1 chan ++ b1 dir ++ b2 epoch ++ b4 seq ++ b4 0 ++ b4 index)

/-- Byte `k` (from 0) of a 16-byte block. -/
def blockByte (x : Sixteen) (k : Nat) : Byte := (sixteenBytes x).getD k 0

/-- The keystream byte for payload offset `j`: byte j mod 16 of the output for block index j / 16 + 1 (R56). -/
def keystreamByte (key : Key) (chan dir epoch seq j : Nat) : Byte :=
  blockByte (Config.keystream key (counterBlock chan dir epoch seq (j / 16 + 1))) (j % 16)

/-- Enciphering and deciphering: each payload byte XOR its keystream byte (R56). -/
def cipher (key : Key) (chan dir epoch seq : Nat) (payload : List Byte) : List Byte :=
  payload.mapIdx fun j b => b ^^^ keystreamByte key chan dir epoch seq j

/-- What an outbound job makes of a payload (R56): HELLO stays clear. Direction 0 is from the store. -/
def outPayload (key : Key) (kind : Kind) (chan epoch seq : Nat) (payload : List Byte) : List Byte :=
  if kind = .hello then payload else cipher key chan 0 epoch seq payload

/-- The tag of a frame (R57, R62): the header bytes followed by the payload as it stands on the link. -/
def frameTag (key : Key) (header payload : List Byte) : Sixteen := Config.tag key (header ++ payload)

/-- The bytes of an enciphered frame on the link (R192): header, payload as enciphered, tag. A frame that has not been
enciphered has none. -/
def Frame.linkBytes (f : Frame) : List Byte :=
  match f.bound, f.auth with
  | some b, some a => headerBytes f.chan.val f.kind b.epoch b.seq f.payload.length ++ f.payload ++ sixteenBytes a
  | _, _ => []

/-- What the transmission of a frame gives the modem up to its last byte (R141); the end marker follows. -/
def Frame.symbols (f : Frame) : List Symbol := .startMarker :: f.linkBytes.map .byte

/-! ### Derivation inputs (Table 2-3) -/

/-- The label "turnover" as its ASCII bytes, without a length or a terminator; the other inputs follow it without a gap
(DESIGN CHOICE: R39 gives no coding of the labels; log 34). -/
def turnoverLabel : List Byte := [0x74, 0x75, 0x72, 0x6E, 0x6F, 0x76, 0x65, 0x72]

/-- The label "bootstrap", coded as the other label is (DESIGN CHOICE, log 34). -/
def bootstrapLabel : List Byte := [0x62, 0x6F, 0x6F, 0x74, 0x73, 0x74, 0x72, 0x61, 0x70]

/-- The inputs of a turnover derivation in the order of Table 2-3 (their coding: log 34). -/
def turnoverInput (storeId : BitVec 64) (chan epoch : Nat) (store head : Sixteen) : List Byte :=
  turnoverLabel ++ beBytes 8 storeId.toNat ++ b1 chan ++ b2 epoch ++ sixteenBytes store ++ sixteenBytes head

/-- The inputs of a bootstrap derivation in the order of Table 2-3 (their coding: log 34). -/
def bootstrapInput (storeId : BitVec 64) (count : Nat) : List Byte :=
  bootstrapLabel ++ beBytes 8 storeId.toNat ++ b2 count

/-- The keystream key: the first 32 of the 64 bytes (section 2.5). -/
def ksOf (x : BitVec 512) : Key := x.extractLsb' 256 256

/-- The tag key: the last 32 of the 64 bytes (section 2.5). -/
def tagOf (x : BitVec 512) : Key := x.extractLsb' 0 256

/-! ### Control message payloads (R193) -/

/-- Reason codes (R193). -/
def Reason.code : Reason → Nat
  | .openKey => 1 | .ordered => 2 | .port => 3 | .suspect => 4 | .hard => 5 | .wear => 6 | .projected => 7 | .age => 8
  | .ahead => 9

/-- HELLO: store identity, bootstrap count. -/
def helloPayload (storeId : BitVec 64) (count : Nat) : List Byte := beBytes 8 storeId.toNat ++ b2 count

/-- TURN_ASK: channel, current epoch (0 when none), reason, store nonce. -/
def turnAskPayload (chan epoch : Nat) (reason : Reason) (store : Sixteen) : List Byte :=
  b1 chan ++ b2 epoch ++ b1 reason.code ++ sixteenBytes store

/-- TURN_DONE: channel, new epoch, proof value. -/
def turnDonePayload (chan epoch : Nat) (proof : Sixteen) : List Byte := b1 chan ++ b2 epoch ++ sixteenBytes proof

/-- CLOSE_NOTE: channel. -/
def closeNotePayload (chan : Nat) : List Byte := b1 chan

/-! ### Fault records (R196) -/

/-- Severity codes (R196): 1 CRITICAL, 2 MAJOR, 3 MINOR. A lower code is a higher severity (R151). -/
def Severity.code : Severity → Nat
  | .critical => 1 | .major => 2 | .minor => 3

/-- The 16 bytes of a fault record (R196); in a FAULT_REPORT the flags are 00h. -/
def FaultRec.bytes (r : FaultRec) (inFaultReport : Bool) : List Byte :=
  b1 r.kind.code ++ b1 r.kind.severity.code ++ optBytes 1 (r.chan.map (·.val)) ++ optBytes 1 (r.trunk.map Trunk.code)
    ++ optBytes 1 (r.port.map Port.code)
    ++ b1 (if inFaultReport then 0 else boolCode r.sent + 2 * boolCode r.taken)
    ++ b2 r.count ++ b4 r.first ++ b4 r.last

/-- FAULT_REPORT (R193): always 400 bytes. -/
def faultReportPayload (records : List FaultRec) (dropped lost : Nat) : List Byte :=
  let places := (records.map fun r => r.bytes true).flatten
  let front := b1 records.length ++ b1 0 ++ b2 dropped ++ b2 lost ++ List.replicate 10 0 ++ places
  front ++ List.replicate (400 - front.length) 0

/-! ### Codes of completion data (Table 11-6) -/

/-- Channel state codes. -/
def ChanState.code : ChanState → Nat
  | .closed => 0 | .openWait => 1 | .booting => 2 | .live => 3 | .frozen => 4

/-- Owner codes. -/
def Owner.code : Owner → Nat
  | .g => 0 | .p => 1 | .m => 2 | .link => 3

/-- Class codes. -/
def Class.code : Class → Nat
  | .control => 0 | .payment => 1 | .bulk => 2 | .mgmt => 3

/-- Renewal status codes. -/
def Renewal.code : Renewal → Nat
  | .idle => 0 | .listed => 1 | .exchanging => 2 | .paused => 3 | .stopped => 4

/-- Slot state codes. -/
def SlotState.code : SlotState → Nat
  | .empty => 0 | .reserved => 1 | .staged => 2 | .active => 3 | .settling => 4

/-- Exchange entry state codes: staging when the new epoch is present before CONFIRMING (R128). -/
def Exchange.stateCode (e : Exchange) : Nat :=
  match e.state, e.newEpoch with
  | .confirming, _ => 3
  | _, some _ => 2
  | .backingOff, none => 1
  | .asking, none => 0

/-- Bootstrap phase codes. -/
def Phase.code : Phase → Nat
  | .none => 0 | .helloWait => 1 | .helloBackoff => 2 | .helloSlow => 3

/-- Trunk state codes. -/
def TrunkState.code : TrunkState → Nat
  | .off => 0 | .down => 1 | .proving => 2 | .up => 3

/-- Part mode codes. -/
def Mode.code : Mode → Nat
  | .starting => 0 | .running => 1 | .safe => 2 | .lockdown => 3

/-- Derivation kind codes. -/
def Derivation.code : Derivation → Nat
  | .turnover .. => 0 | .bootstrap _ => 1 | .selfCheck => 2

/-- Cause codes: 01h to 13h in the order of Table 9-3 (R194). -/
def Cause.code : Cause → Nat
  | .badCommand => 0x01 | .notAllowed => 0x02 | .mode => 0x03 | .portDisabled => 0x04 | .noChannel => 0x05
  | .notOpen => 0x06 | .notClosed => 0x07 | .badLength => 0x08 | .noBuffer => 0x09 | .locked => 0x0A | .limit => 0x0B
  | .noSlot => 0x0C | .nothingPending => 0x0D | .alreadyRenewing => 0x0E | .lastTrunk => 0x0F | .busy => 0x10
  | .heldTooLong => 0x11 | .closedWhileQueued => 0x12 | .linkLost => 0x13

/-- Result codes (R194). -/
def Result.code : Result → Nat
  | .done => 0 | .sent => 1 | .refused _ => 2

/-- The cause byte of a completion record: 00h unless refused (R194). -/
def Result.causeCode : Result → Nat
  | .refused c => c.code
  | _ => 0

/-- A completion record on the bus (R194). -/
def Completion.bytes (c : Completion) : List Byte :=
  [c.tag] ++ b1 c.kind ++ b1 c.result.code ++ b1 c.result.causeCode ++ b2 c.data.length ++ c.data

/-- A delivery record on the bus (R194). -/
def Delivery.bytes (d : Delivery) : List Byte := b1 d.loc ++ b2 d.payload.length ++ d.payload

/-- The latch byte of READ_ATTENTION (R194). -/
def Latches.byte (l : Latches) : Byte :=
  BitVec.ofNat 8 (boolCode l.completion + 2 * boolCode l.delivery + 4 * boolCode l.channel + 8 * boolCode l.fault)

/-! ### CRC-32 (R197) -/

/-- One bit of the CRC: generator 04C11DB7h, least significant bit first (R197). -/
def crcBit (c : BitVec 32) : BitVec 32 := if c.getLsbD 0 then (c >>> 1) ^^^ 0xEDB88320#32 else c >>> 1

/-- One byte of the CRC. -/
def crcByte (c : BitVec 32) (b : Byte) : BitVec 32 := Nat.repeat crcBit 8 (c ^^^ b.setWidth 32)

/-- `f n`. The match has the kernel evaluate `n` first, which keeps the evaluation of a long fold shallow. -/
def strictly {α : Type} (n : Nat) (f : Nat → α) : α :=
  match n with
  | 0 => f 0
  | k + 1 => f (k + 1)

/-- The remainder after the bytes of a list, each shifted in in turn. -/
def crcRun : List Byte → BitVec 32 → BitVec 32
  | [], c => c
  | b :: l, c => strictly (crcByte c b).toNat fun n => crcRun l (BitVec.ofNat 32 n)

/-- The CRC-32 of R197: initial value FFFFFFFFh, final XOR FFFFFFFFh. -/
def crc32 (l : List Byte) : BitVec 32 := crcRun l 0xFFFFFFFF#32 ^^^ 0xFFFFFFFF#32

end Sys2Proof.Machine
end

