-- ==== Sys2Proof/Decode.lean ====
section
/-! DEFINITION. What a bus transaction spells: transaction codes, command records and items (R194, Tables 11-4 and 9-2).
The rows of spec/opcode_table.json carry no bits, so no word of that table spells a command. -/

namespace Sys2Proof

/-- The command that a word of the table's bits spells. The table gives no row any bits (log 23). -/
def decodeTableWord (_nbits _w : Nat) : Option Instr := none

namespace Machine

/-! ### Items (Table 11-4) -/

/-- The width of an item's value. -/
def itemWidth : Nat → Option Nat
  | 0x01 => some 1 | 0x02 => some 4 | 0x03 => some 1 | 0x04 => some 4 | 0x05 => some 2 | 0x06 => some 1
  | 0x07 => some 1 | 0x08 => some 3 | 0x09 => some 2 | 0x0A => some 4 | 0x0B => some 1 | 0x0C => some 3
  | 0x0D => some 1 | 0x0E => some 17 | 0x0F => some 0
  | _ => none

/-- An item: its code and the bytes of its value. -/
abbrev Item := Nat × List Byte

/-- The items of a parameter list (R194); none when a code is undefined or an item is cut short. The first argument
bounds the number of items. -/
def parseItems : Nat → List Byte → Option (List Item)
  | _, [] => some []
  | 0, _ :: _ => none
  | n + 1, b :: rest =>
    match itemWidth b.toNat with
    | none => none
    | some w => if rest.length < w then none else (parseItems n (rest.drop w)).map fun l => (b.toNat, rest.take w) :: l

/-- Two items are the same item (R194): item 08h once for each source or requester. -/
def sameItem (x y : Item) : Bool := x.1 == y.1 && (x.1 != 0x08 || x.2.head? == y.2.head?)

/-- No item stands twice (R194). -/
def distinctItems : List Item → Bool
  | [] => true
  | x :: l => !(l.any fun y => sameItem x y) && distinctItems l

/-- A yes/no code. -/
def isBit (b : Byte) : Bool := b == 0 || b == 1

/-- A yes/no code, or FFh for keep. -/
def isBitOrKeep (b : Byte) : Bool := isBit b || b == 0xFF

/-- The codes inside an item are defined (R194; for trunks, ports, sources and kind lists log 15). Table 11-6 also codes
CONTROL (04h) for item 08h and LINK (03h) for item 0Bh, which no command can name (R75, R80, R174, R175); no rule gives
the cause, and the model refuses such a record BAD_COMMAND (DESIGN CHOICE, log 15). -/
def Item.fits (x : Item) : Bool :=
  match x.1 with
  | 0x07 => decide (byteAt x.2 0 ≤ 2)
  | 0x08 => decide (byteAt x.2 0 ≤ 3)
  | 0x09 => decide (byteAt x.2 0 ≤ 1) && isBit (x.2.getD 1 0)
  | 0x0A => (x.2.drop 1).all isBitOrKeep
  | 0x0B => decide (byteAt x.2 0 ≤ 2)
  | 0x0C => x.2.all isBitOrKeep
  | 0x0E => x.2.all isBit
  | _ => true

/-- The items a command takes (R194: the items its rule names), and those it must have (log 15). -/
def commandItems : Nat → List Nat × List Nat
  | 0x02 => ([0x01], [0x01])
  | 0x03 => ([0x01, 0x02, 0x03, 0x04, 0x05, 0x06, 0x07], [0x01])
  | 0x04 => ([0x01], [0x01])
  | 0x05 => ([0x01, 0x02, 0x03, 0x04, 0x05, 0x06, 0x07], [0x01])
  | 0x06 => ([0x01], [0x01])
  | 0x07 => ([0x01], [0x01])
  | 0x08 => ([0x0D], [0x0D])
  | 0x09 => ([0x08], [])
  | 0x0B => ([0x08], [])
  | 0x0F => ([0x09], [0x09])
  | 0x10 => ([0x0F], [])
  | 0x11 => ([0x0E], [0x0E])
  | 0x12 => ([0x0E], [0x0E])
  | 0x15 => ([0x0B, 0x0C], [0x0B])
  | 0x16 => ([0x0B, 0x0F], [0x0B])
  | 0x17 => ([0x0A], [0x0A])
  | _ => ([], [])

/-- The items of a well-formed record of a command that takes items (R194). -/
def wellItems (kind : Nat) (params : List Byte) : Option (List Item) :=
  match parseItems params.length params with
  | none => none
  | some l =>
    if distinctItems l && (l.all fun x => (commandItems kind).1.contains x.1 && Item.fits x)
        && ((commandItems kind).2.all fun k => l.any fun x => x.1 == k) then some l
    else none

/-! ### Values of items -/

/-- The value of an item as a number, when present. -/
def itemNat (l : List Item) (code : Nat) : Option Nat := (l.find? fun x => x.1 == code).map fun x => ofBytes x.2

/-- The bytes of an item, or none of them. -/
def itemBytes (l : List Item) (code : Nat) : List Byte := ((l.find? fun x => x.1 == code).map (·.2)).getD []

/-- The value that item 08h gives for a source or requester code. -/
def itemShare (l : List Item) (who : Nat) : Option Nat :=
  (l.find? fun x => x.1 == 0x08 && byteAt x.2 0 == who).map fun x => ofBytes (x.2.drop 1)

/-- An item is present. -/
def hasItem (l : List Item) (code : Nat) : Bool := l.any fun x => x.1 == code

/-- FFh keeps, otherwise a yes/no value. -/
def keepOr (b : Byte) : Option Bool := if b = 0xFF then none else some (b != 0)

/-- A route code (item 07h). -/
def routeOf : Nat → Route
  | 0 => .t0Only
  | 1 => .t1Only
  | _ => .follow

/-- A port code (item 0Bh). -/
def portOf : Nat → Port
  | 0 => .g
  | 1 => .p
  | _ => .m

/-- A trunk code (item 09h). -/
def trunkOf : Nat → Trunk
  | 0 => .t0
  | _ => .t1

/-- The limit fields of OPEN and SET_LIMITS. -/
def limitItems (l : List Item) : LimitFields :=
  ⟨itemNat l 0x02, itemNat l 0x03, itemNat l 0x04, itemNat l 0x05, itemNat l 0x06, (itemNat l 0x07).map routeOf⟩

/-- The kinds that a kind list marks 01h (item 0Eh). -/
def kindItems (l : List Item) : List FaultKind :=
  ((itemBytes l 0x0E).zip FaultKind.all).filterMap fun x => if x.1 = 1 then some x.2 else none

/-! ### Command records -/

/-- A command that takes items (Table 9-2, codes 02h to 19h). -/
def itemCommand (pt : Port) (kind : Nat) (tag : Byte) (l : List Item) : Option Instr :=
  let c := (itemNat l 0x01).getD 0
  match kind with
  | 0x02 => some (.channelStatus pt tag c)
  | 0x03 => some (.openChannel pt tag c (limitItems l))
  | 0x04 => some (.closeChannel pt tag c)
  | 0x05 => some (.setLimits pt tag c (limitItems l))
  | 0x06 => some (.renew pt tag c)
  | 0x07 => some (.abortRenewal pt tag c)
  | 0x08 => some (.keyStoreStatus pt tag ((itemNat l 0x0D).getD 0))
  | 0x09 => some (.setAllocations pt tag ⟨itemShare l 0, itemShare l 1, itemShare l 2, itemShare l 3⟩)
  | 0x0A => some (.poolStatus pt tag)
  | 0x0B => some (.setShares pt tag ⟨itemShare l 3, itemShare l 1, itemShare l 0, itemShare l 2⟩)
  | 0x0C => some (.arbiterStatus pt tag)
  | 0x0D => some (.waitListStatus pt tag)
  | 0x0E => some (.exchangeStatus pt tag)
  | 0x0F =>
    let v := itemBytes l 0x09
    some (.setTrunk pt tag (trunkOf (byteAt v 0)) (byteAt v 1 != 0))
  | 0x10 => some (.trunkStatus pt tag (hasItem l 0x0F))
  | 0x11 => some (.clearLatches pt tag (kindItems l))
  | 0x12 => some (.setFaultMask pt tag (kindItems l))
  | 0x13 => some (.takeFault pt tag)
  | 0x14 => some (.faultStatus pt tag)
  | 0x15 =>
    let v := itemBytes l 0x0C
    some (.setPort pt tag (portOf ((itemNat l 0x0B).getD 0)) (keepOr (v.getD 0 0xFF)) (keepOr (v.getD 1 0xFF))
      (keepOr (v.getD 2 0xFF)))
  | 0x16 => some (.portStatus pt tag (portOf ((itemNat l 0x0B).getD 0)) (hasItem l 0x0F))
  | 0x17 =>
    let v := itemBytes l 0x0A
    some (.setLine pt tag (byteAt v 0) (keepOr (v.getD 1 0xFF)) (keepOr (v.getD 2 0xFF)) (keepOr (v.getD 3 0xFF)))
  | 0x18 => some (.readLines pt tag)
  | 0x19 => some (.partStatus pt tag)
  | _ => none

/-- The command of a record's kind, tag and parameters (R194); none when the record is malformed. -/
def recordCommand (pt : Port) (kind : Nat) (tag : Byte) (params : List Byte) : Option Instr :=
  match kind, params with
  | 0x01, [] => none
  | 0x01, c :: payload => some (.send pt tag c.toNat payload)
  | 0x1A, _ => if params.length = 133 then some (.writeSettings pt tag params) else none
  | 0x1B, _ => if params = [] then some (.restart pt tag) else none
  | 0x1C, _ => if params = [] then some (.zeroize pt tag) else none
  | k, _ => (wellItems k params).bind fun l => itemCommand pt k tag l

/-- A command record (R194): kind, tag, parameter length, parameters. A malformed one is UNDEFINED_COMMAND. So is one that
ends before its P bytes: R194 calls a disagreeing P malformed and a WRITE_COMMAND cut short not taken, and does not part
the two (DESIGN CHOICE, log 15). -/
def decodeRecord (pt : Port) (record : List Byte) : Instr :=
  match record with
  | kind :: tag :: hi :: lo :: params =>
    if params.length = ofBytes [hi, lo] then
      (recordCommand pt kind.toNat tag params).getD (.undefinedCommand pt record)
    else .undefinedCommand pt record
  | _ => .undefinedCommand pt record

/-- A bus transaction (R194): the code and what the master sends after it. Bytes beyond those of the table after a read
code are ignored; R194 does not say what becomes of them (DESIGN CHOICE, log 43). -/
def decodeTransaction (pt : Port) (bytes : List Byte) : Instr :=
  match bytes with
  | [] => .transactionCutShort pt
  | code :: rest =>
    match code.toNat, rest with
    | 0x01, _ => decodeRecord pt rest
    | 0x02, _ => .readCompletion pt
    | 0x03, _ => .readDelivery pt
    | 0x04, [] => .transactionCutShort pt
    | 0x04, clear :: _ => .readAttention pt clear
    | _, _ => .undefinedTransaction pt code

end Machine
end Sys2Proof
end

