-- ==== Sys2Proof/Machine/Defaults.lean ====
section
/-! DEFINITION. The delivered defaults (R182) and the empty records of each block. -/

namespace Sys2Proof.Machine

/-- Table 1-6, class CONTROL. -/
def Limits.control : Limits := ⟨4194304, 8, 86400, 300, 30, .follow⟩

/-- Table 1-6, class PAYMENT. -/
def Limits.payment : Limits := ⟨16777216, 8, 3600, 120, 5, .follow⟩

/-- Table 1-6, class BULK. -/
def Limits.bulk : Limits := ⟨268435456, 4, 86400, 300, 30, .follow⟩

/-- Table 1-6, class MGMT. -/
def Limits.mgmt : Limits := ⟨4194304, 8, 86400, 300, 60, .follow⟩

/-- Class defaults as the image holds them (Table 11-5): H, m, A, D, hold limit, route. -/
def Limits.bytes (l : Limits) : List Byte :=
  b4 l.hard ++ b1 l.margin ++ b4 l.age ++ b2 l.lead ++ b1 l.hold ++ b1 l.route.code

/-- The image of a new part as delivered: the values of Table 1-6 as its class defaults at offsets 81 to 132 (R23). The
bytes the manual does not give are 00h, and the CRC-32 test fails (section 10.7). DESIGN CHOICE, log 6. -/
def deliveredImage : List Byte :=
  List.replicate 81 0 ++ Limits.control.bytes ++ Limits.payment.bytes ++ Limits.bulk.bytes ++ Limits.mgmt.bytes
    ++ List.replicate 6 0

/-- The delivered defaults that are in use when the image fails its check (R182). -/
def Settings.delivered : Settings where
  fromImage := false
  storeId := 0
  rootKey := 0
  rootLock := false
  viewsLock := false
  paymentLock := false
  tamperLock := false
  views := none
  address := 82
  allocG := 64
  allocP := 24
  allocM := 8
  allocInbound := 24
  shares := ⟨128, 192, 128, 32⟩
  t0 := ⟨true, 5, 8⟩
  t1 := ⟨true, 2, 8⟩
  stallLimit := 20
  reply := 6
  attempts := 4
  confirm := 5
  settle := 30
  aheadMax := 1
  aheadRotating := true
  control := .control
  payment := .payment
  bulk := .bulk
  mgmt := .mgmt
  reportInterval := 10
  tamperArmed := true

/-- The class defaults of the settings in use (R9). -/
def Settings.classLimits (t : Settings) : Class → Limits
  | .control => t.control
  | .payment => t.payment
  | .bulk => t.bulk
  | .mgmt => t.mgmt

/-- An EMPTY slot (R24): no channel, zero keys, no conditional field. -/
def Slot.wiped : Slot := ⟨.empty, none, 0, 0, none, none, false, false⟩

/-- A CLOSED, IDLE record with the given owner, class and limits (R23). -/
def Chan.fresh (o : Owner) (c : Class) (l : Limits) : Chan :=
  ⟨.closed, o, c, l, .idle, none, none, none, 0, 0, 0, none, none⟩

/-- An empty outbound source (R70). -/
def Source.fresh : Source := ⟨[], Vector.replicate 32 [], 0⟩

/-- The pool with every buffer free (R77) and the allocations of the settings (R72). -/
def Pool.fresh (t : Settings) : Pool := ⟨t.allocG, t.allocP, t.allocM, t.allocInbound, 0, 0, 0, 0, 0, 128⟩

/-- The arbiter after power-on reset (R87). -/
def Arbiter.fresh (t : Settings) : Arbiter := ⟨t.shares, ⟨0, 0, 0, 0⟩, 0, .m⟩

/-- The scheduler after every reset but a port reset (R109). -/
def Scheduler.fresh : Scheduler := ⟨[], 0, none⟩

/-- The bootstrap record in phase NONE with no count in use (R134). -/
def Boot.fresh : Boot := ⟨.none, 1, none, none⟩

/-- Receive counters at 0 (R149). -/
def Counters.zero : Counters := ⟨0, 0, 0, 0, 0, 0⟩

/-- A trunk after power-on reset (R150); the hold input keeps the level the modem gives it. -/
def TrunkRec.fresh (t : TrunkSet) (hold : Bool) : TrunkRec :=
  ⟨t.enable, .off, hold, none, [], 0, false, none, [], 0, .zero, t.depth, t.proving⟩

/-- The fault unit after power-on reset (R167). -/
def FaultUnit.fresh : FaultUnit := ⟨[], [], [], 0, 0, none, none⟩

/-- All latches clear. -/
def Latches.clear : Latches := ⟨false, false, false, false⟩

/-- A command port after power-on reset (R177); the reset input is the board's. -/
def PortRec.fresh (inReset : Bool) : PortRec :=
  ⟨[], 0, 0, [], .clear, ⟨true, true, true⟩, 0, inReset, []⟩

/-- Line number `i` after power-on reset (R181, R178): IN, latch 0, function on but for L7. -/
def Line.fresh (i : Nat) (ext : Bool) : Line := ⟨false, false, i != 7, ext⟩

end Sys2Proof.Machine
end

