-- ==== Sys2Proof/Machine/State.lean ====
section
/-! DEFINITION. The state of the part, its value after power-on reset, and the two reasons a step could stop. -/

namespace Sys2Proof.Machine

/-- Everything the part keeps (section 0.2: "every state the part keeps"), and the queue of the steps that wait. -/
structure State where
  mode : Mode
  uptime : Nat
  store : Store
  settings : Settings
  chans : Vector Chan 32
  slots : Vector Slot 48
  srcG : Source
  srcP : Source
  srcM : Source
  srcControl : Source
  inFifo : List InFrame
  pool : Pool
  core : Core
  derivs : List Derivation
  arb : Arbiter
  sched : Scheduler
  exch : List Exchange
  boot : Boot
  t0 : TrunkRec
  t1 : TrunkRec
  active : Option Trunk
  fault : FaultUnit
  portG : PortRec
  portP : PortRec
  portM : PortRec
  lines : Vector Line 8
  draws : Nat
  pending : List Instr
  deriving DecidableEq, Repr

/-- Model faults. The manual gives every step an effect in every state, so no meaning answers with one (log 30). -/
inductive Fault where
  /-- Raised by nobody. Kept so that the type is inhabited. Safe. -/
  | none
  deriving DecidableEq, Repr

/-- Model refusals. -/
inductive Refusal where
  /-- Raised by exec for a row that has no meaning yet; no row is in that case. Safe. -/
  | notModelled (mnemonic : String)
  deriving DecidableEq, Repr

/-- The part right after a power-on reset of a new part (R186 steps 1 and 2 taken, the self-check of step 3 running).
The stored image of a new part carries the class defaults of Table 1-6 (R23) and fails its check (section 10.7), so the
delivered defaults are in use and SETTINGS_BAD has been raised: its latch is set, its record stands in the fault queue
and port M's FAULT latch is set. Log 6, log 7. -/
def State.reset : State where
  mode := .starting
  uptime := 0
  store := ⟨deliveredImage, false, none, false, false⟩
  settings := .delivered
  chans := Vector.replicate 32 (.fresh .link .control .control)
  slots := Vector.replicate 48 .wiped
  srcG := .fresh
  srcP := .fresh
  srcM := .fresh
  srcControl := .fresh
  inFifo := []
  pool := .fresh .delivered
  core := .derives .selfCheck
  derivs := []
  arb := .fresh .delivered
  sched := .fresh
  exch := []
  boot := .fresh
  t0 := .fresh Settings.delivered.t0 false
  t1 := .fresh Settings.delivered.t1 false
  active := none
  fault := { FaultUnit.fresh with
    latches := [.settingsBad]
    queue := [⟨.settingsBad, none, none, none, 0, 0, 1, false, false, false⟩] }
  portG := .fresh false
  portP := .fresh false
  portM := { PortRec.fresh false with latches := ⟨false, false, false, true⟩ }
  lines := Vector.ofFn fun i : Fin 8 => .fresh i.val false
  draws := 0
  pending := []

end Sys2Proof.Machine
end

