-- ==== Sys2Proof/Machine/Access.lean ====
section
/-! DEFINITION. Reading and updating one record of the state. -/

namespace Sys2Proof

/-- The holder whose buffers a port's frames take (R73). -/
def Port.holder : Port → Holder
  | .g => .g | .p => .p | .m => .m

/-- The outbound source of a port (section 3.1). -/
def Port.src : Port → OutSrc
  | .g => .g | .p => .p | .m => .m

/-- The holder of an outbound source's buffers (R71). -/
def OutSrc.holder : OutSrc → Holder
  | .g => .g | .p => .p | .m => .m | .control => .control

/-- The port of an outbound source; CONTROL has none. -/
def OutSrc.port : OutSrc → Option Port
  | .g => some .g | .p => some .p | .m => some .m | .control => none

/-- The other trunk. -/
def Trunk.other : Trunk → Trunk
  | .t0 => .t1 | .t1 => .t0

/-- The carrier line of a trunk (R136): L0 for T0, L1 for T1. -/
def Trunk.line : Trunk → Fin 8
  | .t0 => 0 | .t1 => 1

namespace Machine

/-- The record of a port. -/
def State.port (s : State) : Port → PortRec
  | .g => s.portG | .p => s.portP | .m => s.portM

/-- Update the record of a port. -/
def State.modPort (s : State) (pt : Port) (f : PortRec → PortRec) : State :=
  match pt with
  | .g => { s with portG := f s.portG }
  | .p => { s with portP := f s.portP }
  | .m => { s with portM := f s.portM }

/-- The record of a trunk. -/
def State.trunk (s : State) : Trunk → TrunkRec
  | .t0 => s.t0 | .t1 => s.t1

/-- Update the record of a trunk. -/
def State.modTrunk (s : State) (t : Trunk) (f : TrunkRec → TrunkRec) : State :=
  match t with
  | .t0 => { s with t0 := f s.t0 }
  | .t1 => { s with t1 := f s.t1 }

/-- An outbound source. -/
def State.src (s : State) : OutSrc → Source
  | .g => s.srcG | .p => s.srcP | .m => s.srcM | .control => s.srcControl

/-- Update an outbound source. -/
def State.modSrc (s : State) (o : OutSrc) (f : Source → Source) : State :=
  match o with
  | .g => { s with srcG := f s.srcG }
  | .p => { s with srcP := f s.srcP }
  | .m => { s with srcM := f s.srcM }
  | .control => { s with srcControl := f s.srcControl }

/-- A record of the channel table. -/
def State.chan (s : State) (c : ChanId) : Chan := s.chans[c.val]

/-- Update a record of the channel table. -/
def State.modChan (s : State) (c : ChanId) (f : Chan → Chan) : State :=
  { s with chans := s.chans.set c.val (f (s.chans[c.val])) }

/-- A key slot. -/
def State.slot (s : State) (i : SlotId) : Slot := s.slots[i.val]

/-- Update a key slot. -/
def State.modSlot (s : State) (i : SlotId) (f : Slot → Slot) : State :=
  { s with slots := s.slots.set i.val (f (s.slots[i.val])) }

/-- A signal line. -/
def State.line (s : State) (i : Fin 8) : Line := s.lines[i.val]

/-- Update a signal line. -/
def State.modLine (s : State) (i : Fin 8) (f : Line → Line) : State :=
  { s with lines := s.lines.set i.val (f (s.lines[i.val])) }

/-- All channel numbers, ascending. -/
def allChans : List ChanId := List.finRange 32

/-- All slot numbers, ascending. -/
def allSlots : List SlotId := List.finRange 48

/-- All line numbers, ascending. -/
def allLines : List (Fin 8) := List.finRange 8

/-- The conditional fields of a channel's current slot (R3). -/
def State.curKeyed (s : State) (c : ChanId) : Option Keyed := (s.chan c).cur.bind fun i => (s.slot i).keyed

end Machine
end Sys2Proof
end

