-- ==== Sys2Proof/Machine/Pool.lean ====
section
/-! DEFINITION. The buffer pool: what a take and a return do (R71 to R74). -/

namespace Sys2Proof.Machine

/-- The holding of a source (R71). -/
def Pool.held (p : Pool) : Holder → Nat
  | .g => p.heldG | .p => p.heldP | .m => p.heldM | .inbound => p.heldInbound | .control => p.heldControl

/-- The allocation of a source (R72); CONTROL's is fixed at 8. -/
def Pool.alloc (p : Pool) : Holder → Nat
  | .g => p.allocG | .p => p.allocP | .m => p.allocM | .inbound => p.allocInbound | .control => 8

/-- Write the holding of a source. -/
def Pool.setHeld (p : Pool) (h : Holder) (n : Nat) : Pool :=
  match h with
  | .g => { p with heldG := n }
  | .p => { p with heldP := n }
  | .m => { p with heldM := n }
  | .inbound => { p with heldInbound := n }
  | .control => { p with heldControl := n }

/-- A take (R73): granted while the holding is below the allocation and a buffer is free. -/
def Pool.take (p : Pool) (h : Holder) : Option Pool :=
  if p.held h < p.alloc h ∧ 0 < p.free then
    some { p.setHeld h (p.held h + 1) with free := p.free - 1 }
  else none

/-- A return (R74). A source that holds nothing returns nothing (log 29). -/
def Pool.give (p : Pool) (h : Holder) : Pool :=
  if 0 < p.held h then { p.setHeld h (p.held h - 1) with free := p.free + 1 } else p

/-- Every buffer free, allocations kept (R77, tamper). -/
def Pool.allFree (p : Pool) : Pool := ⟨p.allocG, p.allocP, p.allocM, p.allocInbound, 0, 0, 0, 0, 0, 128⟩

/-- The five holdings together (R71). -/
def Pool.totalHeld (p : Pool) : Nat := p.heldG + p.heldP + p.heldM + p.heldInbound + p.heldControl

/-- Ask the pool for a buffer (R73); none when refused. -/
def State.takeBuf (s : State) (h : Holder) : Option State := (s.pool.take h).map fun p => { s with pool := p }

/-- Return a buffer (R74). -/
def State.giveBuf (s : State) (h : Holder) : State := { s with pool := s.pool.give h }

end Sys2Proof.Machine
end

