-- ==== Sys2Proof/Machine/Flags.lean ====
section
/-! DEFINITION. Attention latches (R172), control messages (R111), fault latches, records and reports (section 8). -/

namespace Sys2Proof.Machine

/-! ### Attention (R172) -/

/-- The attention level of a port (R172): the ATTENTION enable is on and a latch is set. -/
def PortRec.level (r : PortRec) : Bool :=
  r.enables.attention && (r.latches.completion || r.latches.delivery || r.latches.channel || r.latches.fault)

/-- Set the CHANNEL latch of a port (R21). -/
def State.latchChannel (s : State) (pt : Port) : State :=
  s.modPort pt fun r => { r with latches := { r.latches with channel := true } }

/-- Set the FAULT latch of port M (R166). -/
def State.latchFault (s : State) : State :=
  s.modPort .m fun r => { r with latches := { r.latches with fault := true } }

/-- The port that hears of a channel's changes: its owner, or port M for channel 0 (R21). -/
def Owner.port : Owner → Port
  | .g => .g | .p => .p | .m => .m | .link => .m

/-- CHANNEL attention for a change of channel `c` (R21). -/
def State.tellChannel (s : State) (c : ChanId) : State := s.latchChannel (s.chan c).owner.port

/-! ### Control messages (R111) -/

/-- Build a control message: take a CONTROL buffer and join the end of the CONTROL FIFO; none when the take is refused
(R73, R111). -/
def State.build? (s : State) (kind : Kind) (payload : List Byte) : Option State :=
  (s.takeBuf .control).map fun s =>
    s.modSrc .control fun r =>
      { r with
        fifo := r.fifo ++ [⟨.control, kind, 0, 0, 0, false, r.nextSub, payload, none, none, none⟩]
        nextSub := r.nextSub + 1 }

/-- Build a control message, or go on as if it had been built and lost (R111). -/
def State.build (s : State) (kind : Kind) (payload : List Byte) : State := (s.build? kind payload).getD s

/-! ### Reports (R161, R162) -/

/-- The records a report takes: the unsent ones in queue order, up to 8 (R161). -/
def reportRecords (q : List FaultRec) : List FaultRec := (q.filter fun r => !r.sent).take 8

/-- Mark the first `n` unsent records as being in the report in flight (R161). -/
def markReport : Nat → List FaultRec → List FaultRec
  | _, [] => []
  | 0, q => q
  | n + 1, r :: q => if r.sent then r :: markReport (n + 1) q else { r with inReport := true } :: markReport n q

/-- The queue holds an unsent CRITICAL record (R162). -/
def FaultUnit.unsentCritical (u : FaultUnit) : Bool :=
  u.queue.any fun r => !r.sent && r.kind.severity == .critical

/-- The three conditions of R161: channel 0 LIVE, no report in flight, an unsent record. -/
def State.mayReport (s : State) : Bool :=
  (s.chan 0).state == .live && s.fault.report.isNone && s.fault.queue.any fun r => !r.sent

/-- Build a FAULT_REPORT (R161); a refused take leaves every record as it is. -/
def State.buildReport (s : State) : State :=
  match s.build? .faultReport (faultReportPayload (reportRecords s.fault.queue) s.fault.dropped s.fault.lost) with
  | none => s
  | some s' =>
    { s' with fault := { s.fault with
        queue := markReport 8 s.fault.queue
        report := some ⟨s.fault.dropped, s.fault.lost⟩ } }

/-- The report test (R162). At the report deadline the three conditions suffice; at every other event an unsent
CRITICAL record is needed too. -/
def State.reportTest (s : State) (atDeadline : Bool) : State :=
  if s.mayReport && (atDeadline || s.fault.unsentCritical) then s.buildReport else s

/-- The outcome of the report in flight (R163). -/
def State.reportOutcome (s : State) (sent : Bool) : State :=
  match s.fault.report with
  | none => s
  | some rep =>
    let queue := if sent then
        (s.fault.queue.map fun r => if r.inReport then { r with sent := true, inReport := false } else r).filter
          fun r => !(r.sent && r.taken)
      else s.fault.queue.map fun r => { r with inReport := false }
    let u := { s.fault with
      queue := queue
      dropped := if sent then s.fault.dropped - rep.dropped else s.fault.dropped
      lost := if sent then s.fault.lost - rep.lost else s.fault.lost
      report := none }
    State.reportTest { s with fault := u } false

/-- The report in flight is abandoned without an outcome (R164: RESTART, entry into SAFE). -/
def FaultUnit.abandon (u : FaultUnit) : FaultUnit :=
  { u with queue := u.queue.map fun r => { r with inReport := false }, report := none, deadline := none }

/-! ### Raising a fault (R152 to R157) -/

/-- Count up to 65,535 (R157, R149). -/
def satIncr (n : Nat) : Nat := min (n + 1) 65535

/-- Remove the first record that `p` picks. -/
def removeFirst (p : FaultRec → Bool) : List FaultRec → List FaultRec
  | [] => []
  | r :: q => if p r then q else r :: removeFirst p q

/-- The code of the lowest severity present in a queue (R156); a higher code is a lower severity. -/
def lowestSeverity (q : List FaultRec) : Nat := (q.map fun r => r.kind.severity.code).foldl max 0

/-- Making room in a queue that holds 32 records (R156): none when there is no room for a record of severity `sev`. -/
def FaultUnit.makeRoom (u : FaultUnit) (sev : Severity) : Option FaultUnit :=
  if (u.queue.any fun r => r.taken && !r.sent) then
    some { u with queue := removeFirst (fun r => r.taken && !r.sent) u.queue, lost := satIncr u.lost }
  else
    let low := lowestSeverity u.queue
    if sev.code < low then
      match u.queue.find? fun r => r.kind.severity.code == low with
      | none => none
      | some r => some { u with
          queue := removeFirst (fun r => r.kind.severity.code == low) u.queue
          lost := if r.sent then u.lost else satIncr u.lost }
    else none

/-- The record made by a raise (R155). -/
def FaultRec.made (k : FaultKind) (c : Option ChanId) (t : Option Trunk) (pt : Option Port)
    (now : Nat) : FaultRec :=
  ⟨k, c, t, pt, now, now, 1, false, false, false⟩

/-- Whether a record is untaken and has the identity of a raise (R154, R155). -/
def FaultRec.coalesces (r : FaultRec) (k : FaultKind) (c : Option ChanId) (t : Option Trunk) : Bool :=
  !r.taken && r.kind == k && r.chan == c && r.trunk == t

/-- A record that takes a further raise (R155): last second, repeat count, unsent, out of the report in flight. -/
def FaultRec.again (r : FaultRec) (now : Nat) : FaultRec :=
  { r with last := now, count := satIncr r.count, sent := false, inReport := false }

/-- The queue after the untaken record of an identity has taken a raise (R155). -/
def FaultUnit.coalesce (u : FaultUnit) (k : FaultKind) (c : Option ChanId) (t : Option Trunk) (now : Nat) : FaultUnit :=
  { u with queue := u.queue.map (fun r => if r.coalesces k c t = true then r.again now else r) }

/-- The fault unit after the latch of a kind is set (R152). -/
def FaultUnit.latched (u : FaultUnit) (k : FaultKind) : FaultUnit :=
  if u.latches.contains k then u else { u with latches := u.latches ++ [k] }

/-- Append a record, making room first when the queue is full (R155, R156). A new CRITICAL record leads to the report
test (R162). -/
def State.appendRecord (s : State) (r : FaultRec) : State :=
  let made := if s.fault.queue.length < 32 then some s.fault else s.fault.makeRoom r.kind.severity
  match made with
  | none => { s with fault := { s.fault with dropped := satIncr s.fault.dropped } }
  | some u =>
    let s := State.latchFault { s with fault := { u with queue := u.queue ++ [r] } }
    if r.kind.severity == .critical then s.reportTest false else s

/-- A raise (R152, R153, R155). -/
def State.raise (s : State) (k : FaultKind) (c : Option ChanId := none) (t : Option Trunk := none)
    (pt : Option Port := none) : State :=
  let s := { s with fault := s.fault.latched k }
  if s.fault.mask.contains k then s
  else if (s.fault.queue.any fun r => r.coalesces k c t) then
    { s with fault := s.fault.coalesce k c t s.uptime }
  else s.appendRecord (.made k c t pt s.uptime)

/-- The fault output level (R165): an unmasked latch of severity CRITICAL or MAJOR is set. -/
def FaultUnit.level (u : FaultUnit) : Bool :=
  u.latches.any fun k => k.severity != .minor && !u.mask.contains k

end Sys2Proof.Machine
end

