-- ==== Sys2Proof/Machine/Operands.lean ====
section
/-! DEFINITION. How commands name channels (R7, Table 1-4), and how limits are clamped (R11, Table 1-5). -/

namespace Sys2Proof.Machine

/-- The view of a port in the settings in use; none when no view is in use (R5, R182). -/
def Settings.view (t : Settings) (pt : Port) : Option View :=
  t.views.map fun v => match pt with | .g => v.1 | .p => v.2.1 | .m => v.2.2

/-- The global channel of local number `n` of a view (section 1.2). -/
def View.global (v : View) (n : Nat) : Nat := v.first + n * v.stride

/-- Whether a global channel lies in a view (section 1.2). -/
def View.has (v : View) (c : Nat) : Bool := (List.range v.count).any fun n => v.global n == c

/-- The local number of a global channel in a view (R67). -/
def View.localOf (v : View) (c : Nat) : Nat := (c - v.first) / v.stride

/-- A local channel number that a port writes (R7): refused at or above the view count. -/
def State.resolveLocal (s : State) (pt : Port) (n : Nat) : Option ChanId :=
  match s.settings.view pt with
  | none => none
  | some v => if n < v.count then (if h : v.global n < 32 then some ⟨v.global n, h⟩ else none) else none

/-- A global channel number that port M writes (R7): channel 0, or a channel that lies in a view, that is one that a
port owns (R5). -/
def State.resolveGlobal (s : State) (n : Nat) : Option ChanId :=
  if h : n < 32 then
    (if n = 0 ∨ (s.chan ⟨n, h⟩).owner ≠ .link then some ⟨n, h⟩ else none)
  else none

/-- Table 1-4: ports G and P name channels of their own views, port M global ones. -/
def State.resolve (s : State) (pt : Port) (n : Nat) : Option ChanId :=
  match pt with
  | .m => s.resolveGlobal n
  | pt => s.resolveLocal pt n

/-- Bring a value into a range. -/
def clamp (lo hi n : Nat) : Nat := max lo (min hi n)

/-- Clamping of H (Table 1-5). -/
def clampHard (n : Nat) : Nat := clamp 65536 4294967295 n

/-- Clamping of m (Table 1-5). -/
def clampMargin (n : Nat) : Nat := clamp 1 32 n

/-- Clamping of A (Table 1-5). -/
def clampAge (n : Nat) : Nat := clamp 60 604800 n

/-- Clamping of D (Table 1-5). -/
def clampLead (n : Nat) : Nat := clamp 0 3600 n

/-- Clamping of the hold limit (Table 1-5). -/
def clampHold (n : Nat) : Nat := clamp 1 60 n

/-- The limits after the given fields, each clamped, are written over `l` (R9, R11). -/
def Limits.with (l : Limits) (f : LimitFields) : Limits where
  hard := (f.hard.map clampHard).getD l.hard
  margin := (f.margin.map clampMargin).getD l.margin
  age := (f.age.map clampAge).getD l.age
  lead := (f.lead.map clampLead).getD l.lead
  hold := (f.hold.map clampHold).getD l.hold
  route := f.route.getD l.route

/-- One field of the list of changed fields: its item code when the written value differs from the given one. -/
def changedItem (code : Nat) (given : Option Nat) (written : Nat) : List Nat :=
  match given with
  | some n => if n = written then [] else [code]
  | none => []

/-- The item codes (Table 11-4) of the given fields whose written value differs (R8, R11; log 14). -/
def LimitFields.changed (f : LimitFields) (l : Limits) : List Nat :=
  changedItem 0x02 f.hard l.hard ++ changedItem 0x03 f.margin l.margin ++ changedItem 0x04 f.age l.age
    ++ changedItem 0x05 f.lead l.lead ++ changedItem 0x06 f.hold l.hold

/-- The soft limit S (R2). -/
def softLimit (hard margin : Nat) : Nat := hard - hard * margin / 64

/-- The soft limit of a channel's limits (R2). -/
def Limits.soft (l : Limits) : Nat := softLimit l.hard l.margin

end Sys2Proof.Machine
end

