-- ==== Sys2Proof/Machine/Image.lean ====
section
/-! DEFINITION. The settings image: its check (R183), its load (R197), what a write makes of it (R184). -/

namespace Sys2Proof.Machine

/-! ### Fields of the image (Table 11-5) -/

/-- The CRC-32 over offsets 0 to 134 (R197). -/
def imageCrc (l : List Byte) : Nat := (crc32 (l.take 135)).toNat

/-- A byte read as a lock, an enable or an arming: 00h is off, every other value on (R197). -/
def flagAt (l : List Byte) (i : Nat) : Bool := byteAt l i != 0

/-- The view at an offset. -/
def viewAt (l : List Byte) (i : Nat) : View := ⟨byteAt l i, byteAt l (i + 1), byteAt l (i + 2)⟩

/-- The bootstrap count of an image. -/
def imageCount (l : List Byte) : Nat := numAt l 40 2

/-! ### The check (R183) -/

/-- A view is valid (R5). -/
def View.valid (v : View) : Bool :=
  decide (1 ≤ v.first) && decide (v.first ≤ 31) && decide (1 ≤ v.stride) && decide (v.stride ≤ 4)
    && decide (1 ≤ v.count) && decide (v.count ≤ 31) && decide (v.first + (v.count - 1) * v.stride ≤ 31)

/-- No global channel lies in both views (R5). -/
def View.disjoint (v w : View) : Bool := (List.range 32).all fun c => !(v.has c && w.has c)

/-- Test 2 of R183: the views are valid and pairwise disjoint. -/
def viewsValid (g p m : View) : Bool :=
  g.valid && p.valid && m.valid && g.disjoint p && g.disjoint m && p.disjoint m

/-- Test 3 of R183. -/
def allocsValid (g p m i : Nat) : Bool :=
  decide (g ≤ 120) && decide (p ≤ 120) && decide (m ≤ 120) && decide (i ≤ 120) && decide (g + p + m + i + 8 ≤ 128)

/-- The first test of R183 that an image fails, 1 to 5; 0 when it passes. -/
def imageCheck (l : List Byte) : Nat :=
  if imageCrc l ≠ numAt l 135 4 then 1
  else if !viewsValid (viewAt l 46) (viewAt l 49) (viewAt l 52) then 2
  else if !allocsValid (byteAt l 56) (byteAt l 57) (byteAt l 58) (byteAt l 59) then 3
  else if 512 < numAt l 60 2 + numAt l 62 2 + numAt l 64 2 + numAt l 66 2 then 4
  else if !(flagAt l 68 || flagAt l 71) then 5
  else 0

/-- The check of the stored image; one cut short by a power-on reset fails test 1 (R184). -/
def Store.check (st : Store) : Nat := if st.spoiled then 1 else imageCheck st.image

/-! ### The load (R197) -/

/-- The route a byte of the image names; an undefined one becomes FOLLOW (R197). -/
def routeAt (l : List Byte) (i : Nat) : Route :=
  match byteAt l i with
  | 0 => .t0Only
  | 1 => .t1Only
  | _ => .follow

/-- The class defaults at an offset, clamped as Table 1-5 (R197). -/
def limitsAt (l : List Byte) (i : Nat) : Limits where
  hard := clampHard (numAt l i 4)
  margin := clampMargin (byteAt l (i + 4))
  age := clampAge (numAt l (i + 5) 4)
  lead := clampLead (numAt l (i + 9) 2)
  hold := clampHold (byteAt l (i + 11))
  route := routeAt l (i + 12)

/-- Trunk settings at an offset: depth 4 when the byte is 4, else 8; proving interval 0 becomes 1 (R197). -/
def trunkAt (l : List Byte) (i : Nat) : TrunkSet :=
  ⟨flagAt l i, max 1 (byteAt l (i + 1)), if byteAt l (i + 2) = 4 then 4 else 8⟩

/-- AHEAD_MAX in use: 2 becomes 1, above 3 becomes 3 (R197). -/
def aheadMaxOf (n : Nat) : Nat := if n = 2 then 1 else min n 3

/-- The settings in use from an image that passes (R182, R197). -/
def loadImage (l : List Byte) : Settings where
  fromImage := true
  storeId := BitVec.ofNat 64 (numAt l 0 8)
  rootKey := BitVec.ofNat 256 (numAt l 8 32)
  rootLock := flagAt l 42
  viewsLock := flagAt l 43
  paymentLock := flagAt l 44
  tamperLock := flagAt l 45
  views := some (viewAt l 46, viewAt l 49, viewAt l 52)
  address := if 127 < byteAt l 55 then 82 else byteAt l 55
  allocG := byteAt l 56
  allocP := byteAt l 57
  allocM := byteAt l 58
  allocInbound := byteAt l 59
  shares := ⟨numAt l 60 2, numAt l 62 2, numAt l 64 2, numAt l 66 2⟩
  t0 := trunkAt l 68
  t1 := trunkAt l 71
  stallLimit := max 1 (byteAt l 74)
  reply := min 30 (byteAt l 75)
  attempts := clamp 1 7 (byteAt l 76)
  confirm := clamp 1 60 (byteAt l 77)
  settle := max 1 (byteAt l 78)
  aheadMax := aheadMaxOf (byteAt l 79)
  aheadRotating := byteAt l 80 != 0
  control := limitsAt l 81
  payment := limitsAt l 94
  bulk := limitsAt l 107
  mgmt := limitsAt l 120
  reportInterval := clamp 1 60 (byteAt l 133)
  tamperArmed := flagAt l 134

/-- The settings that a start-up takes into use (R182). -/
def Store.load (st : Store) : Settings := if st.check = 0 then loadImage st.image else .delivered

/-- Owner and class of a channel from the views (R5). -/
def Settings.ownerOf (t : Settings) (c : Nat) : Owner × Class :=
  match t.views with
  | none => (.link, .control)
  | some (g, p, m) =>
    if c = 0 then (.link, .control)
    else if g.has c then (.g, .bulk)
    else if p.has c then (.p, .payment)
    else if m.has c then (.m, .mgmt)
    else (.link, .control)

/-! ### Writes (R184, R41) -/

/-- Seal the first 135 bytes with their CRC-32 (R197). -/
def sealImage (l : List Byte) : List Byte := l.take 135 ++ b4 (imageCrc l)

/-- Replace the bytes from offset `i` on by `new`. -/
def putAt (l : List Byte) (i : Nat) (new : List Byte) : List Byte := l.take i ++ new ++ l.drop (i + new.length)

/-- Keep `n` bytes at offset `i` of the stored image when a lock is set (R184). -/
def keepIf (lock : Bool) (stored l : List Byte) (i n : Nat) : List Byte :=
  if lock then putAt l i ((stored.drop i).take n) else l

/-- The 135 bytes that the carried 133 and the bootstrap count spell (R194: the image without count and CRC). -/
def carriedImage (carried : List Byte) (count : Nat) : List Byte := carried.take 40 ++ b2 count ++ carried.drop 40

/-- The parts kept under locks of the stored image (R184). Each set lock itself stays set. TAMPER_LOCK keeps tamper
arming on. -/
def keepLocked (stored l : List Byte) : List Byte :=
  let l := keepIf (flagAt stored 42) stored (keepIf (flagAt stored 42) stored l 0 40) 42 1
  let l := keepIf (flagAt stored 43) stored (keepIf (flagAt stored 43) stored l 46 9) 43 1
  let l := keepIf (flagAt stored 44) stored l 44 1
  let l := keepIf (flagAt stored 45) stored l 45 1
  if flagAt stored 45 then putAt l 134 [1] else l

/-- The list of locks whose parts were kept, 1 to 4 in the order of Table 10-1 (log 14). -/
def keptLocks (stored : List Byte) : List Nat :=
  (if flagAt stored 42 then [1] else []) ++ (if flagAt stored 43 then [2] else [])
    ++ (if flagAt stored 44 then [3] else []) ++ (if flagAt stored 45 then [4] else [])

/-- The image that a WRITE_SETTINGS writes (R184): locks are taken from a stored image that passes its check, and the
count is the stored one unless the root key changes or the stored image fails. -/
def Store.newImage (st : Store) (carried : List Byte) : List Byte :=
  if st.check = 0 then
    let l := keepLocked st.image (carriedImage carried (imageCount st.image))
    sealImage (if (l.drop 8).take 32 = (st.image.drop 8).take 32 then l else putAt l 40 (b2 0))
  else sealImage (carriedImage carried 0)

/-- The parts that the write keeps (R184). -/
def Store.kept (st : Store) : List Nat := if st.check = 0 then keptLocks st.image else []

/-- The stored image with a new bootstrap count (R41). -/
def withCount (l : List Byte) (n : Nat) : List Byte := sealImage (putAt l 40 (b2 n))

end Sys2Proof.Machine
end

