-- ==== Sys2Proof/Machine/Lines.lean ====
section
/-! DEFINITION. The signal lines (R178, R180) and carrier as a trunk sees it (R136). -/

namespace Sys2Proof.Machine

/-- L2 is armed: its function enable is the arming (R180). -/
def State.armed (s : State) : Bool := (s.line 2).fn

/-- The level an output function supplies (R178): L3 the fault level, L4 to L6 the attention levels. -/
def State.fnLevel (s : State) (i : Fin 8) : Option Bool :=
  if i = 3 then some s.fault.level
  else if i = 4 then some s.portG.level
  else if i = 5 then some s.portP.level
  else if i = 6 then some s.portM.level
  else none

/-- What drives the pin of a line (R178); none when nothing in the part does. An armed L2 is not driven (R180). -/
def State.drive (s : State) (i : Fin 8) : Option Bool :=
  let l := s.line i
  if i = 2 ∧ l.fn = true then none
  else match s.fnLevel i with
    | some b => if l.fn then some b else if l.dirOut then some l.latch else none
    | none => if l.dirOut then some l.latch else none

/-- The pin level: what the part drives, or else what the outside gives it. -/
def State.pin (s : State) (i : Fin 8) : Bool := (s.drive i).getD (s.line i).ext

/-- The read-back value (R178): pin level while IN, output latch while OUT; the pin level of an armed L2 (R180). -/
def State.readBack (s : State) (i : Fin 8) : Bool :=
  let l := s.line i
  if i = 2 ∧ l.fn = true then s.pin i
  else if l.dirOut then l.latch else s.pin i

/-- Carrier at a trunk (R136): the function is enabled and the sampled level is high. -/
def State.carrier (s : State) (t : Trunk) : Bool := (s.line t.line).fn && s.readBack t.line

/-- Every line IN with latch 0, function enables kept (R181: ZEROIZE, tamper). -/
def State.linesIn (s : State) : State :=
  { s with lines := s.lines.map fun l => { l with dirOut := false, latch := false } }

end Sys2Proof.Machine
end

