-- ==== Sys2Proof/Machine/Ops.lean ====
section
/-! DEFINITION. The shared operations on frames, completions, key slots, channels, the wait list and exchanges. -/

namespace Sys2Proof.Machine

/-- The greatest uptime and the greatest 32-bit count (R190, R90, R95). -/
def max32 : Nat := 4294967295

/-! ### Completions and outcomes (R170, R59) -/

/-- A completion is decided (R170): it joins its port's queue and sets COMPLETION, unless its command is marked. -/
def State.complete (s : State) (pt : Port) (c : Completion) (outstanding marked : Bool) : State :=
  s.modPort pt fun r =>
    let r := if outstanding then { r with outstanding := r.outstanding - 1 } else r
    if marked then { r with marks := r.marks - 1 }
    else { r with completions := r.completions ++ [c], latches := { r.latches with completion := true } }

/-- The data of a SEND completion (R194): local channel, epoch and sequence, 0 when never bound. -/
def sendData (loc : Nat) (b : Option Binding) : List Byte :=
  match b with
  | some b => b1 loc ++ b2 b.epoch ++ b4 b.seq
  | none => b1 loc ++ b2 0 ++ b4 0

/-- The outcome of an outbound frame (R59): its buffer returns, and its port has a completion or its builder is told
(only the fault unit acts on what it is told: R111, R163). -/
def State.outcome (s : State) (f : Frame) (res : Result) : State :=
  let s := s.giveBuf f.src.holder
  match f.src.port with
  | some pt => s.complete pt ⟨f.cmdTag, 0x01, res, sendData f.loc f.bound⟩ true f.marked
  | none => if f.kind = .faultReport then s.reportOutcome (decide (res = .sent)) else s

/-- Count a drop at a trunk (R149). -/
def Counters.bump (k : Counters) : Drop → Counters
  | .badHeader => { k with badHeader := satIncr k.badHeader }
  | .unknownEpoch => { k with unknownEpoch := satIncr k.unknownEpoch }
  | .late => { k with late := satIncr k.late }
  | .repeated => { k with repeated := satIncr k.repeated }
  | .tag => { k with tag := satIncr k.tag }
  | .overrun => { k with overrun := satIncr k.overrun }

/-- Count a drop at the receiving trunk (R149). -/
def State.countDrop (s : State) (t : Trunk) (d : Drop) : State :=
  s.modTrunk t fun r => { r with counters := r.counters.bump d }

/-! ### Windows (R63) -/

/-- What a window answers to a sequence number. -/
inductive Verdict where
  | accept | repeated | late
  deriving DecidableEq, Repr

/-- The window test (R63): sequence `q` against top and marks. -/
def Keyed.judge (k : Keyed) (q : Nat) : Verdict :=
  if k.top < q then .accept
  else if q = 0 ∨ q + 64 ≤ k.top then .late
  else if k.marks.getLsbD (k.top - q) then .repeated
  else .accept

/-- The window after an accepted number is recorded (R63). -/
def Keyed.record (k : Keyed) (q : Nat) : Keyed :=
  if k.top < q then { k with top := q, marks := (k.marks <<< (q - k.top)) ||| 1#64 }
  else { k with marks := k.marks ||| (1#64 <<< (k.top - q)) }

/-! ### Key slots (R26, R34, R36) -/

/-- The state of a slot that matches inbound frames (R34). -/
def SlotState.receives : SlotState → Bool
  | .staged | .active | .settling => true
  | _ => false

/-- A slot matches a channel and a header epoch (R34). -/
def Slot.matches (k : Slot) (c : ChanId) (epoch : Nat) : Bool :=
  k.state.receives && k.chan == some c && !k.wipePending && (k.keyed.map (·.epoch)) == some epoch

/-- The slot that matches a channel and a header epoch (R34). -/
def State.matchSlot (s : State) (c : ChanId) (epoch : Nat) : Option SlotId :=
  allSlots.find? fun i => (s.slot i).matches c epoch

/-- The slot of a channel in a given state, if any (R25). -/
def State.slotOf (s : State) (c : ChanId) (st : SlotState) : Option SlotId :=
  allSlots.find? fun i => (s.slot i).state == st && (s.slot i).chan == some c

/-- The lowest-numbered EMPTY slot (R26). -/
def State.freeSlot (s : State) : Option SlotId := allSlots.find? fun i => (s.slot i).state == .empty

/-- A derivation goes into this slot (R27). -/
def Derivation.into (d : Derivation) (i : SlotId) : Bool :=
  match d with
  | .turnover _ j _ _ _ => j == i
  | _ => false

/-- Abandon the derivations into a slot, waiting or running (R27, R36). -/
def State.abandonInto (s : State) (i : SlotId) : State :=
  { s with
    derivs := s.derivs.filter fun d => !d.into i
    core := match s.core with
      | .derives d => if d.into i then .idle else .derives d
      | k => k }

/-- A wipe is ordered (R36): at once, or wipe pending while the slot's job is in flight. A RESERVED slot carries no job,
and a derivation into it is abandoned. -/
def State.wipe (s : State) (i : SlotId) : State :=
  let k := s.slot i
  if k.state = .empty then s
  else if k.inFlight then s.modSlot i fun k => { k with wipePending := true }
  else (s.modSlot i fun _ => .wiped).abandonInto i

/-- Reserve a slot for a channel's exchange (R26); refused when no slot is EMPTY, and outside RUNNING (R44). -/
def State.reserve (s : State) (c : ChanId) : Option (State × SlotId) :=
  if s.mode = .running then
    s.freeSlot.map fun i => (s.modSlot i fun _ => { Slot.wiped with state := .reserved, chan := some c }, i)
  else none

/-! ### Channel changes -/

/-- Change a channel's renewal status, with CHANNEL attention (R4, R21). -/
def State.setRenewal (s : State) (c : ChanId) (r : Renewal) : State :=
  (s.modChan c fun ch => { ch with renewal := r }).tellChannel c

/-- Remove the pause deadline and the paused reason (R100, R102). -/
def Chan.unpaused (ch : Chan) : Chan := { ch with pause := none, pauseReason := none }

/-! ### The wait list (R98 to R101) -/

/-- URGENT reasons (R98). AHEAD is never listed. -/
def Reason.urgent : Reason → Bool
  | .openKey | .ordered | .port | .suspect | .hard => true
  | _ => false

/-- Urgency codes (Table 11-6). -/
def Reason.urgency (r : Reason) : Nat := if r.urgent then 1 else 2

/-- An entry takes its place (R98): the end of its part, or the head of the URGENT part. -/
def placeEntry (l : List WaitEntry) (e : WaitEntry) (atHead : Bool) : List WaitEntry :=
  if atHead then e :: l
  else if e.reason.urgent then
    (l.filter fun x => x.reason.urgent) ++ e :: l.filter fun x => !x.reason.urgent
  else l ++ [e]

/-- What came of a request to list a channel (R99, R103). -/
inductive Listing where
  | listed | moved | unchanged | notTaken
  deriving DecidableEq, Repr

/-- RENEW outcome codes (Table 11-6). -/
def Listing.code : Listing → Nat
  | .listed => 0 | .moved => 1 | _ => 2

/-- The entry of a channel. -/
def State.entryOf (s : State) (c : ChanId) : Option WaitEntry := s.sched.waitList.find? fun e => e.chan == c

/-- The wait list without a channel's entry (R101). -/
def State.unlist (s : State) (c : ChanId) : State :=
  { s with sched := { s.sched with waitList := s.sched.waitList.filter fun e => e.chan != c } }

/-- A channel joins the list (R99); refused when the list holds 31 entries (R100). -/
def State.join (s : State) (c : ChanId) (r : Reason) (atHead : Bool) : State × Listing :=
  if s.sched.waitList.length < 31 then
    let s := { s with sched := { s.sched with waitList := placeEntry s.sched.waitList ⟨c, r⟩ atHead } }
    ((s.modChan c fun ch => { ch.unpaused with renewal := .listed }).tellChannel c, .listed)
  else (s, .notTaken)

/-- A listed channel is requested again (R99): a ROUTINE entry moves for an URGENT request. -/
def State.relist (s : State) (c : ChanId) (r : Reason) : State × Listing :=
  match s.entryOf c with
  | none => (s, .unchanged)
  | some e =>
    if !e.reason.urgent && r.urgent then
      let s := s.unlist c
      let s := { s with sched := { s.sched with waitList := placeEntry s.sched.waitList ⟨c, r⟩ false } }
      (s.tellChannel c, .moved)
    else (s, .unchanged)

/-- A request to list a channel (R99, R100). `fromPause` is the pause deadline's own request (R102), `atHead` is channel
0's at HELLO_ACK (R131). -/
def State.request (s : State) (c : ChanId) (r : Reason) (fromPause atHead : Bool := false) : State × Listing :=
  let ch := s.chan c
  let r := if ch.state = .openWait then .openKey else r
  match ch.state, ch.renewal with
  | .closed, _ => (s, .notTaken)
  | .booting, _ => (s, .notTaken)
  | _, .exchanging => (s, .notTaken)
  | _, .listed => s.relist c r
  | _, .idle => s.join c r atHead
  | _, .paused => if r.urgent || fromPause then s.join c r atHead else (s, .notTaken)
  | _, .stopped => if r.urgent || fromPause then s.join c r atHead else (s, .notTaken)

/-! ### Starting exchanges (R105, R106, R114) -/

/-- The exchange entry of a channel. -/
def State.exchOf (s : State) (c : ChanId) : Option Exchange := s.exch.find? fun e => e.chan == c

/-- Update the exchange entry of a channel. -/
def State.modExch (s : State) (c : ChanId) (f : Exchange → Exchange) : State :=
  { s with exch := s.exch.map fun e => if e.chan = c then f e else e }

/-- Remove the exchange entry of a channel (R113). -/
def State.dropExch (s : State) (c : ChanId) : State := { s with exch := s.exch.filter fun e => e.chan != c }

/-- The epoch named in a TURN_ASK: that of the current slot, 0 when there is none (R114). -/
def State.askEpoch (s : State) (c : ChanId) : Nat := ((s.curKeyed c).map (·.epoch)).getD 0

/-- The reply deadline from now: reply setting plus 2 seconds (R114, R129). -/
def State.replyDeadline (s : State) : Nat := s.uptime + s.settings.reply + 2

/-- Build the TURN_ASK of an exchange (R114, R116). -/
def State.buildAsk (s : State) (c : ChanId) (r : Reason) (nonce : Sixteen) : State :=
  s.build .turnAsk (turnAskPayload c.val (s.askEpoch c) r nonce)

/-- An exchange starts with the slot reserved for it (R105, R107, R114): entry, nonce, status, TURN_ASK. -/
def State.startExchange (s : State) (c : ChanId) (r : Reason) (i : SlotId) : State :=
  let nonce := Config.nonce s.draws
  let e : Exchange := ⟨c, r, .asking, 1, nonce, i, none, none, some s.replyDeadline, none, false⟩
  let s := { s with draws := s.draws + 1, exch := s.exch ++ [e] }
  (s.setRenewal c .exchanging).buildAsk c r nonce

/-- The candidate entry (R105). -/
def State.candidate (s : State) : Option WaitEntry :=
  match (s.chan 0).state with
  | .live => s.sched.waitList.head?
  | .frozen => s.entryOf 0
  | _ => none

/-- KEY_STORE_FULL for the candidate's channel, at most once in an uptime second (R106). -/
def State.keyStoreFull (s : State) (c : ChanId) : State :=
  if s.sched.lastFull = some s.uptime then s
  else State.raise { s with sched := { s.sched with lastFull := some s.uptime } } .keyStoreFull (some c)

/-- One start test (R105, R106); the flag says whether an exchange started. -/
def State.startOne (s : State) : State × Bool :=
  match s.candidate with
  | none => (s, false)
  | some e =>
    if s.exch.length < 4 then
      match s.reserve e.chan with
      | none => (s.keyStoreFull e.chan, false)
      | some (s, i) => ((s.unlist e.chan).startExchange e.chan e.reason i, true)
    else (s, false)

/-- The start test, made again after each start (R105); the table holds at most four. -/
def State.startTest : Nat → State → State
  | 0, s => s
  | n + 1, s =>
    match s.startOne with
    | (s, true) => State.startTest n s
    | (s, false) => s

/-! ### Cutover (R28, R29, R122) -/

/-- A SETTLING slot of the channel has its job in flight (R29). -/
def State.settlingBusy (s : State) (c : ChanId) : Bool :=
  allSlots.any fun i => (s.slot i).state == .settling && (s.slot i).chan == some c && (s.slot i).inFlight

/-- The channel's STAGED slot without wipe pending (R28, R37). -/
def State.stagedSlot (s : State) (c : ChanId) : Option SlotId :=
  (s.slotOf c .staged).filter fun i => !(s.slot i).wipePending

/-- Order the wipe of every slot of a channel in a given state. -/
def State.wipeState (s : State) (c : ChanId) (st : SlotState) : State :=
  allSlots.foldl (fun s i => if (s.slot i).state = st ∧ (s.slot i).chan = some c then s.wipe i else s) s

/-- The former current slot becomes SETTLING (R28 item 2). -/
def Slot.settled (k : Slot) (deadline : Nat) : Slot := { k with state := .settling, settle := some deadline }

/-- The staged slot becomes ACTIVE with age 0 and next sequence 1 (R28 item 3). -/
def Slot.activated (k : Slot) : Slot :=
  { k with state := .active, keyed := k.keyed.map fun y => { y with age := 0, nextSeq := 1 } }

/-- The channel's slot fields and state at a cutover (R3): an OPEN_WAIT or FROZEN channel becomes LIVE. -/
def Chan.cutOver (ch : Chan) (new : SlotId) : Chan :=
  { ch with
    prev := ch.cur
    cur := some new
    next := none
    renewal := .idle
    state := if ch.state = .openWait ∨ ch.state = .frozen then .live else ch.state }

/-- The cutover of a channel (R28, R3, R122). Refused, with nothing changed, when it has no STAGED slot without wipe
pending. Channel 0 leaving FROZEN leads to the report test (R162). The settle deadline is not bounded by the end of uptime
(DESIGN CHOICE, log 46). -/
def State.cutover (s : State) (c : ChanId) : State :=
  match s.stagedSlot c with
  | none => s
  | some new =>
    let wasFrozen := (s.chan c).state == .frozen
    let s := s.wipeState c .settling
    let s := match s.slotOf c .active with
      | some old => s.modSlot old fun k => k.settled (s.uptime + s.settings.settle)
      | none => s
    let s := s.modSlot new Slot.activated
    let s := (s.modChan c fun ch => ch.cutOver new).tellChannel c
    let s := s.dropExch c
    if c = 0 && wasFrozen then s.reportTest false else s

/-- Take a cutover that waits under R29, once the SETTLING slot's job has ended. -/
def State.takeWaiting (s : State) : State :=
  match s.exch.find? fun e => e.cutoverWaits with
  | none => s
  | some e => if s.settlingBusy e.chan then s else s.cutover e.chan

/-- The key store's steps at the end of a cipher job (R38): job in flight cleared, the pending wipe, a waiting cutover.
The waiting derivation is the step DERIVATION_START. -/
def State.releaseSlot (s : State) (i : SlotId) : State :=
  let s := s.modSlot i fun k => { k with inFlight := false }
  if (s.slot i).wipePending then s.wipe i else s

/-! ### Removing frames (R17, R146) -/

/-- The frames of a trunk's queue that may be discarded: all but the one transmitting (R146). -/
def TrunkRec.loose (r : TrunkRec) : List Frame := if r.transmitting then r.queue.drop 1 else r.queue

/-- A trunk's queue without the picked frames; a frame that is transmitting stays (R146). -/
def TrunkRec.without (r : TrunkRec) (pick : Frame → Bool) : TrunkRec :=
  { r with queue := (if r.transmitting then r.queue.take 1 else []) ++ r.loose.filter fun f => !pick f }

/-- All held frames of a source, by channel. -/
def Source.held (r : Source) : List Frame := r.holds.toList.flatten

/-- A source without the picked frames. -/
def Source.without (r : Source) (pick : Frame → Bool) : Source :=
  { r with fifo := r.fifo.filter fun f => !pick f, holds := r.holds.map fun l => l.filter fun f => !pick f }

/-- All frames that wait in a source. -/
def Source.waiting (r : Source) : List Frame := r.held ++ r.fifo

/-- The waiting frames that are picked, in the order of log 12: T0 queue, T1 queue, then each source. -/
def State.picked (s : State) (pick : Frame → Bool) : List Frame :=
  (s.t0.loose ++ s.t1.loose ++ s.srcG.waiting ++ s.srcP.waiting ++ s.srcM.waiting ++ s.srcControl.waiting).filter pick

/-- Discard the picked frames that wait in a queue, a hold list or a FIFO (R17 item 4), each with its outcome. -/
def State.discard (s : State) (pick : Frame → Bool) (res : Result) : State :=
  let gone := s.picked pick
  let s := { s with
    t0 := s.t0.without pick, t1 := s.t1.without pick, srcG := s.srcG.without pick, srcP := s.srcP.without pick
    srcM := s.srcM.without pick, srcControl := s.srcControl.without pick }
  gone.foldl (fun s f => s.outcome f res) s

/-- The result of the core's job is to be discarded when its channel is picked (R17 item 5). -/
def Core.discarding (k : Core) (pick : ChanId → Bool) : Core :=
  match k with
  | .outbound f place d => .outbound f place (d || pick f.chan)
  | k => k

/-- Remove the waiting inbound frames of the picked channels; their buffers return (R17 item 7). -/
def State.dropInbound (s : State) (pick : ChanId → Bool) : State :=
  let gone := s.inFifo.filter fun f => pick f.chan
  gone.foldl (fun s _ => s.giveBuf .inbound) { s with inFifo := s.inFifo.filter fun f => !pick f.chan }

/-- The record of a channel that enters CLOSED (R17 item 1, R4): limits and route kept. -/
def Chan.shut (ch : Chan) : Chan :=
  { ch with
    state := .closed, renewal := .idle, pause := none, pauseReason := none, rate := 0, units := 0, bucket := 0
    cur := none, next := none, prev := none }

/-- Order the wipe of every slot of a channel (R17 item 3). -/
def State.wipeChannel (s : State) (c : ChanId) : State :=
  allSlots.foldl (fun s i => if (s.slot i).chan = some c then s.wipe i else s) s

/-- Close a channel (R17). `note` is false for channel 0 at ZEROIZE (R23). The buffers of items 4 and 7 return before the
take for the CLOSE_NOTE of item 8; R74 leaves their order open (DESIGN CHOICE, log 41). -/
def State.close (s : State) (c : ChanId) (note : Bool) : State :=
  let s := ((s.modChan c Chan.shut).tellChannel c).unlist c
  let s := (s.dropExch c).wipeChannel c
  let s := { s with core := s.core.discarding fun x => x == c }
  let s := s.discard (fun f => f.chan == c) (.refused .closedWhileQueued)
  let s := s.dropInbound fun x => x == c
  if note && ((s.chan 0).state == .live || (s.chan 0).state == .frozen) then s.build .closeNote (closeNotePayload c.val)
  else s

/-! ### Freezing (R13) -/

/-- A freeze request (R13): only a LIVE channel freezes. -/
def State.freeze (s : State) (c : ChanId) : State :=
  if (s.chan c).state = .live then
    ((s.modChan c fun ch => { ch with state := .frozen }).raise .channelFrozen (some c)).tellChannel c
  else s

end Sys2Proof.Machine
end

