-- ==== Sys2Proof/Machine/Steering.lean ====
section
/-! DEFINITION. The trunk unit: places, the active trunk, a trunk that leaves UP, carrier events (R136 to R143). -/

namespace Sys2Proof.Machine

/-- A free place of a transmit queue (R140). -/
def TrunkRec.placeFree (r : TrunkRec) : Bool := decide (r.queue.length + r.reserved < r.depth)

/-- The trunk that is active by the states alone (R139). -/
def State.upTrunk (s : State) : Option Trunk :=
  if s.t0.state = .up then some .t0 else if s.t1.state = .up then some .t1 else none

/-- The active trunk is set again (R139): NO_TRUNK when it goes from a trunk to none. -/
def State.refreshActive (s : State) : State :=
  let was := s.active
  let now := s.upTrunk
  let s := { s with active := now }
  if was.isSome && now.isNone then s.raise .noTrunk else s

/-- A frame joins the end of a trunk's queue; its record names that trunk (R140, Table 3-1), also where R143 or R144 moves
it there: R143 does not say that the record's trunk follows a moved frame (DESIGN CHOICE, log 45). -/
def State.enqueue (s : State) (t : Trunk) (f : Frame) : State :=
  s.modTrunk t fun r => { r with queue := r.queue ++ [{ f with bound := f.bound.map fun b => { b with trunk := t } }] }

/-- One frame of a trunk that left UP (the table of R143); also a job whose place was released (R144). -/
def State.moveOrLose (s : State) (f : Frame) : State :=
  match s.active with
  | some a =>
    if (s.chan f.chan).limits.route = .follow ∧ (s.trunk a).placeFree = true then s.enqueue a f
    else s.outcome f (.refused .linkLost)
  | none => s.outcome f (.refused .linkLost)

/-- The core's outbound job loses the place it held on a trunk (R143). -/
def Core.unplaced (k : Core) (t : Trunk) : Core :=
  match k with
  | .outbound f place d => .outbound f (if place = some t then none else place) d
  | k => k

/-- A trunk's queue, reservation and transmission end (R143). -/
def TrunkRec.emptied (r : TrunkRec) : TrunkRec :=
  { r with queue := [], reserved := 0, transmitting := false, stall := none, given := 0 }

/-- What the modem is given ends where the modem has taken it: at `n`, but not before the last cut of this transmission,
where sending resumed (R142). -/
def TrunkRec.cutAt (r : TrunkRec) (n : Nat) : TrunkRec :=
  { r with out := r.out.take (max r.given n), given := min (max r.given n) r.out.length }

/-- The sending of a trunk's frame is cut, by hold or by a stop (R142, R143): the modem has taken the first part of it, how
much is a free value (log 25). A transmission that hold has stopped already has been cut. -/
def State.cut (s : State) (t : Trunk) : State :=
  if (s.trunk t).transmitting && !(s.trunk t).hold then
    { s.modTrunk t fun r => r.cutAt (Config.taken s.draws) with draws := s.draws + 1 }
  else s

/-- A trunk leaves UP (R143); its new state is already written. -/
def State.leaveUp (s : State) (t : Trunk) : State :=
  let s := s.cut t
  let frames := (s.trunk t).queue
  let s := s.modTrunk t TrunkRec.emptied
  let s := { s with core := s.core.unplaced t }
  frames.foldl State.moveOrLose s.refreshActive

/-- The state a trunk enters when it is trusted again from the start (Table 7-3, R138, R186): PROVING with a deadline
if carrier is present, otherwise DOWN. -/
def State.enterByCarrier (s : State) (t : Trunk) : State :=
  let present := s.carrier t
  s.modTrunk t fun r =>
    if present then { r with state := .proving, proving := some (s.uptime + r.provingInterval) }
    else { r with state := .down, proving := none }

/-- Carrier rising at a trunk (Table 7-3). -/
def State.carrierRise (s : State) (t : Trunk) : State :=
  s.modTrunk t fun r =>
    if r.state = .down then { r with state := .proving, proving := some (s.uptime + r.provingInterval) } else r

/-- Carrier falling at a trunk (Table 7-3). TRUNK_DOWN is raised before the NO_TRUNK of R139 (DESIGN CHOICE, log 37). -/
def State.carrierFall (s : State) (t : Trunk) : State :=
  match (s.trunk t).state with
  | .proving => (s.modTrunk t fun r => { r with state := .down, proving := none }).raise .trunkDown none (some t)
  | .up => ((s.modTrunk t fun r => { r with state := .down }).raise .trunkDown none (some t)).leaveUp t
  | _ => s

/-- The carrier event of a trunk (R136): what has changed since `before`. -/
def State.carrierEvent (s : State) (t : Trunk) (before : Bool) : State :=
  if s.carrier t = before then s else if s.carrier t then s.carrierRise t else s.carrierFall t

/-- The carrier events of both trunks after a change of the lines (R136), T0 before T1 (DESIGN CHOICE, log 37). -/
def State.carrierEvents (s : State) (before : State) : State :=
  (s.carrierEvent .t0 (before.carrier .t0)).carrierEvent .t1 (before.carrier .t1)

/-- The proving deadline is reached (Table 7-3, R139). -/
def State.proven (s : State) (t : Trunk) : State :=
  (s.modTrunk t fun r => { r with state := .up, proving := none }).refreshActive

/-- An UP trunk stalls (R142, Table 7-3). TRUNK_STALL is raised before the NO_TRUNK of R139 (DESIGN CHOICE, log 37). -/
def State.stallOut (s : State) (t : Trunk) : State :=
  let s := s.modTrunk t fun r => { r with transmitting := false, stall := none }
  ((s.raise .trunkStall none (some t)).enterByCarrier t).leaveUp t

/-- A new enable of a trunk is carried out (R138). -/
def State.applyEnable (s : State) (t : Trunk) (enable : Bool) : State :=
  if enable = (s.trunk t).enable then s
  else if enable then (s.modTrunk t fun r => { r with enable := true }).enterByCarrier t
  else
    let wasUp := (s.trunk t).state == .up
    let s := s.modTrunk t fun r => { r with enable := false, state := .off, proving := none }
    if wasUp then s.leaveUp t else s

/-- The transmission of a frame begins (R141): the start marker and the frame's bytes go to the modem, stall time 0. Under
hold nothing goes: the first byte is held back (R142). -/
def TrunkRec.begin (r : TrunkRec) (f : Frame) : TrunkRec :=
  { r with transmitting := true, stall := some 0, out := if r.hold then [] else f.symbols, given := 0 }

/-- Hold is released (R142): the stall time returns to 0, and sending resumes where it stopped. -/
def TrunkRec.released (r : TrunkRec) : TrunkRec :=
  { r with
    hold := false, stall := r.stall.map fun _ => 0
    out := match r.transmitting, r.queue with
      | true, f :: _ => r.out ++ f.symbols.drop r.out.length
      | _, _ => r.out }

/-- The transmission of the head ends (R141): its end marker has been sent, and the frame leaves the queue. -/
def TrunkRec.finish (r : TrunkRec) (f : Frame) (rest : List Frame) : TrunkRec :=
  { r with queue := rest, transmitting := false, stall := none, out := f.symbols ++ [.endMarker], given := 0 }

end Sys2Proof.Machine
end

