-- ==== Sys2Proof/Machine/Arbiter.lean ====
section
/-! DEFINITION. Sendability and ready-frame selection (R50 to R53), the arbiter's choice and rounds (R79 to R84), and
what a consultation of an idle core leaves. -/

namespace Sys2Proof.Machine

/-! ### Sendability (R50, R20) -/

/-- The turnover group of channel 0 (R52): the part's own turnover messages (R20). -/
def Kind.turnover : Kind → Bool
  | .hello | .turnAsk | .turnDone => true
  | _ => false

/-- The channel state a kind needs (Table 3-2). -/
def Kind.allows (k : Kind) (st : ChanState) : Bool :=
  match k with
  | .hello => st == .booting
  | .turnAsk | .turnDone => st == .live || st == .frozen
  | _ => st == .live

/-- The wear limit of a frame (R31 item 3, R20): H, or H − 1,024 for a channel 0 frame that is no turnover message. -/
def State.wearLimit (s : State) (c : ChanId) (k : Kind) : Nat :=
  if c = 0 ∧ k.turnover = false then (s.chan c).limits.hard - 1024 else (s.chan c).limits.hard

/-- The current slot that a frame would be charged to: ACTIVE's fields, without wipe pending (R50). -/
def State.chargeable (s : State) (c : ChanId) : Option (SlotId × Keyed) :=
  (s.chan c).cur.bind fun i => if (s.slot i).wipePending then none else (s.slot i).keyed.map fun k => (i, k)

/-- The wear condition of a frame (Table 3-2). -/
def State.wearOk (s : State) (f : Frame) : Bool :=
  match s.chargeable f.chan with
  | some (_, k) => decide (k.wear + f.cost ≤ s.wearLimit f.chan f.kind)
  | none => false

/-- The wear condition fails against a current slot (R53): what a freeze request needs. -/
def State.wearFails (s : State) (f : Frame) : Bool := (s.chargeable f.chan).isSome && !s.wearOk f

/-- The trunk that a route names at this moment (R50, R55), when it is UP. -/
def State.routeTrunk (s : State) (r : Route) : Option Trunk :=
  match r with
  | .t0Only => if s.t0.state = .up then some .t0 else none
  | .t1Only => if s.t1.state = .up then some .t1 else none
  | .follow => s.active

/-- The trunk whose place a frame would reserve (R50): the route's, with a free place. -/
def State.placeFor (s : State) (f : Frame) : Option Trunk :=
  (s.routeTrunk (s.chan f.chan).limits.route).filter fun t => (s.trunk t).state == .up && (s.trunk t).placeFree

/-- A frame is sendable (R50). -/
def State.sendable (s : State) (f : Frame) : Bool :=
  f.kind.allows (s.chan f.chan).state && s.wearOk f && (s.placeFor f).isSome

/-- A source tests a frame (R50, R53): the freeze request, and whether the frame is sendable. -/
def State.testFrame (s : State) (f : Frame) : State × Bool :=
  if s.wearFails f then (s.freeze f.chan, s.sendable f) else (s, s.sendable f)

/-! ### Ready-frame selection (R51, R52) -/

/-- The held frames a source tests (R51 step 1, R52): the first of each hold list; for CONTROL the earliest of each
group. -/
def Source.firsts (r : Source) (o : OutSrc) : List Frame :=
  match o with
  | .control =>
    ((r.holds[0].find? fun f => f.kind.turnover).toList) ++ ((r.holds[0].find? fun f => !f.kind.turnover).toList)
  | _ => r.holds.toList.filterMap List.head?

/-- The earlier of two ready frames by submission number (R51). -/
def earlier (best : Option Frame) (f : Frame) : Option Frame :=
  match best with
  | some b => if f.sub < b.sub then some f else some b
  | none => some f

/-- Step 1 of R51: every first held frame is tested; the sendable one with the lowest submission number. -/
def State.testHeld : List Frame → State → Option Frame → State × Option Frame
  | [], s, best => (s, best)
  | f :: fs, s, best =>
    match s.testFrame f with
    | (s, true) => State.testHeld fs s (earlier best f)
    | (s, false) => State.testHeld fs s best

/-- A FIFO head is held back by frames already held (R51 step 2; for CONTROL only by its own group, R52). -/
def Source.holdsBack (r : Source) (o : OutSrc) (f : Frame) : Bool :=
  match o with
  | .control => r.holds[f.chan.val].any fun g => g.kind.turnover == f.kind.turnover
  | _ => !r.holds[f.chan.val].isEmpty

/-- The FIFO head joins the end of its channel's hold list (R49), with the present second as entry. -/
def State.holdHead (s : State) (o : OutSrc) (f : Frame) : State :=
  s.modSrc o fun r =>
    { r with
      fifo := r.fifo.drop 1
      holds := r.holds.set f.chan.val (r.holds[f.chan.val] ++ [{ f with held := some s.uptime }]) }

/-- Steps 2 and 3 of R51: heads are examined until one is ready or the FIFO is empty. -/
def State.scanFifo (o : OutSrc) : List Frame → State → State × Option Frame
  | [], s => (s, none)
  | f :: fs, s =>
    if (s.src o).holdsBack o f then State.scanFifo o fs (s.holdHead o f)
    else
      match s.testFrame f with
      | (s, true) => (s, some f)
      | (s, false) => State.scanFifo o fs (s.holdHead o f)

/-- A source consulted by the arbiter (R51). -/
def State.consult (s : State) (o : OutSrc) : State × Option Frame :=
  match State.testHeld ((s.src o).firsts o) s none with
  | (s, some f) => (s, some f)
  | (s, none) => State.scanFifo o (s.src o).fifo s

/-! ### The choice (R82) -/

/-- The number of a requester. -/
def PerReq.get (q : PerReq) : Requester → Nat
  | .inbound => q.inbound | .p => q.p | .g => q.g | .m => q.m

/-- Write the number of a requester. -/
def PerReq.set (q : PerReq) (r : Requester) (n : Nat) : PerReq :=
  match r with
  | .inbound => { q with inbound := n }
  | .p => { q with p := n }
  | .g => { q with g := n }
  | .m => { q with m := n }

/-- The rotation INBOUND, P, G, M, starting with the requester after last served (R82). -/
def rotation : Requester → List Requester
  | .inbound => [.p, .g, .m, .inbound]
  | .p => [.g, .m, .inbound, .p]
  | .g => [.m, .inbound, .p, .g]
  | .m => [.inbound, .p, .g, .m]

/-- The ready frames the sources offer (R79). -/
structure Offers where
  control : Option Frame
  p : Option Frame
  g : Option Frame
  m : Option Frame
  inbound : Bool
  deriving DecidableEq, Repr

/-- A requester of the round is ready (R79). -/
def Offers.ready (x : Offers) : Requester → Bool
  | .inbound => x.inbound | .p => x.p.isSome | .g => x.g.isSome | .m => x.m.isSome

/-- What the arbiter chooses. -/
inductive Choice where
  | control (f : Frame)
  | outbound (r : Requester) (f : Frame)
  | inbound
  deriving DecidableEq, Repr

/-- The job that a requester offers. -/
def Offers.job (x : Offers) : Requester → Option Choice
  | .inbound => if x.inbound then some .inbound else none
  | .p => x.p.map (.outbound .p)
  | .g => x.g.map (.outbound .g)
  | .m => x.m.map (.outbound .m)

/-- The requester of steps 2 and 3 of R82. -/
def Arbiter.pick (a : Arbiter) (x : Offers) : Option Requester :=
  let ready := (rotation a.last).filter x.ready
  match ready.find? fun r => decide (a.spent.get r < a.shares.get r) with
  | some r => some r
  | none => ready.head?

/-- Consultation of every source (R79), in the order CONTROL, P, G, M, each testing its hold lists in channel order (R51);
the manual gives neither order (DESIGN CHOICE, log 35). -/
def State.offers (s : State) : State × Offers :=
  let a := s.consult .control
  let b := a.1.consult .p
  let c := b.1.consult .g
  let d := c.1.consult .m
  (d.1, ⟨a.2, b.2, c.2, d.2, !d.1.inFifo.isEmpty⟩)

/-- The arbiter consults the requesters and chooses (R82). -/
def State.arbitrate (s : State) : State × Option Choice :=
  let o := s.offers
  match o.2.control with
  | some f => (o.1, some (.control f))
  | none => (o.1, (o.1.arb.pick o.2).bind o.2.job)

/-! ### Accounts (R81, R84) -/

/-- A round ends (R84): round total and spent counts 0, last served kept. -/
def Arbiter.roundEnd (a : Arbiter) : Arbiter := { a with spent := ⟨0, 0, 0, 0⟩, total := 0 }

/-- A job of cost `u` starts for a requester (R81); the round ends when its budget is used (R84). -/
def Arbiter.charge (a : Arbiter) (r : Requester) (u : Nat) : Arbiter :=
  let a := { a with spent := a.spent.set r (a.spent.get r + u), total := a.total + u, last := r }
  if 512 ≤ a.total then a.roundEnd else a

/-- The core is free and no derivation waits (R82). -/
def State.coreFree (s : State) : Bool := s.core == .idle && s.derivs.isEmpty

/-- The consultation that a free core makes at an event of R82, when no requester is ready: what ready-frame selection
moved and froze stands, and the round ends (R84). When a requester is ready, its job start is a step of its own, with
its own consultation (log 1). -/
def State.rest (s : State) : State :=
  if s.coreFree then
    match s.arbitrate with
    | (s', none) => { s' with arb := s'.arb.roundEnd }
    | (_, some _) => s
  else s

end Sys2Proof.Machine
end

