-- ==== Sys2Proof/Machine/Life.lean ====
section
/-! DEFINITION. The life of the part: start-up, bootstrap request, entry into SAFE, RESTART, ZEROIZE, tamper, writes
of the settings store (section 10, R41, R44, R86). -/

namespace Sys2Proof.Machine

/-! ### What tamper and entry into SAFE have in common (R44, R86, R134, R146, R150) -/

/-- An outbound source with no frame left; its numbering goes on (R70). -/
def Source.emptied (r : Source) : Source := { r with fifo := [], holds := Vector.replicate 32 [] }

/-- A trunk that goes to OFF with its queue emptied (R146, R150). -/
def TrunkRec.offed (r : TrunkRec) : TrunkRec := { r.emptied with state := .off, proving := none }

/-- The accounts cleared (R86); shares kept. -/
def Arbiter.cleared (a : Arbiter) : Arbiter := { a with spent := ⟨0, 0, 0, 0⟩, total := 0, last := .m }

/-- CHANNEL attention for every channel whose state or renewal status a general close changes (R21, R23). -/
def State.tellClosing (s : State) : State :=
  allChans.foldl (fun s c =>
    if (s.chan c).state = .closed ∧ (s.chan c).renewal = .idle then s else s.tellChannel c) s

/-- Every slot wiped at once, the core's work abandoned, every source, queue and FIFO emptied, both trunks OFF, every
channel CLOSED, the report timer stopped (R44, R86, R23, R146, R150, R134, R109, R167). -/
def State.quiesce (s : State) : State :=
  let s := (s.tellClosing.cut .t0).cut .t1
  { s with
    chans := s.chans.map Chan.shut
    slots := Vector.replicate 48 .wiped
    srcG := s.srcG.emptied
    srcP := s.srcP.emptied
    srcM := s.srcM.emptied
    srcControl := s.srcControl.emptied
    inFifo := []
    pool := s.pool.allFree
    core := .idle
    derivs := []
    arb := s.arb.cleared
    sched := .fresh
    exch := []
    boot := .fresh
    t0 := s.t0.offed
    t1 := s.t1.offed
    active := none
    fault := s.fault.abandon
    store := { s.store with bootWaits := false } }

/-! ### Entry into SAFE (R189) -/

/-- The port record at entry into SAFE (R189). -/
def PortRec.atSafe (r : PortRec) : PortRec :=
  { r with
    completions := [], outstanding := 0, marks := 0, deliveries := []
    latches := { r.latches with completion := false, delivery := false } }

/-- Entry into SAFE (R189). -/
def State.enterSafe (s : State) : State :=
  let s := s.quiesce
  { s with mode := .safe, portG := s.portG.atSafe, portP := s.portP.atSafe, portM := s.portM.atSafe }

/-! ### Tamper (R189, R23, R177) -/

/-- The frame of an outbound job in the core. -/
def Core.frames : Core → List Frame
  | .outbound f _ _ => [f]
  | _ => []

/-- Every outbound frame in the part, in the order of log 12. -/
def State.allFrames (s : State) : List Frame :=
  s.t0.queue ++ s.t1.queue ++ s.srcG.waiting ++ s.srcP.waiting ++ s.srcM.waiting ++ s.srcControl.waiting ++ s.core.frames

/-- The completion that a port frame gets at tamper (R23, R177); CONTROL frames have none. -/
def State.refuseFrame (s : State) (f : Frame) : State :=
  match f.src.port with
  | some pt => s.complete pt ⟨f.cmdTag, 0x01, .refused .closedWhileQueued, sendData f.loc f.bound⟩ true f.marked
  | none => s

/-- A port's delivery queue emptied (R177, tamper). -/
def PortRec.noDeliveries (r : PortRec) : PortRec := { r with deliveries := [] }

/-- The tamper sequence (R189). In LOCKDOWN a further tamper only raises TAMPER (R180). -/
def State.tamperNow (s : State) : State :=
  if s.mode = .lockdown then s.raise .tamper
  else
    let s := (s.allFrames.foldl State.refuseFrame s).quiesce.linesIn
    let s := { s with
      portG := s.portG.noDeliveries, portP := s.portP.noDeliveries, portM := s.portM.noDeliveries
      store := { s.store with restartWaits := false }
      mode := .lockdown }
    s.raise .tamper

/-! ### The bootstrap request (R41) -/

/-- The bootstrap of channel 0 begins (R41 steps 1 and 2): BOOT_LIMIT and SAFE at 65,535, otherwise the count write with
the derivation waiting for it. While a write runs it waits for that write's end (R184). -/
def State.beginBootstrap (s : State) : State :=
  if s.store.write.isSome then { s with store := { s.store with bootWaits := true } }
  else
    let n := imageCount s.store.image
    if 65535 ≤ n then (s.raise .bootLimit).enterSafe
    else
      { s with
        store := { s.store with write := some (.count (n + 1)), bootWaits := false }
        derivs := s.derivs ++ [.bootstrap (n + 1)] }

/-- At the end of a write: a bootstrap that waited begins, unless a RESTART waits, whose start-up makes its own
(R41, R184). -/
def State.afterWrite (s : State) : State :=
  if s.store.bootWaits ∧ ¬ s.store.restartWaits = true ∧ s.mode = .running then s.beginBootstrap else s

/-! ### Start-up (R186) -/

/-- The store at power-on reset (R184: a write under way spoils the image) or RESTART. -/
def Store.started (st : Store) (restart : Bool) : Store :=
  ⟨st.image, if restart then st.spoiled else st.spoiled || st.write.isSome, none, false, false⟩

/-- Tamper arming as the settings load settles it (R180). -/
def Settings.armed (t : Settings) : Bool := t.tamperArmed || t.tamperLock

/-- The channel table at start-up (R23, R5). -/
def Settings.channels (t : Settings) : Vector Chan 32 :=
  Vector.ofFn fun i : Fin 32 =>
    let oc := t.ownerOf i.val
    .fresh oc.1 oc.2 (t.classLimits oc.2)

/-- The lines at start-up (R181), with tamper arming settled (R180); the outside keeps its levels. -/
def State.startLines (s : State) (t : Settings) : Vector Line 8 :=
  Vector.ofFn fun i : Fin 8 =>
    let l := Line.fresh i.val (s.line i).ext
    if i = 2 then { l with fn := t.armed } else l

/-- Every block's values after a power-on reset or a RESTART with the given settings in use (R186 steps 1 and 2), and
the self-check running (step 3). -/
def State.blank (s : State) (restart : Bool) (t : Settings) : State :=
  { mode := .starting
    uptime := 0
    store := s.store.started restart
    settings := t
    chans := t.channels
    slots := Vector.replicate 48 .wiped
    srcG := .fresh
    srcP := .fresh
    srcM := .fresh
    srcControl := .fresh
    inFifo := []
    pool := .fresh t
    core := .derives .selfCheck
    derivs := []
    arb := .fresh t
    sched := .fresh
    exch := []
    boot := .fresh
    t0 := .fresh t.t0 s.t0.hold
    t1 := .fresh t.t1 s.t1.hold
    active := none
    fault := if restart then s.fault.abandon else .fresh
    portG := .fresh s.portG.inReset
    portP := .fresh s.portP.inReset
    portM := .fresh s.portM.inReset
    lines := s.startLines t
    draws := s.draws
    pending := s.pending }

/-- Step 1 of start-up (R186): every block's values, and RESTARTED after a RESTART. -/
def State.begun (s : State) (restart : Bool) (t : Settings) : State :=
  if restart then (s.blank restart t).raise .restarted else s.blank restart t

/-- Start-up, steps 1 to 3 (R186). The reset arms L2, so a high pin is a tamper at step 1 (R180), which ends start-up
before the image is read; the settings in use are then the delivered ones (DESIGN CHOICE, log 21). Otherwise the image is
loaded, with SETTINGS_BAD when it fails its check. -/
def State.startUp (s : State) (restart : Bool) : State :=
  if (s.line 2).ext then (s.begun restart .delivered).tamperNow
  else
    let t := (s.store.started restart).load
    let b := s.begun restart t
    if t.fromImage then b else b.raise .settingsBad

/-- Entry into RUNNING (R186 step 6): report deadline, trunks, bootstrap. -/
def State.enterRunning (s : State) : State :=
  let s := { s with
    mode := .running
    fault := { s.fault with deadline := some (s.uptime + s.settings.reportInterval) } }
  let s := if s.t0.enable then s.enterByCarrier .t0 else s
  let s := if s.t1.enable then s.enterByCarrier .t1 else s
  s.beginBootstrap

/-- The end of the self-check (R186 steps 3 to 6). -/
def State.selfCheckEnds (s : State) (ok : Bool) : State :=
  let s := { s with core := .idle }
  let s := if ok then s else s.raise .coreCheck
  if !s.settings.fromImage || !ok then s.enterSafe
  else if imageCount s.store.image = 65535 then (s.raise .bootLimit).enterSafe
  else s.enterRunning

/-! ### ZEROIZE (R188) -/

/-- Close a channel that is not CLOSED (R23). -/
def State.closeOpen (s : State) (c : ChanId) (note : Bool) : State :=
  if (s.chan c).state = .closed then s else s.close c note

/-- A derivation running in the core is abandoned (R40). -/
def Core.undriven : Core → Core
  | .derives _ => .idle
  | k => k

/-- The lines return to IN (R181) with their carrier events (R136). -/
def State.resetLines (s : State) : State := s.linesIn.carrierEvents s

/-- The wipe of every slot (R43). -/
def State.wipeAll (s : State) : State := allSlots.foldl State.wipe s

/-- The effects of ZEROIZE (R188). Channel 0 is closed first (log 26), so no CLOSE_NOTE is built. Every frame that still
waits is then discarded: one of a channel that was CLOSED before, which R143 moved to a queue (R70, R146). The count in
use is absent until the bootstrap derivation ends (R134 states the phase alone; DESIGN CHOICE, log 18). -/
def State.zeroizeNow (s : State) : State :=
  let s := s.closeOpen 0 false
  let s := allChans.foldl (fun s c => s.closeOpen c false) s
  let s := s.discard (fun _ => true) (.refused .closedWhileQueued)
  let s := s.wipeAll
  let s := { s with core := s.core.undriven, derivs := [], sched := .fresh, exch := [], boot := .fresh }
  ((s.dropInbound fun _ => true).resetLines).beginBootstrap

/-! ### Steps of the table -/

/-- POWER_ON_RESET (R186). -/
def execPowerOnReset (s : State) : Host.Outcome State Fault Refusal := .next (s.startUp false)

/-- SELF_CHECK_END (R186). -/
def execSelfCheckEnd (ok : Bool) (s : State) : Host.Outcome State Fault Refusal :=
  if s.core = .derives .selfCheck ∧ s.mode = .starting then .next (s.selfCheckEnds ok) else .next s

/-- A settings write ends (R184): the new image stands, its completion joins port M's queue. -/
def State.settingsWritten (s : State) (image : List Byte) (kept : List Nat) (result : Nat) (tag : Byte)
    (marked : Bool) : State :=
  let s := { s with store := { s.store with image := image, spoiled := false, write := none } }
  s.complete .m ⟨tag, 0x1A, .done, b1 kept.length ++ kept.flatMap b1 ++ b1 result⟩ true marked

/-- SETTINGS_WRITE_END (R184). -/
def execSettingsWriteEnd (s : State) : Host.Outcome State Fault Refusal :=
  match s.store.write with
  | some (.settings image kept result tag marked) => .next (s.settingsWritten image kept result tag marked).afterWrite
  | _ => .next s

/-- COUNT_WRITE_END (R41). -/
def execCountWriteEnd (s : State) : Host.Outcome State Fault Refusal :=
  match s.store.write with
  | some (.count n) =>
    .next (State.afterWrite { s with store := { s.store with image := withCount s.store.image n, write := none } })
  | _ => .next s

/-- DEFERRED_RESTART (R187, R184): in RUNNING or SAFE, where a RESTART is taken (Table 10-2). -/
def execDeferredRestart (s : State) : Host.Outcome State Fault Refusal :=
  if s.store.restartWaits = true ∧ s.store.write = none ∧ (s.mode = .running ∨ s.mode = .safe) then
    .next (s.startUp true)
  else .next s

/-- TAMPER (R180): the pin of L2 rises; `held` is its level afterwards. A disarmed L2 takes no tamper. -/
def execTamper (held : Bool) (s : State) : Host.Outcome State Fault Refusal :=
  let s := s.modLine 2 fun l => { l with ext := held }
  if s.armed then .next s.tamperNow else .next s

end Sys2Proof.Machine
end

