-- ==== Sys2Proof/Machine/Ports.lean ====
section
/-! DEFINITION. The command ports: taking commands, SEND, the read transactions, the reset input (R47, R169 to R176,
R194). -/

namespace Sys2Proof.Machine

/-! ### Taking a command (R169) -/

/-- The port answers a WRITE_COMMAND with BUSY (R169). -/
def State.busy (s : State) (pt : Port) : Bool :=
  s.mode == .starting || (s.port pt).inReset
    || decide (16 ≤ (s.port pt).outstanding + (s.port pt).completions.length)

/-- The bytes that the part returns on the bus: the status byte first (R194). -/
def State.answer (s : State) (pt : Port) (bytes : List Byte) : State := s.modPort pt fun r => { r with reply := bytes }

/-- A WRITE_COMMAND (R169, R194): BUSY and nothing else, or taken and decided at the same event. -/
def State.command (s : State) (pt : Port) (decide : State → State) : State :=
  if s.busy pt then s.answer pt [1] else (decide s).answer pt [0]

/-- The command completes DONE at once, with its data (R169, R170). -/
def State.finish (s : State) (pt : Port) (tag : Byte) (kind : Nat) (data : List Byte) : State :=
  s.complete pt ⟨tag, kind, .done, data⟩ false false

/-- The command is refused with a cause (R169, R170). -/
def State.refuse (s : State) (pt : Port) (tag : Byte) (kind : Nat) (c : Cause) (data : List Byte) : State :=
  s.complete pt ⟨tag, kind, .refused c, data⟩ false false

/-- The tests that a command taken from port M only makes first: NOT_ALLOWED, then MODE outside RUNNING. -/
def State.onlyM (s : State) (pt : Port) : Option Cause :=
  if pt ≠ .m then some .notAllowed else if s.mode ≠ .running then some .mode else none

/-! ### SEND (R47) -/

/-- The refusal tests of SEND but the buffer's (R47, 1 to 5), in order, with the channel named. -/
def State.sendCheck (s : State) (pt : Port) (loc len : Nat) : Except Cause ChanId :=
  if s.mode ≠ .running then .error .mode
  else if (s.port pt).enables.submit = false then .error .portDisabled
  else match s.resolveLocal pt loc with
    | none => .error .noChannel
    | some c =>
      if (s.chan c).state = .closed then .error .notOpen
      else if len = 0 ∨ 2048 < len then .error .badLength
      else .ok c

/-- An accepted SEND (R47): the frame joins the end of the FIFO and the command is outstanding. -/
def State.accept (s : State) (pt : Port) (tag : Byte) (c : ChanId) (loc : Nat) (payload : List Byte) : State :=
  let s := s.modSrc pt.src fun r =>
    { r with
      fifo := r.fifo ++ [⟨pt.src, .data, c, loc, tag, false, r.nextSub, payload, none, none, none⟩]
      nextSub := r.nextSub + 1 }
  s.modPort pt fun r => { r with outstanding := r.outstanding + 1 }

/-- The decision of a SEND (R47); an accepted one is an event at which an idle core consults (R82). -/
def State.send (s : State) (pt : Port) (tag : Byte) (loc : Nat) (payload : List Byte) : State :=
  match s.sendCheck pt loc payload.length with
  | .error c => s.refuse pt tag 0x01 c (sendData loc none)
  | .ok c =>
    match s.takeBuf pt.holder with
    | none => s.refuse pt tag 0x01 .noBuffer (sendData loc none)
    | some s => (s.accept pt tag c loc payload).rest

/-- SEND (R47). -/
def execSend (pt : Port) (tag : Byte) (loc : Nat) (payload : List Byte) (s : State) :
    Host.Outcome State Fault Refusal :=
  .next (s.command pt fun s => s.send pt tag loc payload)

/-- UNDEFINED_COMMAND (R169): a malformed record that is taken is refused BAD_COMMAND. Its kind and tag are its first
two bytes (R194; log 15), and its completion carries no data, that of a malformed SEND record too (DESIGN CHOICE, log
15). -/
def execUndefinedCommand (pt : Port) (record : List Byte) (s : State) : Host.Outcome State Fault Refusal :=
  .next (s.command pt fun s => s.refuse pt (record.getD 1 0) (byteAt record 0) .badCommand [])

/-! ### Read transactions (R170 to R172) -/

/-- READ_COMPLETION (R170). -/
def execReadCompletion (pt : Port) (s : State) : Host.Outcome State Fault Refusal :=
  match (s.port pt).inReset, (s.port pt).completions with
  | false, c :: rest => .next ((s.modPort pt fun r => { r with completions := rest }).answer pt ([0] ++ c.bytes))
  | _, _ => .next (s.answer pt [1])

/-- READ_DELIVERY (R171). -/
def execReadDelivery (pt : Port) (s : State) : Host.Outcome State Fault Refusal :=
  match (s.port pt).inReset, (s.port pt).deliveries with
  | false, d :: rest =>
    .next (((s.modPort pt fun r => { r with deliveries := rest }).giveBuf .inbound).answer pt ([0] ++ d.bytes))
  | _, _ => .next (s.answer pt [1])

/-- The latches after the named ones are cleared (R172, R194): bits 0 to 2, and bit 3 at port M. -/
def Latches.cleared (l : Latches) (pt : Port) (clear : Byte) : Latches where
  completion := l.completion && !clear.getLsbD 0
  delivery := l.delivery && !clear.getLsbD 1
  channel := l.channel && !clear.getLsbD 2
  fault := l.fault && !(clear.getLsbD 3 && pt == .m)

/-- READ_ATTENTION (R172, R194): the latches as they stand, then the named ones cleared. -/
def execReadAttention (pt : Port) (clear : Byte) (s : State) : Host.Outcome State Fault Refusal :=
  if (s.port pt).inReset then .next (s.answer pt [1])
  else
    .next ((s.modPort pt fun r => { r with latches := r.latches.cleared pt clear }).answer pt
      [0, (s.port pt).latches.byte])

/-- UNDEFINED_TRANSACTION (R194): answered BUSY. -/
def execUndefinedTransaction (pt : Port) (_code : Byte) (s : State) : Host.Outcome State Fault Refusal :=
  .next (s.answer pt [1])

/-- TRANSACTION_CUT_SHORT (R194): abandoned without effect. -/
def execTransactionCutShort (_pt : Port) (s : State) : Host.Outcome State Fault Refusal := .next s

/-! ### Port reset (R176) -/

/-- A frame of an outstanding SEND of the port receives a discard mark (R176 item 4). -/
def Frame.marking (f : Frame) (o : OutSrc) : Frame := if f.src = o then { f with marked := true } else f

/-- Every waiting frame of a source marked. -/
def Source.marking (r : Source) (o : OutSrc) : Source :=
  { r with fifo := r.fifo.map fun f => f.marking o, holds := r.holds.map fun l => l.map fun f => f.marking o }

/-- Every frame of a transmit queue marked. -/
def TrunkRec.marking (r : TrunkRec) (o : OutSrc) : TrunkRec := { r with queue := r.queue.map fun f => f.marking o }

/-- The core's outbound frame marked. -/
def Core.marking (k : Core) (o : OutSrc) : Core :=
  match k with
  | .outbound f place d => .outbound (f.marking o) place d
  | k => k

/-- A settings write of port M marked (R184). -/
def Write.marking : Write → Write
  | .settings image kept result tag _ => .settings image kept result tag true
  | w => w

/-- Each outstanding command of a port receives its mark (R176 item 4). -/
def State.markAll (s : State) (pt : Port) : State :=
  let o := pt.src
  let s := s.modSrc o fun r => r.marking o
  { s with
    t0 := s.t0.marking o, t1 := s.t1.marking o, core := s.core.marking o
    store := if pt = .m then { s.store with write := s.store.write.map Write.marking } else s.store }

/-- The port record at a port reset (R176). -/
def PortRec.atReset (r : PortRec) : PortRec :=
  { r with completions := [], deliveries := [], latches := .clear, marks := r.outstanding, inReset := true }

/-- PORT_RESET (R176): the reset input is asserted. -/
def execPortReset (pt : Port) (s : State) : Host.Outcome State Fault Refusal :=
  let n := (s.port pt).deliveries.length
  let s := Nat.repeat (fun s : State => s.giveBuf .inbound) n s
  .next ((s.modPort pt PortRec.atReset).markAll pt)

/-- PORT_RESET_RELEASE (R176): the port takes transactions again. -/
def execPortResetRelease (pt : Port) (s : State) : Host.Outcome State Fault Refusal :=
  .next (s.modPort pt fun r => { r with inReset := false })

end Sys2Proof.Machine
end

