-- ==== Sys2Proof/Machine/Admin.lean ====
section
/-! DEFINITION. Channel administration: OPEN, CLOSE, SET_LIMITS, RENEW, ABORT_RENEWAL (R8 to R17, R103, R126). Each
completion carries the channel number written (R7; log 13). -/

namespace Sys2Proof.Machine

/-! ### OPEN (R8, R9) -/

/-- The channel record at an accepted OPEN (R9). -/
def Chan.opened (ch : Chan) (defaults : Limits) (f : LimitFields) : Chan :=
  { ch with state := .openWait, limits := defaults.with f, rate := 0, units := 0, bucket := 0 }

/-- The refusal tests of OPEN (R8), in order. -/
def State.openCheck (s : State) (pt : Port) (n : Nat) : Except Cause ChanId :=
  match s.onlyM pt with
  | some c => .error c
  | none =>
    match (s.resolveGlobal n).filter (· ≠ 0) with
    | none => .error .noChannel
    | some c => if (s.chan c).state = .closed then .ok c else .error .notClosed

/-- A list of item codes as completion data (log 14): its length, then the codes. -/
def codeList (l : List Nat) : List Byte := b1 l.length ++ l.flatMap b1

/-- The decision of an OPEN (R8, R9). -/
def State.open' (s : State) (pt : Port) (tag : Byte) (n : Nat) (f : LimitFields) : State :=
  match s.openCheck pt n with
  | .error c => s.refuse pt tag 0x03 c (b1 n)
  | .ok c =>
    let defaults := s.settings.classLimits (s.chan c).cls
    let s := (s.modChan c fun ch => ch.opened defaults f).tellChannel c
    let s := (s.request c .openKey).1
    s.finish pt tag 0x03 (b1 n ++ codeList (LimitFields.changed f (defaults.with f)))

/-- OPEN (R8). -/
def execOpen (pt : Port) (tag : Byte) (n : Nat) (f : LimitFields) (s : State) : Host.Outcome State Fault Refusal :=
  .next (s.command pt fun s => s.open' pt tag n f)

/-! ### CLOSE (R16, R17) -/

/-- The refusal tests of CLOSE (R16), in order. -/
def State.closeCheck (s : State) (pt : Port) (n : Nat) : Except Cause ChanId :=
  if pt = .g then .error .notAllowed
  else if s.mode ≠ .running then .error .mode
  else match s.resolve pt n with
    | none => .error .noChannel
    | some c =>
      if c = 0 then .error .notAllowed
      else if pt = .m ∧ (s.chan c).cls = .payment ∧ s.settings.paymentLock = true then .error .locked
      else if (s.chan c).state = .closed then .error .notOpen
      else .ok c

/-- The decision of a CLOSE (R16, R17). The command's own DONE joins the port's queue after the CLOSED_WHILE_QUEUED
completions of the close (DESIGN CHOICE, log 12). -/
def State.closeCommand (s : State) (pt : Port) (tag : Byte) (n : Nat) : State :=
  match s.closeCheck pt n with
  | .error c => s.refuse pt tag 0x04 c (b1 n)
  | .ok c => ((s.close c true).finish pt tag 0x04 (b1 n)).rest

/-- CLOSE (R16). -/
def execClose (pt : Port) (tag : Byte) (n : Nat) (s : State) : Host.Outcome State Fault Refusal :=
  .next (s.command pt fun s => s.closeCommand pt tag n)

/-! ### SET_LIMITS (R11) -/

/-- The refusal tests of SET_LIMITS (R11), in order. -/
def State.limitsCheck (s : State) (pt : Port) (n : Nat) : Except Cause ChanId :=
  match s.onlyM pt with
  | some c => .error c
  | none =>
    match s.resolveGlobal n with
    | none => .error .noChannel
    | some c => if (s.chan c).state = .closed then .error .notOpen else .ok c

/-- The limits that SET_LIMITS writes (R11): clamped, then H raised to the current slot's wear. -/
def Limits.written (l : Limits) (f : LimitFields) (wear : Nat) : Limits :=
  let l := l.with f
  if l.hard < wear then { l with hard := wear } else l

/-- The wear of a channel's current slot; none without one. -/
def State.wearOf (s : State) (c : ChanId) : Option Nat := (s.curKeyed c).map (·.wear)

/-- How H was changed (R11; log 14): bit 0 clamped to 65,536, bit 1 raised to W. -/
def hardFlags (l : Limits) (f : LimitFields) (wear : Nat) : Nat :=
  boolCode (match f.hard with | some h => decide (h < 65536) | none => false)
    + 2 * boolCode (decide ((l.with f).hard < wear))

/-- The decision of a SET_LIMITS (R11). -/
def State.setLimits (s : State) (pt : Port) (tag : Byte) (n : Nat) (f : LimitFields) : State :=
  match s.limitsCheck pt n with
  | .error c => s.refuse pt tag 0x05 c (b1 n)
  | .ok c =>
    let old := (s.chan c).limits
    let wear := (s.wearOf c).getD 0
    let new := old.written f wear
    ((s.modChan c fun ch => { ch with limits := new }).finish pt tag 0x05
      (b1 n ++ codeList (LimitFields.changed f new) ++ b1 (hardFlags old f wear))).rest

/-- SET_LIMITS (R11). -/
def execSetLimits (pt : Port) (tag : Byte) (n : Nat) (f : LimitFields) (s : State) :
    Host.Outcome State Fault Refusal :=
  .next (s.command pt fun s => s.setLimits pt tag n f)

/-! ### RENEW (R103) -/

/-- The refusal tests of RENEW (R103), 1 to 4. -/
def State.renewCheck (s : State) (pt : Port) (n : Nat) : Except Cause ChanId :=
  if s.mode ≠ .running then .error .mode
  else match s.resolve pt n with
    | none => .error .noChannel
    | some c =>
      if (s.chan c).state = .closed ∨ (s.chan c).state = .booting then .error .notOpen
      else if (s.chan c).renewal = .exchanging then .error .alreadyRenewing
      else .ok c

/-- The decision of a RENEW (R103): test 5 is a request that the full list does not take (R100). -/
def State.renew (s : State) (pt : Port) (tag : Byte) (n : Nat) : State :=
  match s.renewCheck pt n with
  | .error c => s.refuse pt tag 0x06 c (b1 n)
  | .ok c =>
    match s.request c .port with
    | (s', .notTaken) => s'.refuse pt tag 0x06 .limit (b1 n)
    | (s', l) => s'.finish pt tag 0x06 (b1 n ++ b1 l.code)

/-- RENEW (R103). -/
def execRenew (pt : Port) (tag : Byte) (n : Nat) (s : State) : Host.Outcome State Fault Refusal :=
  .next (s.command pt fun s => s.renew pt tag n)

/-! ### ABORT_RENEWAL (R126) -/

/-- The refusal tests of ABORT_RENEWAL (R126), in order. -/
def State.abortCheck (s : State) (pt : Port) (n : Nat) : Except Cause ChanId :=
  match s.onlyM pt with
  | some c => .error c
  | none =>
    match s.resolveGlobal n with
    | none => .error .noChannel
    | some c =>
      if (s.chan c).renewal = .idle ∨ (s.chan c).renewal = .stopped then .error .nothingPending else .ok c

/-- The exchange of a channel is removed without cutover (R126, R117, R123, R3): its slot is ordered wiped. -/
def State.endExchange (s : State) (c : ChanId) : State :=
  match s.exchOf c with
  | none => s
  | some e => ((s.dropExch c).wipe e.slot).modChan c fun ch => { ch with next := none }

/-- The abort of a pending renewal (R126), by the status the channel has; the status becomes IDLE. -/
def State.abortPending (s : State) (c : ChanId) : State :=
  let s := match (s.chan c).renewal with
    | .exchanging => s.endExchange c
    | .listed => s.unlist c
    | _ => s.modChan c Chan.unpaused
  s.setRenewal c .idle

/-- The decision of an ABORT_RENEWAL (R126); an OPEN_WAIT channel is then closed (R10). The command's own DONE joins port
M's queue after the completions of that close (DESIGN CHOICE, log 12). -/
def State.abort (s : State) (pt : Port) (tag : Byte) (n : Nat) : State :=
  match s.abortCheck pt n with
  | .error c => s.refuse pt tag 0x07 c (b1 n)
  | .ok c =>
    let had := (s.chan c).renewal
    let s := s.abortPending c
    let s := if (s.chan c).state = .openWait then s.close c true else s
    (s.finish pt tag 0x07 (b1 n ++ b1 had.code)).rest

/-- ABORT_RENEWAL (R126). -/
def execAbortRenewal (pt : Port) (tag : Byte) (n : Nat) (s : State) : Host.Outcome State Fault Refusal :=
  .next (s.command pt fun s => s.abort pt tag n)

end Sys2Proof.Machine
end

