-- ==== Sys2Proof/Machine/Turnover.lean ====
section
/-! DEFINITION. The turnover engine: bootstrap and HELLO (R129 to R131), exchanges (R112 to R124), their deadlines, and
the derivations (R39, R40, R119). -/

namespace Sys2Proof.Machine

/-! ### PROTOCOL (R112) -/

/-- The channel a message names in its first byte, when at most 31 (R112; log 17). -/
def namedChan (payload : List Byte) : Option ChanId :=
  if h : byteAt payload 0 < 32 then some ⟨byteAt payload 0, h⟩ else none

/-- A kind whose first byte names a channel (Table 11-3). -/
def Kind.names : Kind → Bool
  | .turnAsk | .turnGive | .turnDone | .turnRefuse | .closeNote => true
  | _ => false

/-- PROTOCOL is raised and the message dropped (R112). -/
def State.protocol (s : State) (c : Option ChanId) : State := s.raise .protocol c

/-- PROTOCOL naming what a message of this kind names (R112). -/
def State.unfit (s : State) (k : Kind) (payload : List Byte) : State :=
  s.protocol (if k.names then namedChan payload else none)

/-! ### Failing and waiting again (R115, R117) -/

/-- The back-off of an attempt (R115): min(2^attempt, 64). -/
def backOff (attempt : Nat) : Nat := min (2 ^ attempt) 64

/-- An exchange has failed its attempts (R117, R102, R4). The pause deadline is not bounded by the end of uptime (DESIGN
CHOICE, log 46). -/
def State.failExchange (s : State) (e : Exchange) : State :=
  let s := (s.raise .renewalFailed (some e.chan)).endExchange e.chan
  let s := s.modChan e.chan fun ch =>
    { ch with renewal := .paused, pause := some (s.uptime + 64), pauseReason := some e.reason }
  s.tellChannel e.chan

/-- An ASKING entry's wait has ended (R115). -/
def State.askingEnds (s : State) (e : Exchange) : State :=
  if e.attempt < s.settings.attempts then
    s.modExch e.chan fun x =>
      { x with state := .backingOff, attempt := e.attempt + 1, deadline := some (s.uptime + backOff (e.attempt + 1)) }
  else s.failExchange e

/-- A BACKING_OFF entry asks again (R116). -/
def State.askAgain (s : State) (e : Exchange) : State :=
  (s.buildAsk e.chan e.reason e.store).modExch e.chan fun x =>
    { x with state := .asking, deadline := some s.replyDeadline }

/-- A CONFIRMING entry's deadline requests the cutover, once (R122, R29). -/
def State.confirmEnds (s : State) (c : ChanId) : State :=
  if s.settlingBusy c then s.modExch c fun x => { x with cutoverWaits := true } else s.cutover c

/-! ### TURN_GIVE, TURN_REFUSE, TURN_ORDER (R118, R121, R123, R124) -/

/-- Build the TURN_DONE of an exchange (R119, R121). -/
def State.buildDone (s : State) (c : ChanId) (epoch : Nat) (proof : Sixteen) : State :=
  s.build .turnDone (turnDonePayload c.val epoch proof)

/-- The epoch expected in a TURN_GIVE (R118). -/
def State.expectedEpoch (s : State) (c : ChanId) : Nat :=
  match s.curKeyed c with
  | some k => if k.epoch = 4095 then 1 else k.epoch + 1
  | none => 1

/-- A TURN_GIVE is taken (R119): the entry is staging, the derivation is requested (R27). A slot that is no longer
RESERVED for the channel makes the GIVE unexpected (R27). -/
def State.takeGive (s : State) (c : ChanId) (e : Exchange) (epoch : Nat) (head : Sixteen) : State :=
  if (s.slot e.slot).state = .reserved ∧ (s.slot e.slot).chan = some c then
    let s := s.modExch c fun x => { x with newEpoch := some epoch, head := some head, deadline := none }
    { s with derivs := s.derivs ++ [.turnover c e.slot epoch e.store head] }
  else s.protocol (some c)

/-- A TURN_GIVE (R118, R121). -/
def State.turnGive (s : State) (c : ChanId) (epoch : Nat) (head : Sixteen) : State :=
  match s.exchOf c with
  | none => s.protocol (some c)
  | some e =>
    let same := e.newEpoch = some epoch ∧ e.head = some head
    match e.state, e.newEpoch with
    | .confirming, _ => if same then s.buildDone c epoch (e.proof.getD 0) else s.protocol (some c)
    | _, some _ => if same then s else s.protocol (some c)
    | _, none => if epoch = s.expectedEpoch c then s.takeGive c e epoch head else s.protocol (some c)

/-- An exchange is stopped by DENIED (R123). -/
def State.denied (s : State) (c : ChanId) : State :=
  ((s.endExchange c).raise .renewalRefused (some c)).setRenewal c .stopped

/-- A TURN_REFUSE (R123); `busy` is cause 01h, otherwise DENIED. -/
def State.turnRefuse (s : State) (c : ChanId) (busy : Bool) : State :=
  match s.exchOf c with
  | none => s.protocol (some c)
  | some e =>
    match e.state, e.newEpoch with
    | .asking, none => if busy then s.askingEnds e else s.denied c
    | .backingOff, none => if busy then s else s.denied c
    | _, _ => s.protocol (some c)

/-- The requests of a TURN_ORDER, in order (R124). -/
def State.order (s : State) (l : List ChanId) : State := l.foldl (fun s c => (s.request c .ordered).1) s

/-- The channels of a TURN_ORDER list that are at most 31, in their order (R124). -/
def orderList (l : List Byte) : List ChanId :=
  l.filterMap fun b => if h : b.toNat < 32 then some ⟨b.toNat, h⟩ else none

/-- A TURN_ORDER (R124, R193). -/
def State.turnOrder (s : State) (payload : List Byte) : State :=
  let n := byteAt payload 0
  if n = 255 ∧ payload.length = 1 then s.order allChans
  else if 1 ≤ n ∧ n ≤ 31 ∧ payload.length = n + 1 then
    let body := payload.drop 1
    let s := s.order (orderList body)
    if (body.any fun b => decide (31 < b.toNat)) then s.protocol none else s
  else s.protocol none

/-! ### HELLO and HELLO_ACK (R129 to R131) -/

/-- Build a HELLO (R129) with the count in use. -/
def State.buildHello (s : State) : State :=
  s.build .hello (helloPayload s.settings.storeId (s.boot.count.getD 0))

/-- A taken HELLO_ACK (R131), with the report test of a channel 0 that becomes LIVE (R162) and the start test. The
attempt of the bootstrap record stays as it was (DESIGN CHOICE, log 28). -/
def State.acknowledged (s : State) : State :=
  let s := { s with boot := { s.boot with phase := .none, deadline := none } }
  let s := (s.modChan 0 fun ch => { ch with state := .live }).tellChannel 0
  let s := s.reportTest false
  let s := (s.request 0 .ordered false true).1
  State.startTest 4 s

/-- A HELLO_ACK while channel 0 is BOOTING (R131, R193). -/
def State.helloAck (s : State) (payload : List Byte) : State :=
  if payload.length ≠ 2 then s.protocol none
  else if s.boot.count = some (numAt payload 0 2) then s.acknowledged
  else s.protocol (some 0)

/-! ### The hand-off to the engine (R112, R69) -/

/-- A message with exactly the length of its kind that names a channel at most 31 (R193); otherwise PROTOCOL. -/
def State.forChan (s : State) (payload : List Byte) (len : Nat) (f : ChanId → State) : State :=
  match namedChan payload with
  | none => s.protocol none
  | some c => if payload.length = len then f c else s.protocol (some c)

/-- The engine decides a channel 0 message (R112). -/
def State.engine (s : State) (k : Kind) (payload : List Byte) : State :=
  match (s.chan 0).state, k with
  | .booting, .helloAck => s.helloAck payload
  | .live, .turnGive | .frozen, .turnGive =>
    s.forChan payload 19 fun c => s.turnGive c (numAt payload 1 2) (ofSixteen (payload.drop 3))
  | .live, .turnRefuse | .frozen, .turnRefuse =>
    s.forChan payload 2 fun c =>
      if byteAt payload 1 = 1 then s.turnRefuse c true
      else if byteAt payload 1 = 2 then s.turnRefuse c false
      else s.protocol (some c)
  | .live, .turnOrder | .frozen, .turnOrder => s.turnOrder payload
  | _, _ => s.unfit k payload

/-! ### Deadlines of exchanges and of the bootstrap -/

/-- A deadline is reached (R113): it is at or below the present uptime (log 10). -/
def State.reached (s : State) (d : Option Nat) : Bool :=
  match d with
  | some n => decide (n ≤ s.uptime)
  | none => false

/-- ASKING_DEADLINE (R115). -/
def execAskingDeadline (c : ChanId) (s : State) : Host.Outcome State Fault Refusal :=
  match s.exchOf c with
  | some e =>
    if e.state = .asking ∧ s.reached e.deadline = true then .next (s.askingEnds e) else .next s
  | none => .next s

/-- BACKING_OFF_DEADLINE (R116). -/
def execBackingOffDeadline (c : ChanId) (s : State) : Host.Outcome State Fault Refusal :=
  match s.exchOf c with
  | some e =>
    if e.state = .backingOff ∧ s.reached e.deadline = true then .next (s.askAgain e).rest else .next s
  | none => .next s

/-- CONFIRMING_DEADLINE (R122, R29): a passed deadline whose cutover waits takes no further action. -/
def execConfirmingDeadline (c : ChanId) (s : State) : Host.Outcome State Fault Refusal :=
  match s.exchOf c with
  | some e =>
    if e.state = .confirming ∧ s.reached e.deadline = true ∧ e.cutoverWaits = false then
      .next (s.confirmEnds c).rest
    else .next s
  | none => .next s

/-- WAITING_CUTOVER (R29): a cutover that waited is taken once the SETTLING slot carries no job (log 27). -/
def execWaitingCutover (s : State) : Host.Outcome State Fault Refusal := .next s.takeWaiting.rest

/-- The HELLO_WAIT deadline (R130). -/
def State.helloWaitEnds (s : State) : State :=
  if s.boot.attempt < s.settings.attempts then
    { s with boot := { s.boot with
        phase := .helloBackoff, attempt := s.boot.attempt + 1
        deadline := some (s.uptime + backOff (s.boot.attempt + 1)) } }
  else
    State.raise { s with boot := { s.boot with phase := .helloSlow, deadline := some (s.uptime + 64) } }
      .renewalFailed (some 0)

/-- HELLO_WAIT_DEADLINE (R130). -/
def execHelloWaitDeadline (s : State) : Host.Outcome State Fault Refusal :=
  if s.boot.phase = .helloWait ∧ s.reached s.boot.deadline = true then .next s.helloWaitEnds else .next s

/-- A new HELLO is built and the phase and deadline are set (R130). -/
def State.helloAgain (s : State) (phase : Phase) (deadline : Nat) : State :=
  State.buildHello { s with boot := { s.boot with phase := phase, deadline := some deadline } }

/-- HELLO_BACKOFF_DEADLINE (R130). -/
def execHelloBackoffDeadline (s : State) : Host.Outcome State Fault Refusal :=
  if s.boot.phase = .helloBackoff ∧ s.reached s.boot.deadline = true then
    .next (s.helloAgain .helloWait s.replyDeadline).rest
  else .next s

/-- HELLO_SLOW_DEADLINE (R130). -/
def execHelloSlowDeadline (s : State) : Host.Outcome State Fault Refusal :=
  if s.boot.phase = .helloSlow ∧ s.reached s.boot.deadline = true then
    .next (s.helloAgain .helloSlow (s.uptime + 64)).rest
  else .next s

/-- EXCHANGE_START (R105, R106): one start test. -/
def execExchangeStart (s : State) : Host.Outcome State Fault Refusal := .next s.startOne.1.rest

/-! ### Derivations (R39, R40, R41, R119) -/

/-- The store writes a bootstrap count (R41 step 2). -/
def Store.writesCount (st : Store) : Bool :=
  match st.write with
  | some (.count _) => true
  | _ => false

/-- A derivation at the head of those waiting may begin (R40, R41 step 3). -/
def State.mayDerive (s : State) (d : Derivation) : Bool :=
  match d with
  | .bootstrap _ => !s.store.writesCount
  | _ => true

/-- DERIVATION_START (R40). -/
def execDerivationStart (s : State) : Host.Outcome State Fault Refusal :=
  match s.core, s.derivs with
  | .idle, d :: rest => if s.mayDerive d then .next { s with core := .derives d, derivs := rest } else .next s
  | _, _ => .next s

/-- The slot filled by a derivation (R27, R41): keys written, W 0, age 0, next sequence 1, T 0, no marks. -/
def Slot.keyedAs (st : SlotState) (c : ChanId) (keys : BitVec 512) (epoch : Nat) : Slot where
  state := st
  chan := some c
  ksKey := ksOf keys
  tagKey := tagOf keys
  keyed := some ⟨epoch, 0, 0, 1, 0, 0⟩
  settle := none
  inFlight := false
  wipePending := false

/-- The keys of a turnover derivation (R39). -/
def State.turnoverKeys (s : State) (c : ChanId) (epoch : Nat) (store head : Sixteen) : BitVec 512 :=
  Config.derive s.settings.rootKey (turnoverInput s.settings.storeId c.val epoch store head)

/-- The keys of a bootstrap derivation (R39). -/
def State.bootstrapKeys (s : State) (count : Nat) : BitVec 512 :=
  Config.derive s.settings.rootKey (bootstrapInput s.settings.storeId count)

/-- The proof value (R120). -/
def proofValue (keys : BitVec 512) (store head : Sixteen) : Sixteen :=
  Config.tag (tagOf keys) (sixteenBytes store ++ sixteenBytes head)

/-- A turnover derivation ends into its RESERVED slot (R27, R119, R3). -/
def State.staged (s : State) (c : ChanId) (i : SlotId) (epoch : Nat) (store head : Sixteen) : State :=
  let keys := s.turnoverKeys c epoch store head
  let proof := proofValue keys store head
  let s := s.modSlot i fun _ => .keyedAs .staged c keys epoch
  let s := s.modChan c fun ch => { ch with next := some i }
  let s := s.modExch c fun x =>
    { x with state := .confirming, proof := some proof, deadline := some (s.uptime + s.settings.confirm) }
  s.buildDone c epoch proof

/-- TURNOVER_DERIVATION_END (R119). -/
def execTurnoverDerivationEnd (s : State) : Host.Outcome State Fault Refusal :=
  match s.core with
  | .derives (.turnover c i epoch store head) =>
    let s := { s with core := .idle }
    if (s.slot i).state = .reserved ∧ (s.slot i).chan = some c then .next (s.staged c i epoch store head).rest
    else .next s.rest
  | _ => .next s

/-- Channel 0 at its bootstrap (R19, R41): BOOTING, the CONTROL defaults, the bootstrap slot current. -/
def Chan.booted (ch : Chan) (l : Limits) (i : SlotId) : Chan :=
  { ch with state := .booting, limits := l, rate := 0, units := 0, bucket := 0, cur := some i }

/-- A bootstrap derivation ends (R41 step 4, R19, R129). -/
def State.bootstrapped (s : State) (i : SlotId) (count : Nat) : State :=
  let s := s.modSlot i fun _ => .keyedAs .active 0 (s.bootstrapKeys count) 1
  let s := (s.modChan 0 fun ch => ch.booted s.settings.control i).tellChannel 0
  State.buildHello { s with boot := ⟨.helloWait, 1, some s.replyDeadline, some count⟩ }

/-- BOOTSTRAP_DERIVATION_END (R41): into the lowest-numbered EMPTY slot. -/
def execBootstrapDerivationEnd (s : State) : Host.Outcome State Fault Refusal :=
  match s.core with
  | .derives (.bootstrap count) =>
    let s := { s with core := .idle }
    match s.freeSlot with
    | some i => .next (s.bootstrapped i count).rest
    | none => .next s.rest
  | _ => .next s

end Sys2Proof.Machine
end

