-- ==== Sys2Proof/Machine/Jobs.lean ====
section
/-! DEFINITION. Cipher jobs: job start (R55, R31, R61), job end (R58, R64, R38), delivery (R67, R68), tag failures
(R97). -/

namespace Sys2Proof.Machine

/-! ### Outbound job start (R55, R31) -/

/-- The bind of a frame to its channel's ACTIVE slot (R31): the slot and its fields before the charge; none when
refused. -/
def State.bindSlot (s : State) (f : Frame) : Option (SlotId × Keyed) :=
  (s.slotOf f.chan .active).bind fun i =>
    if (s.slot i).wipePending then none
    else ((s.slot i).keyed.filter fun k => decide (k.wear + f.cost ≤ s.wearLimit f.chan f.kind)).map fun k => (i, k)

/-- The ACTIVE slot after a successful bind (R31, R33). -/
def Slot.charged (k : Slot) (u : Nat) : Slot :=
  { k with inFlight := true, keyed := k.keyed.map fun y => { y with wear := y.wear + u, nextSeq := y.nextSeq + 1 } }

/-- The channel's units this second after a charge (R90). -/
def Chan.charged (ch : Chan) (u : Nat) : Chan := { ch with units := min (ch.units + u) max32 }

/-- The frame with its binding (R55). -/
def Frame.boundTo (f : Frame) (i : SlotId) (k : Keyed) (t : Trunk) : Frame :=
  { f with held := none, bound := some ⟨i, k.epoch, k.nextSeq, t⟩ }

/-- A frame leaves its FIFO or hold list (R55). -/
def Source.removeSub (r : Source) (sub : Nat) : Source := r.without fun f => f.sub == sub

/-- The job of a bound frame starts (R55): charge, place, the core at work. -/
def State.beginOut (s : State) (f : Frame) (i : SlotId) (k : Keyed) (t : Trunk) : State :=
  let s := s.modSrc f.src fun r => r.removeSub f.sub
  let s := s.modSlot i fun x => x.charged f.cost
  let s := s.modChan f.chan fun ch => ch.charged f.cost
  let s := s.modTrunk t fun r => { r with reserved := r.reserved + 1 }
  { s with core := .outbound (f.boundTo i k t) (some t) false }

/-- A refused binding (R55, R49, R53): the frame goes to the front of its hold list, its entry second kept or the
present one; the freeze request when its wear condition failed. -/
def State.bounce (s : State) (f : Frame) : State :=
  let s := s.modSrc f.src fun r => r.removeSub f.sub
  let held := { f with held := some (f.held.getD s.uptime) }
  let s := s.modSrc f.src fun r => { r with holds := r.holds.set f.chan.val (held :: r.holds[f.chan.val]) }
  if s.wearFails f then s.freeze f.chan else s

/-- The binding of a chosen frame (R55), and the accounts of its requester when the job starts (R81; CONTROL has none). -/
def State.bindOut (s : State) (f : Frame) (r : Option Requester) : State :=
  match s.bindSlot f, s.placeFor f with
  | some (i, k), some t =>
    let s := s.beginOut f i k t
    match r with
    | some r => { s with arb := s.arb.charge r f.cost }
    | none => s
  | _, _ => s.bounce f

/-- OUTBOUND_JOB_START (R55, R82, R83): the arbiter of a free core consults and chooses. When no requester is ready the
round ends (R84); when INBOUND is chosen, its job start is the other step. After a refused binding it chooses again. -/
def execOutboundJobStart (s : State) : Host.Outcome State Fault Refusal :=
  if s.coreFree then
    match s.arbitrate with
    | (s', none) => .next { s' with arb := s'.arb.roundEnd }
    | (s', some (.control f)) => .next (s'.bindOut f none).rest
    | (s', some (.outbound r f)) => .next (s'.bindOut f (some r)).rest
    | (_, some .inbound) => .next s
  else .next s

/-! ### Inbound job start (R61) -/

/-- The FIFO head's job starts, or the frame is dropped as UNKNOWN_EPOCH (R61). -/
def State.beginIn (s : State) : State :=
  match s.inFifo with
  | [] => s
  | f :: fs =>
    let s := { s with inFifo := fs }
    match s.matchSlot f.chan f.epoch with
    | some i =>
      { s.modSlot i fun k => { k with inFlight := true } with
        core := .inbound f i, arb := s.arb.charge .inbound f.cost }
    | none => (s.giveBuf .inbound).countDrop f.trunk .unknownEpoch

/-- INBOUND_JOB_START (R61, R82, R83). When an outbound frame is chosen, its job start is the other step. After a drop the
arbiter chooses again. -/
def execInboundJobStart (s : State) : Host.Outcome State Fault Refusal :=
  if s.coreFree then
    match s.arbitrate with
    | (s', none) => .next { s' with arb := s'.arb.roundEnd }
    | (s', some .inbound) => .next s'.beginIn.rest
    | (_, some _) => .next s
  else .next s

/-! ### Outbound job end (R56 to R58, R144) -/

/-- The enciphered and tagged frame (R56, R57). -/
def Frame.enciphered (f : Frame) (k : Slot) : Frame :=
  match f.bound with
  | none => f
  | some b =>
    let payload := outPayload k.ksKey f.kind f.chan.val b.epoch b.seq f.payload
    { f with
      payload := payload
      auth := some (frameTag k.tagKey (headerBytes f.chan.val f.kind b.epoch b.seq f.payload.length) payload) }

/-- The place held on a trunk is released (R58, R17, R144). -/
def State.release (s : State) (place : Option Trunk) : State :=
  match place with
  | some t => s.modTrunk t fun r => { r with reserved := r.reserved - 1 }
  | none => s

/-- What becomes of a finished outbound frame (R58): discarded after a close (R17), in its place, or decided by R144. -/
def State.placeOut (s : State) (f : Frame) (place : Option Trunk) (discard : Bool) : State :=
  let s := s.release place
  if discard then s.outcome f (.refused .closedWhileQueued)
  else match place with
    | some t => s.enqueue t f
    | none => s.moveOrLose f

/-- OUTBOUND_JOB_END (R58, R38). -/
def execOutboundJobEnd (s : State) : Host.Outcome State Fault Refusal :=
  match s.core with
  | .outbound f place discard =>
    match f.bound with
    | some b =>
      let s' := State.placeOut { s with core := .idle } (f.enciphered (s.slot b.slot)) place discard
      .next ((s'.releaseSlot b.slot).takeWaiting).rest
    | none => .next (State.placeOut { s with core := .idle } f place discard).rest
  | _ => .next s

/-! ### Tag failures (R62, R97) -/

/-- A tag failure of a channel (R97): the bucket, and at 16 the fault and the SUSPECT request. -/
def State.tagFailure (s : State) (c : ChanId) : State :=
  let n := min ((s.chan c).bucket + 1) 255
  if 16 ≤ n then
    let s := (s.modChan c fun ch => { ch with bucket := 0 }).raise .tagFailures (some c)
    (s.request c .suspect).1
  else s.modChan c fun ch => { ch with bucket := n }

/-! ### Delivery (R67, R68) -/

/-- A delivery that cannot be made (R68): the buffer returns and DELIVERY_OVERRUN is raised. -/
def State.overrun (s : State) (pt : Port) (c : ChanId) : State :=
  (s.giveBuf .inbound).raise .deliveryOverrun (some c) none (some pt)

/-- The port that a channel's deliveries go to (R6); LINK has none. -/
def Owner.deliverTo : Owner → Option Port
  | .g => some .g | .p => some .p | .m => some .m | .link => none

/-- A DATA frame is handed on (R67, R68). -/
def State.deliver (s : State) (c : ChanId) (payload : List Byte) : State :=
  match (s.chan c).owner.deliverTo with
  | none => s.giveBuf .inbound
  | some pt =>
    if (s.port pt).enables.deliver = false then
      (s.modPort pt fun r => { r with missed := satIncr r.missed }).overrun pt c
    else if 24 ≤ (s.port pt).deliveries.length then s.overrun pt c
    else
      let loc := ((s.settings.view pt).map fun v => v.localOf c.val).getD 0
      s.modPort pt fun r =>
        { r with
          deliveries := r.deliveries ++ [⟨loc, payload⟩]
          latches := { r.latches with delivery := true } }

/-- The hand-off at a job's end (R64 step 4, R67, R69). -/
def State.handOff (s : State) (f : InFrame) (payload : List Byte) : State :=
  if f.kind = .data then s.deliver f.chan payload else (s.giveBuf .inbound).engine f.kind payload

/-! ### Inbound job end (R62 to R66) -/

/-- The frame is dropped at the end of its job: its buffer returns and the cause is counted (R62, R63, R66). -/
def State.dropIn (s : State) (f : InFrame) (d : Drop) : State := (s.giveBuf .inbound).countDrop f.trunk d

/-- The received tag passes under the slot's tag key (R62). -/
def InFrame.passes (f : InFrame) (k : Slot) : Bool := frameTag k.tagKey f.header f.payload == f.auth

/-- The deciphered payload (R62, R56): direction 1. -/
def InFrame.deciphered (f : InFrame) (k : Slot) : List Byte := cipher k.ksKey f.chan.val 1 f.epoch f.seq f.payload

/-- The steps of R38 that are left at a job's end: the pending wipe and a waiting cutover. -/
def State.endJob (s : State) (i : SlotId) : State := (s.releaseSlot i).takeWaiting

/-- A tag pass (R64): record, cutover under a STAGED slot (R65), the rest of R38, hand-off. -/
def State.passed (s : State) (f : InFrame) (i : SlotId) (k : Keyed) : State :=
  match k.judge f.seq with
  | .late => (s.dropIn f .late).endJob i
  | .repeated => (s.dropIn f .repeated).endJob i
  | .accept =>
    let payload := f.deciphered (s.slot i)
    let wasStaged := (s.slot i).state == .staged
    let s := s.modSlot i fun x => { x with keyed := some (k.record f.seq) }
    let s := if wasStaged then s.cutover f.chan else s
    (s.endJob i).handOff f payload

/-- What the end of an inbound job does (R62 to R66). The tag decides first (R62); at a tag pass, a slot with wipe
pending refuses the window record and the frame is dropped as UNKNOWN_EPOCH (R64 step 1, R66; log 16). -/
def State.inEnds (s : State) (f : InFrame) (i : SlotId) : State :=
  if f.passes (s.slot i) then
    match (s.slot i).wipePending, (s.slot i).keyed with
    | false, some k => s.passed f i k
    | _, _ => (s.dropIn f .unknownEpoch).endJob i
  else ((s.dropIn f .tag).tagFailure f.chan).endJob i

/-- INBOUND_JOB_END (R64). -/
def execInboundJobEnd (s : State) : Host.Outcome State Fault Refusal :=
  match s.core with
  | .inbound f i => .next (State.inEnds { s with core := .idle } f i).rest
  | _ => .next s

end Sys2Proof.Machine
end

