-- ==== Sys2Proof/Machine/Clock.lean ====
section
/-! DEFINITION. The uptime step with the per-second evaluation (R91 to R97, R107, R108, R162), and the deadlines of held
frames, slots, pauses and reports. -/

namespace Sys2Proof.Machine

/-! ### The evaluation of a channel (R91 to R97) -/

/-- The greatest rate estimate (R92). -/
def maxRate : Nat := 268435455

/-- The sample value (R92): 16s, saturated. -/
def sampleOf (units : Nat) : Nat := min (16 * units) maxRate

/-- The estimate (R93): E + trunc((16s − E) / 8), truncated toward zero, saturated. -/
def estimate (e sample : Nat) : Nat := min (Int.toNat ((e : Int) + Int.tdiv ((sample : Int) - (e : Int)) 8)) maxRate

/-- The projection in seconds (R94). -/
def projection (hard wear rate : Nat) : Nat := if rate = 0 then 65535 else min ((hard - wear) * 16 / rate) 65535

/-- The record of a channel after sample, estimate and bucket decay (R92, R93, R97). -/
def Chan.sampled (ch : Chan) : Chan :=
  { ch with rate := estimate ch.rate (sampleOf ch.units), units := 0, bucket := ch.bucket - 1 }

/-- The age step (R95). -/
def Slot.aged (k : Slot) : Slot := { k with keyed := k.keyed.map fun y => { y with age := min (y.age + 1) max32 } }

/-- The first condition of the table of R96 that holds. -/
def trigger (ch : Chan) (wear age : Nat) : Option Reason :=
  if ch.state = .frozen then some .hard
  else if ch.limits.soft ≤ wear then some .wear
  else if projection ch.limits.hard wear ch.rate ≤ ch.limits.lead then some .projected
  else if ch.limits.age ≤ age then some .age
  else none

/-- The trigger step (R96, R14). -/
def State.triggers (s : State) (c : ChanId) : State :=
  let ch := s.chan c
  let k := s.curKeyed c
  match ch.renewal with
  | .idle =>
    match trigger ch ((k.map (·.wear)).getD 0) ((k.map (·.age)).getD 0) with
    | some r => (s.request c r).1
    | none => s
  | .listed => if ch.state = .frozen then (s.request c .hard).1 else s
  | _ => s

/-- The evaluation of one channel, when LIVE or FROZEN (R91). -/
def State.evaluate (s : State) (c : ChanId) : State :=
  if (s.chan c).state = .live ∨ (s.chan c).state = .frozen then
    let s := s.modChan c Chan.sampled
    let s := match (s.chan c).cur with
      | some i => s.modSlot i Slot.aged
      | none => s
    s.triggers c
  else s

/-- The retry of R100: OPEN is requested for an OPEN_WAIT channel whose status is IDLE. -/
def State.retryOpen (s : State) (c : ChanId) : State :=
  if (s.chan c).state = .openWait ∧ (s.chan c).renewal = .idle then (s.request c .openKey).1 else s

/-! ### Ahead renewal (R107, R108) -/

/-- A channel halfway to a trigger (R107). -/
def State.aheadReady (s : State) (c : ChanId) : Bool :=
  match s.curKeyed c with
  | some k =>
    (s.chan c).state == .live && (s.chan c).renewal == .idle
      && (decide ((s.chan c).limits.soft ≤ 2 * k.wear) || decide ((s.chan c).limits.age ≤ 2 * k.age))
  | none => false

/-- The walk of R108: from the channel after the cursor, or from channel 1. -/
def aheadWalk (cursor : Nat) (rotating : Bool) : List ChanId :=
  (List.range 31).map fun i =>
    let n := if rotating then (cursor + i) % 31 + 1 else i + 1
    Fin.ofNat 32 n

/-- An AHEAD start writes its channel into the cursor under ROTATING (R108). -/
def State.noteAhead (s : State) (c : ChanId) : State :=
  if s.settings.aheadRotating then { s with sched := { s.sched with ahead := c.val } } else s

/-- The ahead starts along a walk, at most `left` of them (R107). -/
def State.aheadStarts : List ChanId → Nat → State → State
  | [], _, s => s
  | _, 0, s => s
  | c :: cs, n + 1, s =>
    if s.aheadReady c then
      match s.reserve c with
      | none => s
      | some (s', i) => State.aheadStarts cs n ((s'.startExchange c .ahead i).noteAhead c)
    else State.aheadStarts cs (n + 1) s

/-- The ahead step (R107). -/
def State.aheadStep (s : State) : State :=
  if s.sched.waitList = [] ∧ (s.chan 0).state = .live ∧ s.exch.length < 4 ∧ 0 < s.settings.aheadMax then
    State.aheadStarts (aheadWalk s.sched.ahead s.settings.aheadRotating) (min s.settings.aheadMax (4 - s.exch.length)) s
  else s

/-! ### The uptime step (R190) -/

/-- What follows each step of uptime (log 9): evaluations (R91), OPEN retries (R100), start test (R105), ahead step
(R107), report test (R162). The evaluations and the retries each take the channels in ascending number; the manual gives
neither order (DESIGN CHOICE, log 38). -/
def State.everySecond (s : State) : State :=
  let s := allChans.foldl State.evaluate s
  let s := allChans.foldl State.retryOpen s
  let s := State.startTest 4 s
  s.aheadStep.reportTest false

/-- UPTIME_STEP (R190). Its evaluations come before every deadline row of the same second; R91 and R190 let either come
first (DESIGN CHOICE, log 44). A second at the saturated uptime is still a step: R190 does not say (DESIGN CHOICE, log
47). -/
def execUptimeStep (s : State) : Host.Outcome State Fault Refusal :=
  .next (State.everySecond { s with uptime := min (s.uptime + 1) max32 }).rest

/-! ### Hold expiry (R54) -/

/-- The held frame of a source with a submission number. -/
def State.heldFrame (s : State) (o : OutSrc) (sub : Nat) : Option Frame := (s.src o).held.find? fun f => f.sub == sub

/-- A held frame has reached its hold limit (R54, R12). -/
def State.expired (s : State) (f : Frame) : Bool := s.reached (f.held.map fun e => e + (s.chan f.chan).limits.hold)

/-- The expiry of a held frame (R54). -/
def State.expire (s : State) (f : Frame) : State :=
  let s := s.modSrc f.src fun r => r.removeSub f.sub
  (s.raise .holdExpired (some f.chan) none f.src.port).outcome f (.refused .heldTooLong)

/-- HOLD_EXPIRY (R54). -/
def execHoldExpiry (o : OutSrc) (sub : Nat) (s : State) : Host.Outcome State Fault Refusal :=
  match s.heldFrame o sub with
  | some f => if s.expired f then .next (s.expire { f with src := o }).rest else .next s
  | none => .next s

/-! ### Settle and pause deadlines (R30, R102) -/

/-- A settle deadline passes (R30, R3): the wipe, and the previous slot field removed. -/
def State.settleEnds (s : State) (i : SlotId) : State :=
  let s' := s.wipe i
  match (s.slot i).chan with
  | some c => s'.modChan c fun ch => { ch with prev := none }
  | none => s'

/-- SETTLE_DEADLINE (R30). -/
def execSettleDeadline (i : SlotId) (s : State) : Host.Outcome State Fault Refusal :=
  if (s.slot i).state = .settling ∧ s.reached (s.slot i).settle = true then .next (s.settleEnds i) else .next s

/-- The pause of a channel ends without a request (R102, AHEAD). -/
def State.unpause (s : State) (c : ChanId) : State := (s.modChan c Chan.unpaused).setRenewal c .idle

/-- The decision of a passed pause deadline (R102), the first that applies. A full list leaves the channel PAUSED
(R100). -/
def State.pauseEnds (s : State) (c : ChanId) : State :=
  let ch := s.chan c
  if ch.state = .frozen then (s.request c .hard true).1
  else if ch.state = .openWait then (s.request c .openKey true).1
  else match ch.pauseReason with
    | some .ahead => s.unpause c
    | some r => (s.request c r true).1
    | none => s

/-- PAUSE_DEADLINE (R102). -/
def execPauseDeadline (c : ChanId) (s : State) : Host.Outcome State Fault Refusal :=
  if (s.chan c).renewal = .paused ∧ s.reached (s.chan c).pause = true then .next (s.pauseEnds c) else .next s

/-! ### The report deadline (R160, R162) -/

/-- The deadline is set again and the report test made (R160, R162). -/
def State.reportEnds (s : State) : State :=
  State.reportTest { s with fault := { s.fault with deadline := some (s.uptime + s.settings.reportInterval) } } true

/-- REPORT_DEADLINE (R160). -/
def execReportDeadline (s : State) : Host.Outcome State Fault Refusal :=
  if s.reached s.fault.deadline then .next s.reportEnds.rest else .next s

end Sys2Proof.Machine
end

