-- ==== Sys2Proof/Machine/Link.lean ====
section
/-! DEFINITION. The steps of the trunks: carrier, hold, proving, stall, transmission, reception (R136 to R149). -/

namespace Sys2Proof.Machine

/-! ### Carrier and hold (R136, R137, R142) -/

/-- The pin of a trunk's carrier line takes a level, and the trunk has the carrier event that follows, if any (R136). -/
def State.carrierPin (s : State) (t : Trunk) (level : Bool) : State :=
  (s.modLine t.line fun l => { l with ext := level }).carrierEvents s

/-- CARRIER_RISING (R137). -/
def execCarrierRising (t : Trunk) (s : State) : Host.Outcome State Fault Refusal :=
  .next (s.carrierPin t true)

/-- CARRIER_FALLING (R137). -/
def execCarrierFalling (t : Trunk) (s : State) : Host.Outcome State Fault Refusal :=
  .next (s.carrierPin t false).rest

/-- HOLD_ASSERTED (R142): no further byte leaves while it lasts; the stall time of a transmission rises with the 100 ms
units. -/
def execHoldAsserted (t : Trunk) (s : State) : Host.Outcome State Fault Refusal :=
  .next ((s.cut t).modTrunk t fun r => { r with hold := true })

/-- HOLD_RELEASED (R142): the stall time returns to 0 and sending resumes. -/
def execHoldReleased (t : Trunk) (s : State) : Host.Outcome State Fault Refusal :=
  .next (s.modTrunk t TrunkRec.released)

/-- PROVING_DEADLINE (R137, R139, R145). -/
def execProvingDeadline (t : Trunk) (s : State) : Host.Outcome State Fault Refusal :=
  match (s.trunk t).state, (s.trunk t).proving with
  | .proving, some d => if d ≤ s.uptime then .next (s.proven t).rest else .next s
  | _, _ => .next s

/-- The stall time of a trunk's transmission has reached the stall limit (R142; at or beyond it: log 11). -/
def State.stallReached (s : State) (t : Trunk) : Bool :=
  match (s.trunk t).stall with
  | some n => decide (s.settings.stallLimit ≤ n)
  | none => false

/-- STALL_LIMIT_REACHED (R142): a held transmission whose stall time has reached the stall limit stops. -/
def execStallLimitReached (t : Trunk) (s : State) : Host.Outcome State Fault Refusal :=
  if (s.trunk t).state = .up ∧ (s.trunk t).transmitting = true ∧ (s.trunk t).hold = true
      ∧ s.stallReached t = true then
    .next (s.stallOut t).rest
  else .next s

/-! ### Transmission (R141) -/

/-- TRANSMISSION_START (R141): the head of the queue begins to leave. -/
def execTransmissionStart (t : Trunk) (s : State) : Host.Outcome State Fault Refusal :=
  match (s.trunk t).state, (s.trunk t).transmitting, (s.trunk t).queue with
  | .up, false, f :: _ => .next (s.modTrunk t fun r => r.begin f)
  | _, _, _ => .next s

/-- TRANSMISSION_END (R141): the head leaves the queue with outcome SENT. While hold is asserted no end marker leaves
(R142). -/
def execTransmissionEnd (t : Trunk) (s : State) : Host.Outcome State Fault Refusal :=
  match (s.trunk t).queue, (s.trunk t).transmitting, (s.trunk t).hold with
  | f :: rest, true, false =>
    .next ((s.modTrunk t fun r => r.finish f rest).outcome f .sent).rest
  | _, _, _ => .next s

/-! ### Reception (R147, R148) -/

/-- The frame that received bytes spell when they pass tests 1 to 3 of Table 7-4. -/
def parseFrame (t : Trunk) (bytes : List Byte) : Option InFrame :=
  let len := numAt bytes 8 2
  if bytes.length = 26 + len ∧ 1 ≤ len ∧ len ≤ 2048 then
    if h : byteAt bytes 0 < 32 then
      match Kind.ofCode (byteAt bytes 1) with
      | none => none
      | some k =>
        if (k == .data) == (byteAt bytes 0 != 0) then
          some ⟨t, ⟨byteAt bytes 0, h⟩, k, numAt bytes 2 2, numAt bytes 4 4, (bytes.drop 10).take len,
            ofSixteen (bytes.drop (10 + len))⟩
        else none
    else none
  else none

/-- Tests 4 and 5 of Table 7-4: the slot that matches, and its window's answer. -/
def State.precheck (s : State) (f : InFrame) : Option Drop :=
  match (s.matchSlot f.chan f.epoch).bind fun i => (s.slot i).keyed with
  | none => some .unknownEpoch
  | some k =>
    match k.judge f.seq with
    | .accept => none
    | .late => some .late
    | .repeated => some .repeated

/-- The precheck of a complete received frame at a trunk that is not OFF (R148). -/
def State.receive (s : State) (t : Trunk) (bytes : List Byte) : State :=
  match parseFrame t bytes with
  | none => s.countDrop t .badHeader
  | some f =>
    match s.precheck f with
    | some d => s.countDrop t d
    | none =>
      match s.takeBuf .inbound with
      | none => (s.countDrop t .overrun).raise .rxOverrun (some f.chan) (some t)
      | some s => { s with inFifo := s.inFifo ++ [f] }

/-- FRAME_RECEIVED (R147, R148). A frame longer than 2,074 bytes fails test 1, and so counts BAD_HEADER. -/
def execFrameReceived (t : Trunk) (bytes : List Byte) (s : State) : Host.Outcome State Fault Refusal :=
  if (s.trunk t).state = .off then .next s else .next (s.receive t bytes)

/-- PARTIAL_FRAME_DISCARDED (R147). -/
def execPartialFrameDiscarded (t : Trunk) (s : State) : Host.Outcome State Fault Refusal :=
  if (s.trunk t).state = .off then .next s else .next (s.countDrop t .badHeader)

end Sys2Proof.Machine
end

