-- ==== Sys2Proof/Machine/PortM.lean ====
section
/-! DEFINITION. The commands of port M that set a block: SET_ALLOCATIONS, SET_SHARES, SET_TRUNK, CLEAR_LATCHES,
SET_FAULT_MASK, TAKE_FAULT, SET_PORT, SET_LINE, WRITE_SETTINGS, RESTART, ZEROIZE. -/

namespace Sys2Proof.Machine

/-! ### SET_ALLOCATIONS (R75) -/

/-- The pool with the given allocations in place of the old ones (R75). -/
def Pool.realloc (p : Pool) (f : AllocFields) : Pool :=
  { p with
    allocG := f.g.getD p.allocG, allocP := f.p.getD p.allocP, allocM := f.m.getD p.allocM
    allocInbound := f.inbound.getD p.allocInbound }

/-- Tests 3 and 4 of R75 on the allocations in place. A value above 120 can only be a given one (R72). -/
def AllocFields.fits (f : AllocFields) : Bool :=
  [f.g, f.p, f.m, f.inbound].all fun o => match o with | some n => decide (n ≤ 120) | none => true

/-- The five allocations together (R72). -/
def Pool.totalAlloc (p : Pool) : Nat := p.allocG + p.allocP + p.allocM + p.allocInbound + 8

/-- The five allocations and the five holdings as completion data (R75, R76), in the order in
which R71 names the sources (DESIGN CHOICE, log 49). -/
def Pool.figures (p : Pool) : List Byte :=
  b2 p.allocG ++ b2 p.allocP ++ b2 p.allocM ++ b2 p.allocInbound ++ b2 8
    ++ b4 p.heldG ++ b4 p.heldP ++ b4 p.heldM ++ b4 p.heldInbound ++ b4 p.heldControl

/-- The decision of a SET_ALLOCATIONS (R75). -/
def State.setAllocations (s : State) (pt : Port) (tag : Byte) (f : AllocFields) : State :=
  match s.onlyM pt with
  | some c => s.refuse pt tag 0x09 c []
  | none =>
    let p := s.pool.realloc f
    if AllocFields.fits f && decide (p.totalAlloc ≤ 128) then
      State.finish { s with pool := p } pt tag 0x09 p.figures
    else s.refuse pt tag 0x09 .limit []

/-- SET_ALLOCATIONS (R75). -/
def execSetAllocations (pt : Port) (tag : Byte) (f : AllocFields) (s : State) : Host.Outcome State Fault Refusal :=
  .next (s.command pt fun s => s.setAllocations pt tag f)

/-! ### SET_SHARES (R80) -/

/-- The shares with the given values in place (R80). -/
def PerReq.replaced (q : PerReq) (f : ShareFields) : PerReq :=
  ⟨f.inbound.getD q.inbound, f.p.getD q.p, f.g.getD q.g, f.m.getD q.m⟩

/-- Test 3 of R80 on the given values. -/
def ShareFields.fits (f : ShareFields) : Bool :=
  [f.inbound, f.p, f.g, f.m].all fun o => match o with | some n => decide (n ≤ 512) | none => true

/-- The four together. -/
def PerReq.sum (q : PerReq) : Nat := q.inbound + q.p + q.g + q.m

/-- The decision of a SET_SHARES (R80). -/
def State.setShares (s : State) (pt : Port) (tag : Byte) (f : ShareFields) : State :=
  match s.onlyM pt with
  | some c => s.refuse pt tag 0x0B c []
  | none =>
    let q := s.arb.shares.replaced f
    if ShareFields.fits f && decide (q.sum ≤ 512) then
      State.finish { s with arb := { s.arb with shares := q } } pt tag 0x0B []
    else s.refuse pt tag 0x0B .limit []

/-- SET_SHARES (R80). -/
def execSetShares (pt : Port) (tag : Byte) (f : ShareFields) (s : State) : Host.Outcome State Fault Refusal :=
  .next (s.command pt fun s => s.setShares pt tag f)

/-! ### SET_TRUNK (R138) -/

/-- The enables and states of both trunks (R138): both enables, then both states (DESIGN CHOICE, log 49). -/
def State.trunkFigures (s : State) : List Byte :=
  bb s.t0.enable ++ bb s.t1.enable ++ b1 s.t0.state.code ++ b1 s.t1.state.code

/-- Test 3 of R138: the command would disable the last enabled trunk. -/
def State.lastTrunk (s : State) (t : Trunk) (enable : Bool) : Bool :=
  !enable && (s.trunk t).enable && !(s.trunk t.other).enable

/-- The decision of a SET_TRUNK (R138). Its DONE joins port M's queue after the LINK_LOST completions of frames that a
disable loses (R143; DESIGN CHOICE, log 12). -/
def State.setTrunk (s : State) (pt : Port) (tag : Byte) (t : Trunk) (enable : Bool) : State :=
  match s.onlyM pt with
  | some c => s.refuse pt tag 0x0F c []
  | none =>
    if s.lastTrunk t enable then s.refuse pt tag 0x0F .lastTrunk []
    else
      let s := s.applyEnable t enable
      (s.finish pt tag 0x0F s.trunkFigures).rest

/-- SET_TRUNK (R138). -/
def execSetTrunk (pt : Port) (tag : Byte) (t : Trunk) (enable : Bool) (s : State) :
    Host.Outcome State Fault Refusal :=
  .next (s.command pt fun s => s.setTrunk pt tag t enable)

/-! ### CLEAR_LATCHES, SET_FAULT_MASK (R152, R153) -/

/-- A list of kinds as the 17 bytes of item 0Eh (Table 11-4). -/
def kindBytes (l : List FaultKind) : List Byte := FaultKind.all.flatMap fun k => bb (l.contains k)

/-- The decision of a CLEAR_LATCHES (R152). -/
def State.clearLatches (s : State) (pt : Port) (tag : Byte) (kinds : List FaultKind) : State :=
  match s.onlyM pt with
  | some c => s.refuse pt tag 0x11 c []
  | none =>
    let l := s.fault.latches.filter fun k => !kinds.contains k
    State.finish { s with fault := { s.fault with latches := l } } pt tag 0x11 (kindBytes l)

/-- CLEAR_LATCHES (R152). -/
def execClearLatches (pt : Port) (tag : Byte) (kinds : List FaultKind) (s : State) :
    Host.Outcome State Fault Refusal :=
  .next (s.command pt fun s => s.clearLatches pt tag kinds)

/-- The maskable kinds of a list, in the order of Table 8-1. -/
def maskOf (kinds : List FaultKind) : List FaultKind := FaultKind.all.filter fun k => kinds.contains k && k.maskable

/-- The non-maskable kinds of a list, in the order of Table 8-1. -/
def unmaskable (kinds : List FaultKind) : List FaultKind :=
  FaultKind.all.filter fun k => kinds.contains k && !k.maskable

/-- The decision of a SET_FAULT_MASK (R153). The list of non-maskable kinds stands as 17 bytes like the mask (DESIGN CHOICE,
log 49). -/
def State.setFaultMask (s : State) (pt : Port) (tag : Byte) (kinds : List FaultKind) : State :=
  match s.onlyM pt with
  | some c => s.refuse pt tag 0x12 c []
  | none =>
    State.finish { s with fault := { s.fault with mask := maskOf kinds } } pt tag 0x12
      (kindBytes (maskOf kinds) ++ kindBytes (unmaskable kinds))

/-- SET_FAULT_MASK (R153). -/
def execSetFaultMask (pt : Port) (tag : Byte) (kinds : List FaultKind) (s : State) :
    Host.Outcome State Fault Refusal :=
  .next (s.command pt fun s => s.setFaultMask pt tag kinds)

/-! ### TAKE_FAULT (R158, R159) -/

/-- No report can be sent (R159): SAFE or LOCKDOWN, or channel 0 CLOSED or BOOTING in RUNNING. -/
def State.noReport (s : State) : Bool :=
  s.mode == .safe || s.mode == .lockdown
    || (s.mode == .running && ((s.chan 0).state == .closed || (s.chan 0).state == .booting))

/-- The oldest untaken record is taken (R158): the record as it stands after the take, and the queue. It is removed when
sent, or when `drop` holds (R159). -/
def takeOldest (drop : Bool) : List FaultRec → Option (FaultRec × List FaultRec)
  | [] => none
  | r :: q =>
    if r.taken then (takeOldest drop q).map fun x => (x.1, r :: x.2)
    else
      let r' := { r with taken := true }
      some (r', if r.sent || drop then q else r' :: q)

/-- The four counts that a TAKE_FAULT carries after its record (R158). -/
def FaultUnit.counts (u : FaultUnit) : List Byte :=
  b4 (u.queue.filter fun r => !r.taken).length ++ b4 (u.queue.filter fun r => !r.sent).length
    ++ b4 u.dropped ++ b4 u.lost

/-- The decision of a TAKE_FAULT (R158, R159, R196). All four counts are those after the take and its removal; R158 says so
of the untaken ones alone (DESIGN CHOICE, log 48). -/
def State.takeFault (s : State) (pt : Port) (tag : Byte) : State :=
  if pt ≠ .m then s.refuse pt tag 0x13 .notAllowed []
  else match takeOldest s.noReport s.fault.queue with
    | none => s.finish pt tag 0x13 (List.replicate 16 0 ++ s.fault.counts)
    | some (r, q) =>
      let lost := if !r.sent && s.noReport then satIncr s.fault.lost else s.fault.lost
      let u := { s.fault with queue := q, lost := lost }
      State.finish { s with fault := u } pt tag 0x13 (r.bytes false ++ u.counts)

/-- TAKE_FAULT (R158). -/
def execTakeFault (pt : Port) (tag : Byte) (s : State) : Host.Outcome State Fault Refusal :=
  .next (s.command pt fun s => s.takeFault pt tag)

/-! ### SET_PORT (R174) -/

/-- The enables with the given ones in place (R174). -/
def Enables.replaced (e : Enables) (submit deliver attention : Option Bool) : Enables :=
  ⟨submit.getD e.submit, deliver.getD e.deliver, attention.getD e.attention⟩

/-- Three enables as bytes. -/
def Enables.bytes (e : Enables) : List Byte := bb e.submit ++ bb e.deliver ++ bb e.attention

/-- The refusal tests of SET_PORT (R174), in order. -/
def State.portCheck (s : State) (pt named : Port) : Option Cause :=
  if pt = .g then some .notAllowed
  else if s.mode ≠ .running then some .mode
  else if named = .m ∨ (pt = .p ∧ named = .g) then some .notAllowed
  else if pt = .m ∧ named = .p ∧ s.settings.paymentLock = true then some .locked
  else none

/-- The decision of a SET_PORT (R174). -/
def State.setPort (s : State) (pt : Port) (tag : Byte) (named : Port) (submit deliver attention : Option Bool) :
    State :=
  match s.portCheck pt named with
  | some c => s.refuse pt tag 0x15 c []
  | none =>
    let e := (s.port named).enables.replaced submit deliver attention
    (s.modPort named fun r => { r with enables := e }).finish pt tag 0x15 e.bytes

/-- SET_PORT (R174). -/
def execSetPort (pt : Port) (tag : Byte) (named : Port) (submit deliver attention : Option Bool) (s : State) :
    Host.Outcome State Fault Refusal :=
  .next (s.command pt fun s => s.setPort pt tag named submit deliver attention)

/-! ### SET_LINE (R179, R180) -/

/-- The refusal tests of SET_LINE (R179), in order; the line when none holds. -/
def State.lineCheck (s : State) (pt : Port) (n : Nat) (fn : Option Bool) : Except Cause (Fin 8) :=
  match s.onlyM pt with
  | some c => .error c
  | none =>
    if h : n < 8 then
      if n = 7 ∧ fn = some true then .error .notAllowed
      else if n = 2 ∧ fn = some false ∧ s.settings.tamperLock = true then .error .locked
      else .ok ⟨n, h⟩
    else .error .limit

/-- A line with the given values written (R179). -/
def Line.written (l : Line) (dirOut latch fn : Option Bool) : Line :=
  { l with dirOut := dirOut.getD l.dirOut, latch := latch.getD l.latch, fn := fn.getD l.fn }

/-- Direction, latch, function enable and read-back value of a line (R179, R181). -/
def State.lineBytes (s : State) (i : Fin 8) : List Byte :=
  bb (s.line i).dirOut ++ bb (s.line i).latch ++ bb (s.line i).fn ++ bb (s.readBack i)

/-- The write of a line with what follows from it: carrier events (R136), tamper at an arming with the pin high (R180).
The pin of L2 is tested after the write, with its driver off; R180 does not say which level counts where the latch drove
it high before (DESIGN CHOICE, log 42). -/
def State.writeLine (s : State) (i : Fin 8) (dirOut latch fn : Option Bool) : State :=
  let s' := s.modLine i fun l => l.written dirOut latch fn
  if !s.armed && s'.armed && s'.pin 2 then s'.tamperNow else s'.carrierEvents s

/-- The decision of a SET_LINE (R179). The completion carries the line after the write. It joins port M's queue after the
LINK_LOST completions of frames that a carrier fall of the write loses (R143; DESIGN CHOICE, log 12). -/
def State.setLine (s : State) (pt : Port) (tag : Byte) (n : Nat) (dirOut latch fn : Option Bool) : State :=
  match s.lineCheck pt n fn with
  | .error c => s.refuse pt tag 0x17 c []
  | .ok i =>
    let data := (s.modLine i fun l => l.written dirOut latch fn).lineBytes i
    ((s.writeLine i dirOut latch fn).finish pt tag 0x17 data).rest

/-- SET_LINE (R179). -/
def execSetLine (pt : Port) (tag : Byte) (n : Nat) (dirOut latch fn : Option Bool) (s : State) :
    Host.Outcome State Fault Refusal :=
  .next (s.command pt fun s => s.setLine pt tag n dirOut latch fn)

/-! ### WRITE_SETTINGS (R184) -/

/-- The refusal tests of WRITE_SETTINGS (R184), in order. -/
def State.writeCheck (s : State) (pt : Port) : Option Cause :=
  if pt ≠ .m then some .notAllowed
  else if s.mode = .lockdown then some .mode
  else if s.store.write.isSome then some .busy
  else none

/-- The decision of a WRITE_SETTINGS (R184): the write begins and the command is outstanding at port M. A record whose
image is not of 133 bytes is malformed (R194). -/
def State.writeSettings (s : State) (pt : Port) (tag : Byte) (image : List Byte) : State :=
  if image.length ≠ 133 then s.refuse pt tag 0x1A .badCommand []
  else match s.writeCheck pt with
    | some c => s.refuse pt tag 0x1A c []
    | none =>
      let new := s.store.newImage image
      let s := { s with store :=
        { s.store with write := some (.settings new s.store.kept (imageCheck new) tag false) } }
      s.modPort .m fun r => { r with outstanding := r.outstanding + 1 }

/-- WRITE_SETTINGS (R184). -/
def execWriteSettings (pt : Port) (tag : Byte) (image : List Byte) (s : State) : Host.Outcome State Fault Refusal :=
  .next (s.command pt fun s => s.writeSettings pt tag image)

/-! ### RESTART, ZEROIZE (R187, R188) -/

/-- The decision of a RESTART (R187): at once, or at the end of the write in progress (R184, R41). An accepted one makes
no completion. -/
def State.restart (s : State) (pt : Port) (tag : Byte) : State :=
  if pt ≠ .m then s.refuse pt tag 0x1B .notAllowed []
  else if s.mode = .lockdown then s.refuse pt tag 0x1B .mode []
  else if s.store.write.isSome then { s with store := { s.store with restartWaits := true } }
  else s.startUp true

/-- RESTART (R187). -/
def execRestart (pt : Port) (tag : Byte) (s : State) : Host.Outcome State Fault Refusal :=
  .next (s.command pt fun s => s.restart pt tag)

/-- The decision of a ZEROIZE (R188): DONE after its effects, with the mode the part is then in. -/
def State.zeroize (s : State) (pt : Port) (tag : Byte) : State :=
  match s.onlyM pt with
  | some c => s.refuse pt tag 0x1C c []
  | none =>
    let s := s.zeroizeNow
    s.finish pt tag 0x1C (b1 s.mode.code)

/-- ZEROIZE (R188). -/
def execZeroize (pt : Port) (tag : Byte) (s : State) : Host.Outcome State Fault Refusal :=
  .next (s.command pt fun s => s.zeroize pt tag)

end Sys2Proof.Machine
end

