-- ==== Sys2Proof/Machine/Status.lean ====
section
/-! DEFINITION. The status commands: each completes at once with DONE and the values of its rule (log 13), and changes
nothing else but what a clear request clears. Orders, widths and codes that no rule gives: log 49. -/

namespace Sys2Proof.Machine

/-- A status command of port M (taken after STARTING): NOT_ALLOWED from ports G and P. -/
def State.status (s : State) (pt : Port) (tag : Byte) (kind : Nat) (data : List Byte) : State :=
  if pt = .m then s.finish pt tag kind data else s.refuse pt tag kind .notAllowed []

/-! ### CHANNEL_STATUS (R22) -/

/-- The source that holds a channel's frames (R49). -/
def Owner.src : Owner → OutSrc
  | .g => .g | .p => .p | .m => .m | .link => .control

/-- The epoch and state of a slot role, absent without one (R22). -/
def State.roleBytes (s : State) (o : Option SlotId) : List Byte :=
  optBytes 2 (o.bind fun i => (s.slot i).keyed.map (·.epoch)) ++ optBytes 1 (o.map fun i => (s.slot i).state.code)

/-- The number of frames in a channel's hold list (R22). -/
def State.holdCount (s : State) (c : ChanId) : Nat := ((s.src (s.chan c).owner.src).holds[c.val]).length

/-- What CHANNEL_STATUS returns (R22). No rule gives the width of E; it stands in 4 bytes (DESIGN CHOICE, log 49). -/
def State.channelData (s : State) (c : ChanId) : List Byte :=
  let ch := s.chan c
  let k := s.curKeyed c
  b1 ch.state.code ++ b1 ch.owner.code ++ b1 ch.cls.code ++ b1 ch.limits.route.code ++ b1 ch.renewal.code
    ++ s.roleBytes ch.cur ++ s.roleBytes ch.next ++ s.roleBytes ch.prev
    ++ optBytes 4 (k.map (·.wear)) ++ optBytes 4 (k.map (·.age)) ++ optBytes 4 (k.map (·.nextSeq))
    ++ b4 ch.limits.hard ++ b1 ch.limits.margin ++ b4 ch.limits.soft ++ b4 ch.limits.age ++ b2 ch.limits.lead
    ++ b1 ch.limits.hold ++ b4 ch.rate ++ b4 ch.bucket ++ optBytes 4 ch.pause ++ b4 (s.holdCount c)

/-- The channel a CHANNEL_STATUS names (Table 1-4): port M names any global channel 0 to 31 that R7 resolves. -/
def State.channelStatus (s : State) (pt : Port) (tag : Byte) (n : Nat) : State :=
  if pt ≠ .m ∧ s.mode ≠ .running then s.refuse pt tag 0x02 .mode []
  else match s.resolve pt n with
    | none => s.refuse pt tag 0x02 .noChannel []
    | some c => s.finish pt tag 0x02 (s.channelData c)

/-- CHANNEL_STATUS (R22). -/
def execChannelStatus (pt : Port) (tag : Byte) (n : Nat) (s : State) : Host.Outcome State Fault Refusal :=
  .next (s.command pt fun s => s.channelStatus pt tag n)

/-! ### KEY_STORE_STATUS (R42) -/

/-- The number of EMPTY slots (R42). -/
def State.emptySlots (s : State) : Nat := (allSlots.filter fun i => (s.slot i).state == .empty).length

/-- What KEY_STORE_STATUS returns (R42); never a key. -/
def State.slotData (s : State) (i : SlotId) : List Byte :=
  let k := s.slot i
  b1 k.state.code ++ optBytes 1 (k.chan.map (·.val)) ++ optBytes 2 (k.keyed.map (·.epoch))
    ++ optBytes 4 (k.keyed.map (·.wear)) ++ optBytes 4 (k.keyed.map (·.age)) ++ optBytes 4 (k.keyed.map (·.nextSeq))
    ++ optBytes 4 (k.keyed.map (·.top)) ++ optBytes 4 k.settle ++ bb k.inFlight ++ bb k.wipePending
    ++ b4 s.emptySlots

/-- The decision of a KEY_STORE_STATUS (R42): NOT_ALLOWED, then NO_SLOT above 47. -/
def State.keyStoreStatus (s : State) (pt : Port) (tag : Byte) (n : Nat) : State :=
  if pt ≠ .m then s.refuse pt tag 0x08 .notAllowed []
  else if h : n < 48 then s.finish pt tag 0x08 (s.slotData ⟨n, h⟩)
  else s.refuse pt tag 0x08 .noSlot []

/-- KEY_STORE_STATUS (R42). -/
def execKeyStoreStatus (pt : Port) (tag : Byte) (n : Nat) (s : State) : Host.Outcome State Fault Refusal :=
  .next (s.command pt fun s => s.keyStoreStatus pt tag n)

/-! ### POOL_STATUS (R76), ARBITER_STATUS (R85) -/

/-- The INBOUND buffers in the core (R76). -/
def Core.inboundCount : Core → Nat
  | .inbound _ _ => 1
  | _ => 0

/-- What POOL_STATUS returns (R76). -/
def State.poolData (s : State) : List Byte :=
  s.pool.figures ++ b4 s.pool.free ++ b4 s.inFifo.length ++ b4 s.core.inboundCount
    ++ b4 s.portG.deliveries.length ++ b4 s.portP.deliveries.length ++ b4 s.portM.deliveries.length

/-- POOL_STATUS (R76). -/
def execPoolStatus (pt : Port) (tag : Byte) (s : State) : Host.Outcome State Fault Refusal :=
  .next (s.command pt fun s => s.status pt tag 0x0A s.poolData)

/-- Core state code (Table 11-6), then requester and cost of a running job and the kind of a running derivation. -/
def Core.bytes : Core → List Byte
  | .idle => b1 0 ++ optBytes 1 none ++ optBytes 4 none ++ optBytes 1 none
  | .outbound f _ _ => b1 1 ++ b1 f.src.code ++ b4 f.cost ++ optBytes 1 none
  | .inbound f _ => b1 1 ++ b1 Requester.inbound.code ++ b4 f.cost ++ optBytes 1 none
  | .derives d => b1 2 ++ optBytes 1 none ++ optBytes 4 none ++ b1 d.code

/-- Four numbers of the requesters, each in `n` bytes, in the order in which R80 names them (DESIGN CHOICE, log 49). -/
def PerReq.bytes (q : PerReq) (n : Nat) : List Byte :=
  beBytes n q.inbound ++ beBytes n q.p ++ beBytes n q.g ++ beBytes n q.m

/-- What ARBITER_STATUS returns (R85). -/
def State.arbiterData (s : State) : List Byte :=
  s.core.bytes ++ b4 s.derivs.length ++ s.arb.shares.bytes 2 ++ s.arb.spent.bytes 4 ++ b4 s.arb.total
    ++ b1 s.arb.last.code

/-- ARBITER_STATUS (R85). -/
def execArbiterStatus (pt : Port) (tag : Byte) (s : State) : Host.Outcome State Fault Refusal :=
  .next (s.command pt fun s => s.status pt tag 0x0C s.arbiterData)

/-! ### WAIT_LIST_STATUS (R104), EXCHANGE_STATUS (R128) -/

/-- One entry of the wait list (R104). -/
def WaitEntry.bytes (e : WaitEntry) : List Byte := b1 e.chan.val ++ b1 e.reason.code ++ b1 e.reason.urgency

/-- The PAUSED channels (R104), in ascending channel number (the manual gives no order: DESIGN CHOICE, log 36). -/
def State.pausedChans (s : State) : List ChanId := allChans.filter fun c => (s.chan c).renewal == .paused

/-- One PAUSED channel (R104). R104 lists its pause deadline and paused reason alone; its channel number stands before them
(DESIGN CHOICE, log 49). -/
def State.pausedBytes (s : State) (c : ChanId) : List Byte :=
  b1 c.val ++ optBytes 4 (s.chan c).pause ++ optBytes 1 ((s.chan c).pauseReason.map Reason.code)

/-- What WAIT_LIST_STATUS returns (R104). A 1-byte count stands before each of its two lists (DESIGN CHOICE, log 49). -/
def State.waitListData (s : State) : List Byte :=
  b1 s.sched.waitList.length ++ s.sched.waitList.flatMap WaitEntry.bytes ++ b4 s.exch.length
    ++ b1 s.pausedChans.length ++ s.pausedChans.flatMap s.pausedBytes
    ++ b1 s.sched.ahead ++ b4 s.settings.aheadMax ++ bb s.settings.aheadRotating

/-- WAIT_LIST_STATUS (R104). -/
def execWaitListStatus (pt : Port) (tag : Byte) (s : State) : Host.Outcome State Fault Refusal :=
  .next (s.command pt fun s => s.status pt tag 0x0D s.waitListData)

/-- One exchange entry (R128); never a nonce. -/
def Exchange.bytes (e : Exchange) : List Byte :=
  b1 e.chan.val ++ b1 e.reason.code ++ b1 e.stateCode ++ b4 e.attempt ++ b1 e.slot.val ++ optBytes 2 e.newEpoch
    ++ optBytes 4 e.deadline

/-- What EXCHANGE_STATUS returns (R128). A 1-byte count stands before its entries (DESIGN CHOICE, log 49). -/
def State.exchangeData (s : State) : List Byte :=
  b1 s.exch.length ++ s.exch.flatMap Exchange.bytes
    ++ b1 s.boot.phase.code ++ b4 s.boot.attempt ++ optBytes 4 s.boot.deadline ++ optBytes 4 s.boot.count
    ++ b4 s.settings.reply ++ b4 s.settings.attempts ++ b4 s.settings.confirm ++ b4 s.settings.settle

/-- EXCHANGE_STATUS (R128). -/
def execExchangeStatus (pt : Port) (tag : Byte) (s : State) : Host.Outcome State Fault Refusal :=
  .next (s.command pt fun s => s.status pt tag 0x0E s.exchangeData)

/-! ### TRUNK_STATUS (R149) -/

/-- The six receive counters (R149). -/
def Counters.bytes (k : Counters) : List Byte :=
  b4 k.badHeader ++ b4 k.unknownEpoch ++ b4 k.late ++ b4 k.repeated ++ b4 k.tag ++ b4 k.overrun

/-- One trunk (R149). No rule gives the width of the stall limit; it stands in 4 bytes (DESIGN CHOICE, log 49). -/
def State.trunkBytes (s : State) (t : Trunk) : List Byte :=
  let r := s.trunk t
  bb r.enable ++ b1 r.state.code ++ bb (s.carrier t) ++ bb r.hold ++ optBytes 4 r.proving ++ b4 r.queue.length
    ++ b4 r.reserved ++ bb r.transmitting ++ b4 r.depth ++ b4 r.provingInterval ++ b4 s.settings.stallLimit
    ++ r.counters.bytes

/-- What TRUNK_STATUS returns (R149). -/
def State.trunkData (s : State) : List Byte :=
  s.trunkBytes .t0 ++ s.trunkBytes .t1 ++ optBytes 1 (s.active.map Trunk.code)

/-- The decision of a TRUNK_STATUS (R149); the clear request sets the counters of both trunks to 0 after the read. -/
def State.trunkStatus (s : State) (pt : Port) (tag : Byte) (clear : Bool) : State :=
  if pt ≠ .m then s.refuse pt tag 0x10 .notAllowed []
  else
    let data := s.trunkData
    let s := if clear then
        { s with t0 := { s.t0 with counters := .zero }, t1 := { s.t1 with counters := .zero } }
      else s
    s.finish pt tag 0x10 data

/-- TRUNK_STATUS (R149). -/
def execTrunkStatus (pt : Port) (tag : Byte) (clear : Bool) (s : State) : Host.Outcome State Fault Refusal :=
  .next (s.command pt fun s => s.trunkStatus pt tag clear)

/-! ### FAULT_STATUS (R166) -/

/-- What FAULT_STATUS returns (R166). -/
def State.faultData (s : State) : List Byte :=
  let u := s.fault
  kindBytes u.latches ++ kindBytes u.mask ++ b4 u.queue.length ++ b4 (u.queue.filter fun r => !r.taken).length
    ++ b4 (u.queue.filter fun r => !r.sent).length ++ b4 u.dropped ++ b4 u.lost ++ bb u.report.isSome
    ++ optBytes 4 (u.report.map fun _ => (u.queue.filter fun r => r.inReport).length) ++ optBytes 4 u.deadline
    ++ b4 s.settings.reportInterval ++ bb u.level

/-- FAULT_STATUS (R166). -/
def execFaultStatus (pt : Port) (tag : Byte) (s : State) : Host.Outcome State Fault Refusal :=
  .next (s.command pt fun s => s.status pt tag 0x14 s.faultData)

/-! ### PORT_STATUS (R175) -/

/-- What PORT_STATUS returns for a port (R175). The four attention latches stand as the one bit-coded byte that R194 gives
for READ_ATTENTION; no rule codes them here (DESIGN CHOICE, log 39). -/
def PortRec.bytes (r : PortRec) : List Byte :=
  r.enables.bytes ++ b4 r.outstanding ++ b4 r.marks ++ b4 r.completions.length ++ b4 r.deliveries.length
    ++ [r.latches.byte] ++ bb r.level ++ b4 r.missed

/-- The refusal tests of PORT_STATUS (R175), in order. -/
def State.portStatusCheck (s : State) (pt named : Port) : Option Cause :=
  if pt = .m then none
  else if s.mode ≠ .running then some .mode
  else if named ≠ pt then some .notAllowed
  else none

/-- The decision of a PORT_STATUS (R175). -/
def State.portStatus (s : State) (pt : Port) (tag : Byte) (named : Port) (clear : Bool) : State :=
  match s.portStatusCheck pt named with
  | some c => s.refuse pt tag 0x16 c []
  | none =>
    let data := (s.port named).bytes
    let s := if clear then s.modPort named fun r => { r with missed := 0 } else s
    s.finish pt tag 0x16 data

/-- PORT_STATUS (R175). -/
def execPortStatus (pt : Port) (tag : Byte) (named : Port) (clear : Bool) (s : State) :
    Host.Outcome State Fault Refusal :=
  .next (s.command pt fun s => s.portStatus pt tag named clear)

/-! ### READ_LINES (R181), PART_STATUS (R190) -/

/-- One line as READ_LINES returns it (R181): for L2 the arming, for L3 to L6 the level the output function supplies. The
lines that have neither carry no byte in their place (DESIGN CHOICE, log 49). -/
def State.lineData (s : State) (i : Fin 8) : List Byte :=
  s.lineBytes i ++ (if i = 2 then bb s.armed else []) ++ (match s.fnLevel i with | some b => bb b | none => [])

/-- READ_LINES (R181). -/
def execReadLines (pt : Port) (tag : Byte) (s : State) : Host.Outcome State Fault Refusal :=
  .next (s.command pt fun s => s.status pt tag 0x18 (allLines.flatMap s.lineData))

/-- What PART_STATUS returns (R190). Table 11-6 has no code for where the settings in use came from: 01h stands for the
image and 00h for the delivered defaults (DESIGN CHOICE, log 49). -/
def State.partData (s : State) : List Byte :=
  let t := s.settings
  b1 s.mode.code ++ b4 s.uptime ++ bb s.store.write.isSome ++ bb t.fromImage ++ beBytes 8 t.storeId.toNat
    ++ optBytes 4 s.boot.count ++ bb t.rootLock ++ bb t.viewsLock ++ bb t.paymentLock ++ bb t.tamperLock
    ++ b4 t.reply ++ b4 t.attempts ++ b4 t.confirm ++ b4 t.settle ++ b4 t.aheadMax ++ bb t.aheadRotating
    ++ b4 t.reportInterval

/-- PART_STATUS (R190). -/
def execPartStatus (pt : Port) (tag : Byte) (s : State) : Host.Outcome State Fault Refusal :=
  .next (s.command pt fun s => s.status pt tag 0x19 s.partData)

end Sys2Proof.Machine
end

