-- ==== Sys2Proof/Machine/Dispatch.lean ====
section
/-! DEFINITION. One arm for each step of the table: a direct call of its meaning. -/

namespace Sys2Proof.Machine

/-- The effect of a step on everything but the queue of waiting steps. -/
def exec (i : Instr) (s : State) : Host.Outcome State Fault Refusal :=
  match i with
  | .send pt tag c payload => Sys2Proof.Machine.execSend pt tag c payload s
  | .channelStatus pt tag c => Sys2Proof.Machine.execChannelStatus pt tag c s
  | .openChannel pt tag c f => Sys2Proof.Machine.execOpen pt tag c f s
  | .closeChannel pt tag c => Sys2Proof.Machine.execClose pt tag c s
  | .setLimits pt tag c f => Sys2Proof.Machine.execSetLimits pt tag c f s
  | .renew pt tag c => Sys2Proof.Machine.execRenew pt tag c s
  | .abortRenewal pt tag c => Sys2Proof.Machine.execAbortRenewal pt tag c s
  | .keyStoreStatus pt tag n => Sys2Proof.Machine.execKeyStoreStatus pt tag n s
  | .setAllocations pt tag f => Sys2Proof.Machine.execSetAllocations pt tag f s
  | .poolStatus pt tag => Sys2Proof.Machine.execPoolStatus pt tag s
  | .setShares pt tag f => Sys2Proof.Machine.execSetShares pt tag f s
  | .arbiterStatus pt tag => Sys2Proof.Machine.execArbiterStatus pt tag s
  | .waitListStatus pt tag => Sys2Proof.Machine.execWaitListStatus pt tag s
  | .exchangeStatus pt tag => Sys2Proof.Machine.execExchangeStatus pt tag s
  | .setTrunk pt tag t enable => Sys2Proof.Machine.execSetTrunk pt tag t enable s
  | .trunkStatus pt tag clear => Sys2Proof.Machine.execTrunkStatus pt tag clear s
  | .clearLatches pt tag kinds => Sys2Proof.Machine.execClearLatches pt tag kinds s
  | .setFaultMask pt tag kinds => Sys2Proof.Machine.execSetFaultMask pt tag kinds s
  | .takeFault pt tag => Sys2Proof.Machine.execTakeFault pt tag s
  | .faultStatus pt tag => Sys2Proof.Machine.execFaultStatus pt tag s
  | .setPort pt tag named submit deliver attention => Sys2Proof.Machine.execSetPort pt tag named submit deliver attention s
  | .portStatus pt tag named clear => Sys2Proof.Machine.execPortStatus pt tag named clear s
  | .setLine pt tag l dirOut latch fn => Sys2Proof.Machine.execSetLine pt tag l dirOut latch fn s
  | .readLines pt tag => Sys2Proof.Machine.execReadLines pt tag s
  | .partStatus pt tag => Sys2Proof.Machine.execPartStatus pt tag s
  | .writeSettings pt tag image => Sys2Proof.Machine.execWriteSettings pt tag image s
  | .restart pt tag => Sys2Proof.Machine.execRestart pt tag s
  | .zeroize pt tag => Sys2Proof.Machine.execZeroize pt tag s
  | .undefinedCommand pt record => Sys2Proof.Machine.execUndefinedCommand pt record s
  | .readCompletion pt => Sys2Proof.Machine.execReadCompletion pt s
  | .readDelivery pt => Sys2Proof.Machine.execReadDelivery pt s
  | .readAttention pt clear => Sys2Proof.Machine.execReadAttention pt clear s
  | .undefinedTransaction pt code => Sys2Proof.Machine.execUndefinedTransaction pt code s
  | .transactionCutShort pt => Sys2Proof.Machine.execTransactionCutShort pt s
  | .powerOnReset => Sys2Proof.Machine.execPowerOnReset s
  | .portReset pt => Sys2Proof.Machine.execPortReset pt s
  | .portResetRelease pt => Sys2Proof.Machine.execPortResetRelease pt s
  | .tamper held => Sys2Proof.Machine.execTamper held s
  | .carrierRising t => Sys2Proof.Machine.execCarrierRising t s
  | .carrierFalling t => Sys2Proof.Machine.execCarrierFalling t s
  | .holdAsserted t => Sys2Proof.Machine.execHoldAsserted t s
  | .holdReleased t => Sys2Proof.Machine.execHoldReleased t s
  | .frameReceived t bytes => Sys2Proof.Machine.execFrameReceived t bytes s
  | .partialFrameDiscarded t => Sys2Proof.Machine.execPartialFrameDiscarded t s
  | .uptimeStep => Sys2Proof.Machine.execUptimeStep s
  | .holdExpiry src sub => Sys2Proof.Machine.execHoldExpiry src sub s
  | .settleDeadline n => Sys2Proof.Machine.execSettleDeadline n s
  | .pauseDeadline c => Sys2Proof.Machine.execPauseDeadline c s
  | .askingDeadline c => Sys2Proof.Machine.execAskingDeadline c s
  | .backingOffDeadline c => Sys2Proof.Machine.execBackingOffDeadline c s
  | .confirmingDeadline c => Sys2Proof.Machine.execConfirmingDeadline c s
  | .helloWaitDeadline => Sys2Proof.Machine.execHelloWaitDeadline s
  | .helloBackoffDeadline => Sys2Proof.Machine.execHelloBackoffDeadline s
  | .helloSlowDeadline => Sys2Proof.Machine.execHelloSlowDeadline s
  | .provingDeadline t => Sys2Proof.Machine.execProvingDeadline t s
  | .reportDeadline => Sys2Proof.Machine.execReportDeadline s
  | .stallLimitReached t => Sys2Proof.Machine.execStallLimitReached t s
  | .outboundJobStart => Sys2Proof.Machine.execOutboundJobStart s
  | .inboundJobStart => Sys2Proof.Machine.execInboundJobStart s
  | .outboundJobEnd => Sys2Proof.Machine.execOutboundJobEnd s
  | .inboundJobEnd => Sys2Proof.Machine.execInboundJobEnd s
  | .derivationStart => Sys2Proof.Machine.execDerivationStart s
  | .turnoverDerivationEnd => Sys2Proof.Machine.execTurnoverDerivationEnd s
  | .bootstrapDerivationEnd => Sys2Proof.Machine.execBootstrapDerivationEnd s
  | .selfCheckEnd ok => Sys2Proof.Machine.execSelfCheckEnd ok s
  | .settingsWriteEnd => Sys2Proof.Machine.execSettingsWriteEnd s
  | .countWriteEnd => Sys2Proof.Machine.execCountWriteEnd s
  | .deferredRestart => Sys2Proof.Machine.execDeferredRestart s
  | .waitingCutover => Sys2Proof.Machine.execWaitingCutover s
  | .transmissionStart t => Sys2Proof.Machine.execTransmissionStart t s
  | .transmissionEnd t => Sys2Proof.Machine.execTransmissionEnd t s
  | .exchangeStart => Sys2Proof.Machine.execExchangeStart s

end Sys2Proof.Machine
end

