-- ==== Sys2Proof/Machine/Step.lean ====
section
/-! DEFINITION. One step of the machine: the command at the front of the queue, or the 100 ms tick on an empty queue. -/

namespace Sys2Proof.Machine

/-- The stall time of a held transmission rises by one unit of 100 ms, up to the stall limit (R142). -/
def TrunkRec.stalling (r : TrunkRec) (limit : Nat) : TrunkRec :=
  if r.transmitting && r.hold then { r with stall := r.stall.map fun n => min (n + 1) limit } else r

/-- 100 ms pass (R142): what the block does when no step waits (DESIGN CHOICE, log 3). -/
def State.tick (s : State) : State :=
  { s with t0 := s.t0.stalling s.settings.stallLimit, t1 := s.t1.stalling s.settings.stallLimit }

/-- Take the step at the front of the queue; on an empty queue, a tick. -/
def step (s : State) : Host.Outcome State Fault Refusal :=
  match s.pending with
  | [] => .next s.tick
  | c :: rest => exec c { s with pending := rest }

/-- The command that a word spells, put at the front of the queue; the table gives no row any bits, so no word spells
one (log 23). -/
def State.withFetchWord (s : State) (nbits w : Nat) : State :=
  match decodeTableWord nbits w with
  | some c => { s with pending := c :: s.pending }
  | none => s

end Sys2Proof.Machine
end

