-- ==== Sys2Proof/Safety.lean ====
section
/-! DEFINITION. What the claims about the part are stated in: the laws of the whole state, the taking of a command, and
what a completion, a built message, a close and a start-up leave. -/

namespace Sys2Proof.Machine

/-! ### Laws of the whole state -/

/-- R73: the free buffers and the buffers held by the five sources together number 128. -/
def State.PoolLaw (s : State) : Prop := s.pool.free + s.pool.totalHeld = 128

/-- R185: in SAFE and in LOCKDOWN every key slot is EMPTY and every channel CLOSED. The core does no work there (R44). -/
def State.QuietLaw (s : State) : Prop :=
  s.mode = .safe ∨ s.mode = .lockdown →
    (∀ i, (s.slot i).state = .empty) ∧ (∀ c, (s.chan c).state = .closed) ∧ s.core = .idle ∧ s.derivs = []

/-- R113, R98, R154, R67, R190: at most four exchanges, 31 entries on the wait list, 32 fault records, 24 deliveries at a
port, and uptime within 32 bits. -/
def State.BoundLaw (s : State) : Prop :=
  s.exch.length ≤ 4 ∧ s.sched.waitList.length ≤ 31 ∧ s.fault.queue.length ≤ 32
    ∧ (∀ pt, (s.port pt).deliveries.length ≤ 24) ∧ s.uptime ≤ max32

/-- R71, R74, R76: the buffers that INBOUND holds are those of the frames in the inbound FIFO, in the core and in the
three delivery queues. -/
def State.InboundLaw (s : State) : Prop :=
  s.pool.heldInbound = s.inFifo.length + s.core.inboundCount
    + (s.portG.deliveries.length + s.portP.deliveries.length + s.portM.deliveries.length)

/-- R24, Table 2-1 for one slot: an EMPTY slot holds nothing; the channel is present in every other state, the
conditional fields in STAGED, ACTIVE and SETTLING, the settle deadline in SETTLING; a RESERVED slot holds no key and
takes part in no job. -/
def Slot.Law (k : Slot) : Prop :=
  (k.state = .empty → k = .wiped)
  ∧ (k.chan.isSome = true ↔ k.state ≠ .empty)
  ∧ (k.keyed.isSome = true ↔ k.state = .staged ∨ k.state = .active ∨ k.state = .settling)
  ∧ (k.settle.isSome = true ↔ k.state = .settling)
  ∧ (k.state = .reserved → k.ksKey = 0 ∧ k.tagKey = 0 ∧ k.inFlight = false ∧ k.wipePending = false)

/-- R24, Table 2-1: every slot. -/
def State.SlotLaw (s : State) : Prop := ∀ i, (s.slot i).Law

/-- The place in a transmit queue that the core's job holds (R140). -/
def Core.place : Core → Option Trunk
  | .outbound _ place _ => place
  | _ => none

/-- R140 and Table 7-1 for one trunk: never more frames and reserved places than the depth, nothing outside UP, and a
reserved place exactly while the core's job holds it. -/
def State.QueueLaw (s : State) (t : Trunk) : Prop :=
  (s.trunk t).queue.length + (s.trunk t).reserved ≤ (s.trunk t).depth
    ∧ ((s.trunk t).state ≠ .up →
        (s.trunk t).queue = [] ∧ (s.trunk t).reserved = 0 ∧ (s.trunk t).transmitting = false)
    ∧ (s.trunk t).reserved = (if s.core.place = some t then 1 else 0)
    ∧ ((s.trunk t).enable = false → (s.trunk t).state = .off)
    ∧ (s.mode ≠ .running → (s.trunk t).state = .off)

/-- R139, R140: both trunks, and the active trunk is T0 if UP, otherwise T1 if UP, otherwise none. -/
def State.TrunkLaw (s : State) : Prop :=
  s.QueueLaw .t0 ∧ s.QueueLaw .t1
    ∧ s.active = (if s.t0.state = .up then some .t0 else if s.t1.state = .up then some .t1 else none)

/-! ### Commands at a port -/

/-- What a command record carries whatever becomes of it (R168): the port that wrote it, its tag, its kind code
(Table 9-2, R194), and the data of a completion with a refusal. -/
structure Head where
  port : Port
  tag : Byte
  kind : Nat
  data : List Byte
  deriving DecidableEq, Repr

/-- The head of the 28 commands; none for the other rows. -/
def head : Instr → Option Head
  | .send pt tag loc _ => some ⟨pt, tag, 0x01, b1 loc ++ [0, 0] ++ [0, 0, 0, 0]⟩
  | .channelStatus pt tag _ => some ⟨pt, tag, 0x02, []⟩
  | .openChannel pt tag n _ => some ⟨pt, tag, 0x03, b1 n⟩
  | .closeChannel pt tag n => some ⟨pt, tag, 0x04, b1 n⟩
  | .setLimits pt tag n _ => some ⟨pt, tag, 0x05, b1 n⟩
  | .renew pt tag n => some ⟨pt, tag, 0x06, b1 n⟩
  | .abortRenewal pt tag n => some ⟨pt, tag, 0x07, b1 n⟩
  | .keyStoreStatus pt tag _ => some ⟨pt, tag, 0x08, []⟩
  | .setAllocations pt tag _ => some ⟨pt, tag, 0x09, []⟩
  | .poolStatus pt tag => some ⟨pt, tag, 0x0A, []⟩
  | .setShares pt tag _ => some ⟨pt, tag, 0x0B, []⟩
  | .arbiterStatus pt tag => some ⟨pt, tag, 0x0C, []⟩
  | .waitListStatus pt tag => some ⟨pt, tag, 0x0D, []⟩
  | .exchangeStatus pt tag => some ⟨pt, tag, 0x0E, []⟩
  | .setTrunk pt tag _ _ => some ⟨pt, tag, 0x0F, []⟩
  | .trunkStatus pt tag _ => some ⟨pt, tag, 0x10, []⟩
  | .clearLatches pt tag _ => some ⟨pt, tag, 0x11, []⟩
  | .setFaultMask pt tag _ => some ⟨pt, tag, 0x12, []⟩
  | .takeFault pt tag => some ⟨pt, tag, 0x13, []⟩
  | .faultStatus pt tag => some ⟨pt, tag, 0x14, []⟩
  | .setPort pt tag _ _ _ _ => some ⟨pt, tag, 0x15, []⟩
  | .portStatus pt tag _ _ => some ⟨pt, tag, 0x16, []⟩
  | .setLine pt tag _ _ _ _ => some ⟨pt, tag, 0x17, []⟩
  | .readLines pt tag => some ⟨pt, tag, 0x18, []⟩
  | .partStatus pt tag => some ⟨pt, tag, 0x19, []⟩
  | .writeSettings pt tag _ => some ⟨pt, tag, 0x1A, []⟩
  | .restart pt tag => some ⟨pt, tag, 0x1B, []⟩
  | .zeroize pt tag => some ⟨pt, tag, 0x1C, []⟩
  | _ => none

/-- The port whose bus a command record arrives on: the 28 commands and UNDEFINED_COMMAND. -/
def writer : Instr → Option Port
  | .undefinedCommand pt _ => some pt
  | c => (head c).map (·.port)

/-- The kinds that Table 9-2 gives to port M alone: all but SEND, CHANNEL_STATUS, CLOSE, RENEW, SET_PORT, PORT_STATUS. -/
def onlyAtM (kind : Nat) : Prop := kind ∉ [0x01, 0x02, 0x04, 0x06, 0x15, 0x16]

/-- The kinds that Table 9-2 takes in RUNNING only, from whatever port. -/
def onlyRunning (kind : Nat) : Prop :=
  kind ∈ [0x01, 0x03, 0x04, 0x05, 0x06, 0x07, 0x09, 0x0B, 0x0F, 0x11, 0x12, 0x15, 0x17, 0x1C]

/-- The port takes a command (R169): not STARTING, reset input not asserted, at most 15 outstanding and unread. -/
def State.Takes (s : State) (pt : Port) : Prop :=
  s.mode ≠ .starting ∧ (s.port pt).inReset = false
    ∧ (s.port pt).outstanding + (s.port pt).completions.length ≤ 15

/-- A command completed at its event (R169, R170): its record joins the port's queue, COMPLETION is set, and the bus
answer is taken (00h). -/
def State.completedAt (s : State) (pt : Port) (tag : Byte) (kind : Nat) (res : Result) (data : List Byte) : State :=
  s.modPort pt fun r =>
    { r with
      completions := r.completions ++ [⟨tag, kind, res, data⟩]
      latches := { r.latches with completion := true }
      reply := [0] }

/-- The uptime has reached a deadline that is present. -/
def Due (s : State) (d : Option Nat) : Prop := ∃ n, d = some n ∧ n ≤ s.uptime

/-- The core is at work on something, so no consultation follows an event (R82). -/
def State.Working (s : State) : Prop := s.coreFree = false

/-- The bytes of a port's bus after an event that ends with the consultation of a free core (R82). -/
def State.consulted (s : State) (pt : Port) : State := s.rest.modPort pt fun r => { r with reply := [0] }

/-! ### What a built control message and a close leave -/

/-- What `t` has of a control message that the part builds in `s` (R73, R111): with a CONTROL buffer lent, a new frame at
the end of the CONTROL FIFO and one buffer held; otherwise nothing. -/
def State.Builds (s t : State) (kind : Kind) (payload : List Byte) : Prop :=
  if s.pool.heldControl < 8 ∧ 0 < s.pool.free then
    t.srcControl = { s.srcControl with
      fifo := s.srcControl.fifo
        ++ [⟨.control, kind, 0, 0, 0, false, s.srcControl.nextSub, payload, none, none, none⟩]
      nextSub := s.srcControl.nextSub + 1 }
    ∧ t.pool = { s.pool with heldControl := s.pool.heldControl + 1, free := s.pool.free - 1 }
  else t.srcControl = s.srcControl ∧ t.pool = s.pool

/-- What `t` has of a close of channel `c` in `s` (R17, R146): the record CLOSED and IDLE with its limits kept, its slots
wiped or waiting for their job's end, its exchange and its entry gone, its waiting frames discarded with their outcomes,
its inbound frames gone from the FIFO, and a CLOSE_NOTE where channel 0 is LIVE or FROZEN. -/
def State.Closes (s t : State) (c : ChanId) : Prop :=
  let gone := (s.t0.loose ++ s.t1.loose ++ s.srcG.waiting ++ s.srcP.waiting ++ s.srcM.waiting
    ++ s.srcControl.waiting).filter fun f => f.chan = c
  let ofPort (q : Port) := gone.filter fun f => f.src = q.src
  let keep (o : OutSrc) : Source := { s.src o with
    fifo := (s.src o).fifo.filter fun f => f.chan ≠ c
    holds := (s.src o).holds.map fun l => l.filter fun f => f.chan ≠ c }
  let ran := (s.chan 0).state = .live ∨ (s.chan 0).state = .frozen
  t.chan c = { s.chan c with
    state := .closed, renewal := .idle, pause := none, pauseReason := none, rate := 0, units := 0, bucket := 0
    cur := none, next := none, prev := none }
  ∧ (∀ d, d ≠ c → t.chan d = s.chan d)
  ∧ (∀ i, ((s.slot i).chan ≠ some c → t.slot i = s.slot i)
    ∧ ((s.slot i).chan = some c → (s.slot i).state ≠ .empty →
      t.slot i = if (s.slot i).inFlight then { s.slot i with wipePending := true } else .wiped))
  ∧ t.exch = s.exch.filter (fun e => e.chan ≠ c) ∧ t.sched.waitList = s.sched.waitList.filter (fun e => e.chan ≠ c)
  ∧ (∀ o, o ≠ .control → t.src o = keep o)
  ∧ (∀ k, t.trunk k = { s.trunk k with
      queue := (if (s.trunk k).transmitting then (s.trunk k).queue.take 1 else [])
        ++ (s.trunk k).loose.filter fun f => f.chan ≠ c })
  ∧ t.inFifo = s.inFifo.filter (fun g => g.chan ≠ c)
  ∧ (∀ g place d, s.core = .outbound g place d → t.core = .outbound g place (d || g.chan == c))
  ∧ (t.port (s.chan c).owner.port).latches.channel = true
  ∧ (∀ q, (∃ l, (t.port q).completions = (s.port q).completions ++ l
      ∧ l.Perm (((ofPort q).filter fun f => f.marked = false).map fun f =>
        ⟨f.cmdTag, 0x01, .refused .closedWhileQueued, sendData f.loc f.bound⟩))
    ∧ (t.port q).outstanding = (s.port q).outstanding - (ofPort q).length
    ∧ t.pool.held q.holder = s.pool.held q.holder - (ofPort q).length)
  ∧ t.pool.heldInbound = s.pool.heldInbound - (s.inFifo.filter fun g => g.chan = c).length
  ∧ ((∀ f ∈ gone, f.src ≠ .control) →
    (¬ ran ∨ 8 ≤ s.pool.heldControl → t.srcControl = keep .control)
    ∧ (ran → s.pool.heldControl < 8 → 0 < s.pool.free → t.srcControl = { keep .control with
        fifo := (keep .control).fifo ++ [⟨.control, .closeNote, 0, 0, 0, false, s.srcControl.nextSub, b1 c.val,
          none, none, none⟩]
        nextSub := s.srcControl.nextSub + 1 }))

/-! ### Start-up (R186) -/

/-- `t` is what a power-on reset or a RESTART of `s` leaves, with `store` in the store (R186 steps 1 and 2, R23, R43,
R70, R77, R87, R109, R134, R150, R177, R181), but for the fault unit and port M's FAULT latch. -/
def State.StartedFrom (s t : State) (store : Store) : Prop :=
  t.mode = .starting ∧ t.uptime = 0 ∧ t.store = store ∧ t.settings = store.load
    ∧ t.core = .derives .selfCheck ∧ t.derivs = [] ∧ (∀ i, t.slot i = .wiped)
    ∧ (∀ c, t.chan c = .fresh (store.load.ownerOf c.val).1 (store.load.ownerOf c.val).2
        (store.load.classLimits (store.load.ownerOf c.val).2))
    ∧ (∀ o, t.src o = ⟨[], Vector.replicate 32 [], 0⟩) ∧ t.inFifo = []
    ∧ t.pool = ⟨store.load.allocG, store.load.allocP, store.load.allocM, store.load.allocInbound, 0, 0, 0, 0, 0, 128⟩
    ∧ t.arb = ⟨store.load.shares, ⟨0, 0, 0, 0⟩, 0, .m⟩ ∧ t.sched = ⟨[], 0, none⟩ ∧ t.exch = [] ∧ t.boot.phase = .none
    ∧ t.boot.count = none
    ∧ t.t0 = .fresh store.load.t0 s.t0.hold ∧ t.t1 = .fresh store.load.t1 s.t1.hold ∧ t.active = none
    ∧ t.fault.report = none ∧ t.fault.deadline = none
    ∧ (∀ pt, (t.port pt).completions = [] ∧ (t.port pt).outstanding = 0 ∧ (t.port pt).marks = 0
        ∧ (t.port pt).deliveries = [] ∧ (t.port pt).enables = ⟨true, true, true⟩ ∧ (t.port pt).missed = 0
        ∧ (t.port pt).latches.completion = false ∧ (t.port pt).latches.delivery = false
        ∧ (t.port pt).latches.channel = false ∧ (t.port pt).inReset = (s.port pt).inReset)
    ∧ (∀ i : Fin 8, (t.line i).dirOut = false ∧ (t.line i).latch = false ∧ (t.line i).ext = (s.line i).ext
        ∧ (t.line i).fn = (if i = 2 then store.load.tamperArmed || store.load.tamperLock else decide (i ≠ 7)))
    ∧ t.draws = s.draws ∧ t.pending = s.pending

end Sys2Proof.Machine
end

