-- ==== Sys2Proof/WellFormed.lean ====
section
/-! DEFINITION. Which operands a command can carry on the bus (R194, Table 11-4). A command outside these bounds cannot
be written by a master; exec gives it a meaning all the same. -/

namespace Sys2Proof

/-- A number that fits `n` bytes, when given. -/
def fitsBytes (n : Nat) (o : Option Nat) : Bool :=
  match o with
  | some v => decide (v < 256 ^ n)
  | none => true

/-- The widths of items 02h to 06h. -/
def LimitFields.wf (f : LimitFields) : Bool :=
  fitsBytes 4 f.hard && fitsBytes 1 f.margin && fitsBytes 4 f.age && fitsBytes 2 f.lead && fitsBytes 1 f.hold

/-- The width of item 08h. -/
def AllocFields.wf (f : AllocFields) : Bool :=
  fitsBytes 2 f.g && fitsBytes 2 f.p && fitsBytes 2 f.m && fitsBytes 2 f.inbound

/-- The width of item 08h. -/
def ShareFields.wf (f : ShareFields) : Bool :=
  fitsBytes 2 f.inbound && fitsBytes 2 f.p && fitsBytes 2 f.g && fitsBytes 2 f.m

/-- Whether a command can be written as its rule and R194 say: one-byte numbers, item widths, the parameter length
bound 2,049, the 133 bytes of WRITE_SETTINGS, kind lists without repeats. -/
def Instr.wf : Instr → Bool
  | .send _ _ c payload => decide (c < 256) && decide (payload.length ≤ 2048)
  | .channelStatus _ _ c => decide (c < 256)
  | .openChannel _ _ c f => decide (c < 256) && f.wf
  | .closeChannel _ _ c => decide (c < 256)
  | .setLimits _ _ c f => decide (c < 256) && f.wf
  | .renew _ _ c => decide (c < 256)
  | .abortRenewal _ _ c => decide (c < 256)
  | .keyStoreStatus _ _ i => decide (i < 256)
  | .setAllocations _ _ f => f.wf
  | .poolStatus _ _ => true
  | .setShares _ _ f => f.wf
  | .arbiterStatus _ _ => true
  | .waitListStatus _ _ => true
  | .exchangeStatus _ _ => true
  | .setTrunk _ _ _ _ => true
  | .trunkStatus _ _ _ => true
  | .clearLatches _ _ kinds => decide kinds.Nodup
  | .setFaultMask _ _ kinds => decide kinds.Nodup
  | .takeFault _ _ => true
  | .faultStatus _ _ => true
  | .setPort _ _ _ _ _ _ => true
  | .portStatus _ _ _ _ => true
  | .setLine _ _ l _ _ _ => decide (l < 256)
  | .readLines _ _ => true
  | .partStatus _ _ => true
  | .writeSettings _ _ image => decide (image.length = 133)
  | .restart _ _ => true
  | .zeroize _ _ => true
  | .undefinedCommand _ _ => true
  | .readCompletion _ => true
  | .readDelivery _ => true
  | .readAttention _ _ => true
  | .undefinedTransaction _ code => decide (code.toNat = 0 ∨ 4 < code.toNat)
  | .transactionCutShort _ => true
  | .powerOnReset => true
  | .portReset _ => true
  | .portResetRelease _ => true
  | .tamper _ => true
  | .carrierRising _ => true
  | .carrierFalling _ => true
  | .holdAsserted _ => true
  | .holdReleased _ => true
  | .frameReceived _ _ => true
  | .partialFrameDiscarded _ => true
  | .uptimeStep => true
  | .holdExpiry _ _ => true
  | .settleDeadline _ => true
  | .pauseDeadline _ => true
  | .askingDeadline _ => true
  | .backingOffDeadline _ => true
  | .confirmingDeadline _ => true
  | .helloWaitDeadline => true
  | .helloBackoffDeadline => true
  | .helloSlowDeadline => true
  | .provingDeadline _ => true
  | .reportDeadline => true
  | .stallLimitReached _ => true
  | .outboundJobStart => true
  | .inboundJobStart => true
  | .outboundJobEnd => true
  | .inboundJobEnd => true
  | .derivationStart => true
  | .turnoverDerivationEnd => true
  | .bootstrapDerivationEnd => true
  | .selfCheckEnd _ => true
  | .settingsWriteEnd => true
  | .countWriteEnd => true
  | .deferredRestart => true
  | .waitingCutover => true
  | .transmissionStart _ => true
  | .transmissionEnd _ => true
  | .exchangeStart => true

end Sys2Proof
end

