-- ==== Sys2Proof/Certificates/Slice0/Obligations.lean ====
section
/-! DEFINITION. The statements for the provers. Each docstring names the rules of spec/ that it formalises. -/

section

open Sys2Proof Sys2Proof.Machine

/-! ### The machine as a whole -/

/-- The command at the front of the queue is what a step runs, on the queue's rest (file 95, log 23). -/
def Obligations.StepRunsFrontCommand : Prop :=
  ∀ (c : Instr) (rest : List Instr) (s : State),
    step { s with pending := c :: rest } = exec c { s with pending := rest }

/-- Every row answers a next state, whatever the state, and no row touches the queue (log 30). -/
def Obligations.EveryCommandGoesOnAndLeavesTheQueue : Prop :=
  ∀ (c : Instr) (s : State), ∃ t, exec c s = .next t ∧ t.pending = s.pending

/-- On an empty queue 100 ms pass: the stall time of each held transmission rises by one unit, up to the stall limit,
and nothing else changes (R142; that it is the empty queue that lets time pass is the model's choice, log 3). -/
def Obligations.EmptyQueueLets100msPass : Prop :=
  ∀ s : State, s.pending = [] → ∃ t, step s = .next t ∧ { t with t0 := s.t0, t1 := s.t1 } = s
    ∧ ∀ k, t.trunk k = { s.trunk k with
        stall := if (s.trunk k).transmitting = true ∧ (s.trunk k).hold = true
          then (s.trunk k).stall.map fun n => min (n + 1) s.settings.stallLimit else (s.trunk k).stall }

/-- The laws of the whole state hold of the part right after power-on reset. The reset state is the model's choice
where the manual gives none: log 6, log 7, log 28. -/
def Obligations.LawsHoldAtReset : Prop :=
  State.reset.PoolLaw ∧ State.reset.QuietLaw ∧ State.reset.BoundLaw ∧ State.reset.SlotLaw ∧ State.reset.TrunkLaw
    ∧ State.reset.InboundLaw

/-- R73: the free buffers and the buffers held always number 128. -/
def Obligations.EveryStepKeepsThePoolLaw : Prop :=
  ∀ s t : State, s.PoolLaw → step s = .next t → t.PoolLaw

/-- R185: in SAFE and LOCKDOWN every key slot stays EMPTY and every channel CLOSED, and the core does nothing. -/
def Obligations.EveryStepKeepsTheQuietLaw : Prop :=
  ∀ s t : State, s.QuietLaw → step s = .next t → t.QuietLaw

/-- R113, R98, R154, R67, R190: the bounds of the exchange table, the wait list, the fault queue, the delivery queues
and the uptime. -/
def Obligations.EveryStepKeepsTheBounds : Prop :=
  ∀ s t : State, s.BoundLaw → step s = .next t → t.BoundLaw

/-- R24, Table 2-1: every slot keeps exactly the fields of its state: an EMPTY slot holds nothing, a RESERVED one no
key, the channel is present in every state but EMPTY, and the settle deadline exactly in SETTLING. -/
def Obligations.EveryStepKeepsTheSlotLaw : Prop :=
  ∀ s t : State, s.SlotLaw → step s = .next t → t.SlotLaw

/-- R139, R140: the transmit queues with their reserved places, and the active trunk. -/
def Obligations.EveryStepKeepsTheTrunkLaw : Prop :=
  ∀ s t : State, s.TrunkLaw → step s = .next t → t.TrunkLaw

/-- R71, R74, R76: every INBOUND buffer is the buffer of one frame in the inbound FIFO, the core or a delivery queue. -/
def Obligations.EveryStepKeepsTheInboundLaw : Prop :=
  ∀ s t : State, s.InboundLaw → step s = .next t → t.InboundLaw

/-- Table 10-2 (R185 to R189): which rows can enter each part mode, and from which; only a power-on reset leaves
LOCKDOWN. -/
def Obligations.ModeMovesAsTheTableSays : Prop :=
  ∀ (c : Instr) (s t : State), exec c s = .next t → t.mode ≠ s.mode →
    (s.mode = .lockdown → c = .powerOnReset)
    ∧ (t.mode = .running → s.mode = .starting ∧ c = .selfCheckEnd true)
    ∧ (t.mode = .starting → c = .powerOnReset ∨ c = .deferredRestart ∨ ∃ tag, c = .restart .m tag)
    ∧ (t.mode = .safe → (s.mode = .starting ∧ ∃ ok, c = .selfCheckEnd ok)
        ∨ (s.mode = .running ∧ (c = .settingsWriteEnd ∨ c = .countWriteEnd ∨ ∃ tag, c = .zeroize .m tag)))
    ∧ (t.mode = .lockdown → c = .powerOnReset ∨ c = .deferredRestart ∨ (∃ tag, c = .restart .m tag)
        ∨ (∃ held, c = .tamper held) ∨ ∃ tag n d l f, c = .setLine .m tag n d l f)

/-- R182, R187, R190, R184, R41: the settings in use change at start-up only, uptime at UPTIME_STEP and start-up only,
the stored image at the end of a write only. That a write cut short by a power-on reset leaves the old bytes beside a
flag, and so changes no byte of the image, is the model's choice (R184 gives no bytes): log 19. -/
def Obligations.OnlyTheseRowsChangeUptimeSettingsAndImage : Prop :=
  ∀ (c : Instr) (s t : State), s.BoundLaw → exec c s = .next t →
    let startUp := c = .powerOnReset ∨ c = .deferredRestart ∨ ∃ tag, c = .restart .m tag
    (t.settings ≠ s.settings → startUp)
    ∧ (t.uptime ≠ s.uptime → (startUp ∧ t.uptime = 0) ∨ (c = .uptimeStep ∧ t.uptime = s.uptime + 1))
    ∧ (t.store.image ≠ s.store.image → c = .settingsWriteEnd ∨ c = .countWriteEnd)

/-! ### Commands at a port -/

/-- R169: a port in STARTING, in reset, or with 16 commands outstanding or unread answers BUSY, takes nothing and
changes nothing: only the byte on the bus. R194: a malformed record that is taken is refused BAD_COMMAND, with the
kind and the tag of its first two bytes, 0 for one that is missing, and without data, a malformed SEND (kind 01h)
included: the bytes that are missing and the empty data are the model's choice, log 15; an undefined transaction code
is answered BUSY; a transaction cut short changes nothing. The answer stands in the model's field reply: log 28. -/
def Obligations.BusyAndMalformedTransactions : Prop :=
  (∀ (c : Instr) (pt : Port) (s : State), writer c = some pt → ¬ s.Takes pt →
    exec c s = .next (s.modPort pt fun r => { r with reply := [1] }))
  ∧ ((∀ pt (record : List Byte) (s : State), s.Takes pt →
      exec (.undefinedCommand pt record) s
        = .next (s.completedAt pt (record.getD 1 0) (record.getD 0 0).toNat (.refused .badCommand) []))
    ∧ (∀ pt code (s : State),
        exec (.undefinedTransaction pt code) s = .next (s.modPort pt fun r => { r with reply := [1] }))
    ∧ (∀ pt (s : State), exec (.transactionCutShort pt) s = .next s))

/-- Table 9-2, R185: a command of port M alone that port G or P writes is refused NOT_ALLOWED in every mode after
STARTING, and so are CLOSE and SET_PORT from port G. In SAFE and LOCKDOWN a command that is taken in RUNNING only is
refused MODE from a port that may write it; so are CHANNEL_STATUS and PORT_STATUS from ports G and P, and
WRITE_SETTINGS and RESTART in LOCKDOWN. Nothing but the port's queue changes. The data of a refusal: log 13. -/
def Obligations.NotAllowedAndModeRefusals : Prop :=
  (∀ (c : Instr) (h : Head) (s : State), head c = some h → c.wf = true → s.Takes h.port →
    (onlyAtM h.kind ∧ h.port ≠ .m) ∨ (h.port = .g ∧ (h.kind = 0x04 ∨ h.kind = 0x15)) →
    exec c s = .next (s.completedAt h.port h.tag h.kind (.refused .notAllowed) h.data))
  ∧ (∀ (c : Instr) (h : Head) (s : State), head c = some h → c.wf = true → s.Takes h.port →
    (onlyAtM h.kind → h.port = .m) → (h.kind = 0x04 ∨ h.kind = 0x15 → h.port ≠ .g) →
    (s.mode = .safe ∨ s.mode = .lockdown) →
    onlyRunning h.kind ∨ ((h.kind = 0x02 ∨ h.kind = 0x16) ∧ h.port ≠ .m)
      ∨ ((h.kind = 0x1A ∨ h.kind = 0x1B) ∧ s.mode = .lockdown) →
    exec c s = .next (s.completedAt h.port h.tag h.kind (.refused .mode) h.data))

/-- R22, R42, R76, R85, R104, R128, R166, R181, R190: a status command completes at once with DONE and its bytes, and
changes nothing else; a slot number above 47 is refused NO_SLOT, an unresolved channel NO_CHANNEL. Ports G and P read
CHANNEL_STATUS of the channels of their view in RUNNING, and PORT_STATUS of themselves: another port is refused
NOT_ALLOWED. R149, R175: TRUNK_STATUS and PORT_STATUS return the values as they stand, then set to 0 what a clear
request clears: the receive counters of both trunks, the delivered-while-disabled count of the named port. The coding
of the bytes is the model's inference or choice: log 13, log 18, log 36, log 39, log 49. -/
def Obligations.StatusCommandsOnlyAnswer : Prop :=
  (∀ (s : State) (tag : Byte), s.Takes .m →
    (∀ n c, s.resolveGlobal n = some c →
      exec (.channelStatus .m tag n) s = .next (s.completedAt .m tag 0x02 .done (s.channelData c)))
    ∧ (∀ n, s.resolveGlobal n = none →
      exec (.channelStatus .m tag n) s = .next (s.completedAt .m tag 0x02 (.refused .noChannel) []))
    ∧ (∀ i : SlotId,
      exec (.keyStoreStatus .m tag i.val) s = .next (s.completedAt .m tag 0x08 .done (s.slotData i)))
    ∧ (∀ n, 48 ≤ n → exec (.keyStoreStatus .m tag n) s = .next (s.completedAt .m tag 0x08 (.refused .noSlot) []))
    ∧ exec (.poolStatus .m tag) s = .next (s.completedAt .m tag 0x0A .done s.poolData)
    ∧ exec (.arbiterStatus .m tag) s = .next (s.completedAt .m tag 0x0C .done s.arbiterData)
    ∧ exec (.waitListStatus .m tag) s = .next (s.completedAt .m tag 0x0D .done s.waitListData)
    ∧ exec (.exchangeStatus .m tag) s = .next (s.completedAt .m tag 0x0E .done s.exchangeData)
    ∧ exec (.faultStatus .m tag) s = .next (s.completedAt .m tag 0x14 .done s.faultData)
    ∧ exec (.readLines .m tag) s = .next (s.completedAt .m tag 0x18 .done (allLines.flatMap s.lineData))
    ∧ exec (.partStatus .m tag) s = .next (s.completedAt .m tag 0x19 .done s.partData))
  ∧ (∀ (s : State) (pt : Port) (tag : Byte) (n : Nat), s.Takes pt → pt ≠ .m → s.mode = .running →
    (∀ c, s.resolveLocal pt n = some c →
      exec (.channelStatus pt tag n) s = .next (s.completedAt pt tag 0x02 .done (s.channelData c)))
    ∧ (s.resolveLocal pt n = none →
      exec (.channelStatus pt tag n) s = .next (s.completedAt pt tag 0x02 (.refused .noChannel) []))
    ∧ (∀ named clear, named ≠ pt →
      exec (.portStatus pt tag named clear) s = .next (s.completedAt pt tag 0x16 (.refused .notAllowed) [])))
  ∧ ((∀ (s : State) (tag : Byte), s.Takes .m →
      exec (.trunkStatus .m tag false) s = .next (s.completedAt .m tag 0x10 .done s.trunkData)
      ∧ exec (.trunkStatus .m tag true) s
        = .next (State.completedAt
            { s with
              t0 := { s.t0 with counters := ⟨0, 0, 0, 0, 0, 0⟩ }, t1 := { s.t1 with counters := ⟨0, 0, 0, 0, 0, 0⟩ } }
            .m tag 0x10 .done s.trunkData))
    ∧ (∀ (s : State) (pt named : Port) (tag : Byte), s.Takes pt → pt = .m ∨ (s.mode = .running ∧ named = pt) →
      exec (.portStatus pt tag named false) s = .next (s.completedAt pt tag 0x16 .done (s.port named).bytes)
      ∧ exec (.portStatus pt tag named true) s
        = .next ((s.modPort named fun r => { r with missed := 0 }).completedAt pt tag 0x16 .done (s.port named).bytes)))

/-- R22, R42, R128, R190 with R24: no command's answer depends on a key. Two states that differ in the key pair of
every slot, in the root key, and in the nonces of the exchanges give the same bytes to every status command. -/
def Obligations.StatusNeverShowsKeys : Prop :=
  ∀ (s : State) (ks tk : SlotId → Key) (root : Key) (nonce head proof : Exchange → Sixteen),
    let t := { s with
      slots := Vector.ofFn fun i : SlotId => { s.slot i with ksKey := ks i, tagKey := tk i }
      settings := { s.settings with rootKey := root }
      exch := s.exch.map fun e : Exchange => { e with
        store := nonce e, head := e.head.map fun _ => head e, proof := e.proof.map fun _ => proof e } }
    (∀ c, t.channelData c = s.channelData c) ∧ (∀ i, t.slotData i = s.slotData i) ∧ t.poolData = s.poolData
      ∧ t.arbiterData = s.arbiterData ∧ t.waitListData = s.waitListData ∧ t.exchangeData = s.exchangeData
      ∧ t.trunkData = s.trunkData ∧ t.faultData = s.faultData ∧ (∀ i, t.lineData i = s.lineData i)
      ∧ t.partData = s.partData

/-- R170, R171, R172, R194: READ_COMPLETION and READ_DELIVERY return the oldest record and remove it; the delivery's
INBOUND buffer returns to the pool (R74). READ_ATTENTION returns the latches as they stand, then clears the named
ones: COMPLETION by bit 0, DELIVERY by bit 1, CHANNEL by bit 2, FAULT by bit 3 at port M. In reset (R176), and on an
empty queue, the answer is BUSY and nothing changes. -/
def Obligations.ReadTransactionsReturnAndRemove : Prop :=
  ∀ (s : State) (pt : Port) (clear : Byte),
    let answersBusy (c : Instr) := exec c s = .next (s.modPort pt fun r => { r with reply := [1] })
    (∀ c rest, (s.port pt).inReset = false → (s.port pt).completions = c :: rest →
      exec (.readCompletion pt) s = .next (s.modPort pt fun r => { r with completions := rest, reply := 0 :: c.bytes }))
    ∧ (∀ d rest, (s.port pt).inReset = false → (s.port pt).deliveries = d :: rest → 0 < s.pool.heldInbound →
      exec (.readDelivery pt) s
        = .next (State.modPort
            { s with pool := { s.pool with heldInbound := s.pool.heldInbound - 1, free := s.pool.free + 1 } } pt
            fun r => { r with deliveries := rest, reply := 0 :: d.bytes }))
    ∧ ((s.port pt).inReset = false →
      exec (.readAttention pt clear) s = .next (s.modPort pt fun r =>
        { r with
          latches :=
            ⟨if clear.getLsbD 0 then false else r.latches.completion,
              if clear.getLsbD 1 then false else r.latches.delivery,
              if clear.getLsbD 2 then false else r.latches.channel,
              if clear.getLsbD 3 && pt == .m then false else r.latches.fault⟩
          reply := [0, r.latches.byte] }))
    ∧ ((s.port pt).inReset = true ∨ (s.port pt).completions = [] → answersBusy (.readCompletion pt))
    ∧ ((s.port pt).inReset = true ∨ (s.port pt).deliveries = [] → answersBusy (.readDelivery pt))
    ∧ ((s.port pt).inReset = true → answersBusy (.readAttention pt clear))

/-- R176, R184: the reset of a port empties its completion and delivery queues and its latches, returns the INBOUND
buffers of its deliveries, marks every outstanding command, and leaves the rest of the part as it is. The commands
marked are those of the port's frames, wherever they are (the FIFO and the hold lists, the transmit queues, the core),
and for port M the settings write. The release lets the port take transactions again. -/
def Obligations.PortResetEmptiesAndMarks : Prop :=
  (∀ (s : State) (pt : Port), (s.port pt).deliveries.length ≤ s.pool.heldInbound →
    let mark (f : Frame) : Frame := if f.src = pt.src then { f with marked := true } else f
    ∃ t, exec (.portReset pt) s = .next t
      ∧ t.port pt = { s.port pt with
          completions := [], deliveries := [], latches := ⟨false, false, false, false⟩
          marks := (s.port pt).outstanding, inReset := true }
      ∧ (∀ q, q ≠ pt → t.port q = s.port q)
      ∧ t.pool = { s.pool with
          heldInbound := s.pool.heldInbound - (s.port pt).deliveries.length
          free := s.pool.free + (s.port pt).deliveries.length }
      ∧ t.src pt.src = { s.src pt.src with
          fifo := (s.src pt.src).fifo.map mark, holds := (s.src pt.src).holds.map fun l => l.map mark }
      ∧ (∀ o, o ≠ pt.src → t.src o = s.src o)
      ∧ (∀ k, t.trunk k = { s.trunk k with queue := (s.trunk k).queue.map mark })
      ∧ t.core = (match s.core with
          | .outbound f place d => .outbound (mark f) place d
          | k => k)
      ∧ t.store = { s.store with write := match pt, s.store.write with
          | .m, some (.settings image kept result tag _) => some (.settings image kept result tag true)
          | _, w => w }
      ∧ { t with
          portG := s.portG, portP := s.portP, portM := s.portM, pool := s.pool, srcG := s.srcG, srcP := s.srcP
          srcM := s.srcM, t0 := s.t0, t1 := s.t1, core := s.core, store := s.store } = s)
  ∧ (∀ (s : State) (pt : Port),
    exec (.portResetRelease pt) s = .next (s.modPort pt fun r => { r with inReset := false }))

/-! ### Frames from the ports (R47 to R59) -/

/-- R47, R73: an accepted SEND joins the end of its port's FIFO as a DATA frame of the global channel, with one buffer
of the port and the next submission number, and the command is outstanding; a free core then consults (R82), which is
the model's inference where it belongs to this step: log 1. Otherwise the first of the six tests that holds refuses it
with its cause, and nothing else changes; the data of the refusal: log 13. Port M's SUBMIT enable is on after reset
and no step turns it off. -/
def Obligations.SendJoinsItsFifoOrIsRefused : Prop :=
  (∀ (s : State) (pt : Port) (tag : Byte) (loc : Nat) (payload : List Byte) (c : ChanId),
    s.Takes pt → s.mode = .running → (s.port pt).enables.submit = true → s.resolveLocal pt loc = some c →
    (s.chan c).state ≠ .closed → 1 ≤ payload.length → payload.length ≤ 2048 →
    s.pool.held pt.holder < s.pool.alloc pt.holder → 0 < s.pool.free →
    ∃ t : State, exec (.send pt tag loc payload) s = .next (t.consulted pt)
      ∧ t.pool = { s.pool.setHeld pt.holder (s.pool.held pt.holder + 1) with free := s.pool.free - 1 }
      ∧ t.src pt.src = { s.src pt.src with
          fifo := (s.src pt.src).fifo
            ++ [⟨pt.src, .data, c, loc, tag, false, (s.src pt.src).nextSub, payload, none, none, none⟩]
          nextSub := (s.src pt.src).nextSub + 1 }
      ∧ (∀ o, o ≠ pt.src → t.src o = s.src o)
      ∧ t.port pt = { s.port pt with outstanding := (s.port pt).outstanding + 1 }
      ∧ (∀ q, q ≠ pt → t.port q = s.port q)
      ∧ { t with
          pool := s.pool, srcG := s.srcG, srcP := s.srcP, srcM := s.srcM, portG := s.portG, portP := s.portP
          portM := s.portM } = s)
  ∧ (∀ (s : State) (pt : Port) (tag : Byte) (loc : Nat) (payload : List Byte) (k : Cause), s.Takes pt →
    (if s.mode ≠ .running then some .mode
      else if (s.port pt).enables.submit = false then some .portDisabled
      else match s.resolveLocal pt loc with
        | none => some .noChannel
        | some c =>
          if (s.chan c).state = .closed then some .notOpen
          else if payload.length = 0 ∨ 2048 < payload.length then some .badLength
          else if s.pool.held pt.holder < s.pool.alloc pt.holder ∧ 0 < s.pool.free then none
          else some .noBuffer) = some k →
    exec (.send pt tag loc payload) s
      = .next (s.completedAt pt tag 0x01 (.refused k) (b1 loc ++ [0, 0] ++ [0, 0, 0, 0])))
  ∧ (State.reset.portM.enables.submit = true
    ∧ ∀ (c : Instr) (s t : State), exec c s = .next t → s.portM.enables.submit = true → t.portM.enables.submit = true)

/-- R50 to R53, R82, R84: the consultation that an event ends with. A core at work, or one for which a derivation
waits, makes none. A free core's with no requester ready leaves what the arbiter's consultation of the sources left,
with the round's accounts at 0; with a requester ready the event leaves the consultation to that job's start. A
consultation touches no slot, no trunk, no buffer, no queue and no time: in each source the first frames of the FIFO
may join their hold lists, and a LIVE channel may freeze. A frame is sendable by Table 3-2, and a test whose wear
condition fails freezes a LIVE channel whatever the trunk condition. A consulted source offers the sendable first
frame with the lowest submission number (CONTROL tests the earliest of each of its two groups); with none it moves
heads to their hold lists until one is sendable and not held back by its own group, or the FIFO is empty. The choice:
a ready CONTROL frame first, otherwise the first ready requester of the rotation after last served whose spent count
is below its share, otherwise the first ready one. That the consultation belongs to the event is the model's
inference: log 1; the order of the sources is its choice: log 35. -/
def Obligations.ConsultationAndChoice : Prop :=
  let moved (s t : State) (o : OutSrc) (n : Nat) : Prop :=
    n ≤ (s.src o).fifo.length ∧ (t.src o).fifo = (s.src o).fifo.drop n ∧ (t.src o).nextSub = (s.src o).nextSub
    ∧ ∀ c : ChanId, (t.src o).holds[c.val] = (s.src o).holds[c.val]
      ++ (((s.src o).fifo.take n).filter fun f => f.chan = c).map fun f => { f with held := some s.uptime }
  let wears (s : State) (f : Frame) (fits : Nat → Nat → Prop) : Prop :=
    ∃ i k, (s.chan f.chan).cur = some i ∧ (s.slot i).wipePending = false ∧ (s.slot i).keyed = some k
      ∧ fits (k.wear + (f.payload.length + 15) / 16 + 1)
          (if f.chan = 0 ∧ f.kind ≠ .hello ∧ f.kind ≠ .turnAsk ∧ f.kind ≠ .turnDone
            then (s.chan f.chan).limits.hard - 1024 else (s.chan f.chan).limits.hard)
  let first (s : State) (o : OutSrc) (f : Frame) : Prop :=
    if o = .control then (s.src o).holds[0].find? (fun g => g.kind.turnover = f.kind.turnover) = some f
    else ∃ c : ChanId, (s.src o).holds[c.val].head? = some f
  (∀ s : State, (s.Working → s.rest = s)
    ∧ (∀ a, s.coreFree = true → s.arbitrate = (a, none) →
      s.rest = { a with arb := { a.arb with spent := ⟨0, 0, 0, 0⟩, total := 0 } })
    ∧ (∀ a x, s.arbitrate = (a, some x) → s.rest = s)
    ∧ (s.coreFree = true ↔ s.core = .idle ∧ s.derivs = [])
    ∧ { s.rest with
        chans := s.chans, fault := s.fault, portG := s.portG, portP := s.portP, portM := s.portM
        srcG := s.srcG, srcP := s.srcP, srcM := s.srcM, srcControl := s.srcControl, arb := s.arb } = s
    ∧ (∀ c, s.rest.chan c = s.chan c
        ∨ ((s.chan c).state = .live ∧ s.rest.chan c = { s.chan c with state := .frozen }
          ∧ ∃ o, ∃ f ∈ (s.src o).waiting, f.chan = c ∧ wears s f fun need most => most < need))
    ∧ (s.rest ≠ s → s.rest.arb = { s.arb with spent := ⟨0, 0, 0, 0⟩, total := 0 })
    ∧ (∀ o, ∃ n, moved s s.rest o n)
    ∧ (∀ pt, { s.rest.port pt with latches := (s.port pt).latches } = s.port pt
      ∧ (s.rest.port pt).latches.completion = (s.port pt).latches.completion
      ∧ (s.rest.port pt).latches.delivery = (s.port pt).latches.delivery)
    ∧ (∀ k ∈ s.rest.fault.latches, k ∈ s.fault.latches ∨ k = .channelFrozen)
    ∧ (s.rest.chans = s.chans → s.rest.fault = s.fault))
  ∧ (∀ (s : State) (f : Frame),
    (s.sendable f = true ↔
      (if f.kind = .hello then (s.chan f.chan).state = .booting
        else (s.chan f.chan).state = .live
          ∨ ((f.kind = .turnAsk ∨ f.kind = .turnDone) ∧ (s.chan f.chan).state = .frozen))
      ∧ wears s f (fun need most => need ≤ most)
      ∧ ∃ k, (match (s.chan f.chan).limits.route with
          | .t0Only => k = .t0
          | .t1Only => k = .t1
          | .follow => s.active = some k)
        ∧ (s.trunk k).state = .up ∧ (s.trunk k).queue.length + (s.trunk k).reserved < (s.trunk k).depth)
    ∧ (s.testFrame f).2 = s.sendable f
    ∧ (∀ d, d ≠ f.chan → (s.testFrame f).1.chan d = s.chan d)
    ∧ ((s.chan f.chan).state = .live → wears s f (fun need most => most < need) →
      (s.testFrame f).1.chan f.chan = { s.chan f.chan with state := .frozen }
        ∧ FaultKind.channelFrozen ∈ (s.testFrame f).1.fault.latches)
    ∧ (¬ ((s.chan f.chan).state = .live ∧ wears s f (fun need most => most < need)) → (s.testFrame f).1 = s))
  ∧ (∀ (s t : State) (o : OutSrc) (r : Option Frame), s.consult o = (t, r) →
    (∀ f, r = some f → s.sendable f = true) ∧ (∀ p, p ≠ o → t.src p = s.src p)
    ∧ ((∃ f, r = some f ∧ first s o f ∧ t.src o = s.src o
        ∧ ∀ g, first s o g → t.sendable g = true → f.sub ≤ g.sub)
      ∨ ((∀ g, first s o g → t.sendable g = false)
        ∧ ∃ n, moved s t o n
          ∧ (∀ j g, j < n → (s.src o).fifo[j]? = some g → t.sendable g = true →
            (∃ h ∈ (s.src o).holds[g.chan.val], o = .control → h.kind.turnover = g.kind.turnover)
            ∨ ∃ i h, i < j ∧ (s.src o).fifo[i]? = some h ∧ h.chan = g.chan
              ∧ (o = .control → h.kind.turnover = g.kind.turnover))
          ∧ (r = none → n = (s.src o).fifo.length)
          ∧ (∀ f, r = some f → (s.src o).fifo[n]? = some f
            ∧ ∀ h ∈ (t.src o).holds[f.chan.val], o = .control ∧ h.kind.turnover ≠ f.kind.turnover))))
  ∧ ((∀ (s a : State) (x : Offers), s.offers = (a, x) →
    (∀ f, x.control = some f → s.arbitrate = (a, some (.control f)))
    ∧ (x.control = none → s.arbitrate = (a, (a.arb.pick x).bind x.job)))
  ∧ ∀ (a : Arbiter) (x : Offers),
    (a.pick x = none ↔ ∀ r, x.ready r = false)
    ∧ (∀ r, a.pick x = some r → x.ready r = true
        ∧ ((∃ q, x.ready q = true ∧ a.spent.get q < a.shares.get q) → a.spent.get r < a.shares.get r)
        ∧ (∀ q, (rotation a.last).idxOf q < (rotation a.last).idxOf r → x.ready q = true →
            a.shares.get q ≤ a.spent.get q ∧ a.spent.get r < a.shares.get r)))

/-- R31, R20, R55, R81, R84, R90: the job of a frame that the arbiter chose binds it to its channel's ACTIVE slot:
wear and units rise by its cost, the sequence number is taken, a place is reserved; the frame leaves its source, whose
other frames stay in their order; the accounts of its requester rise (and end the round at 512), the others' stay, and
a CONTROL job changes none. With no requester ready the round ends and what the consultation left stands. At a core
that is not free, and where INBOUND is chosen, nothing changes: log 2, log 1. -/
def Obligations.OutboundJobStartBindsAndCharges : Prop :=
  (∀ s : State, (s.coreFree = false → exec .outboundJobStart s = .next s)
    ∧ (∀ a, s.coreFree = true → s.arbitrate = (a, none) →
      exec .outboundJobStart s = .next { a with arb := { a.arb with spent := ⟨0, 0, 0, 0⟩, total := 0 } })
    ∧ (∀ a, s.arbitrate = (a, some .inbound) → exec .outboundJobStart s = .next s))
  ∧ ∀ (s a : State) (chosen : Choice) (f : Frame) (i : SlotId) (k : Keyed) (w : Trunk),
    s.coreFree = true → s.arbitrate = (a, some chosen) → chosen = .control f ∨ (∃ r, chosen = .outbound r f) →
    a.slotOf f.chan .active = some i → (a.slot i).wipePending = false → (a.slot i).keyed = some k →
    k.wear + f.cost ≤ (if f.chan = 0 ∧ f.kind ≠ .hello ∧ f.kind ≠ .turnAsk ∧ f.kind ≠ .turnDone
      then (a.chan f.chan).limits.hard - 1024 else (a.chan f.chan).limits.hard) →
    a.placeFor f = some w →
    ∃ t, exec .outboundJobStart s = .next t
      ∧ t.core = .outbound { f with held := none, bound := some ⟨i, k.epoch, k.nextSeq, w⟩ } (some w) false
      ∧ t.slot i = { a.slot i with
          inFlight := true, keyed := some { k with wear := k.wear + f.cost, nextSeq := k.nextSeq + 1 } }
      ∧ (∀ j, j ≠ i → t.slot j = a.slot j)
      ∧ t.chan f.chan = { a.chan f.chan with units := min ((a.chan f.chan).units + f.cost) max32 }
      ∧ (∀ d, d ≠ f.chan → t.chan d = a.chan d)
      ∧ t.trunk w = { a.trunk w with reserved := (a.trunk w).reserved + 1 }
      ∧ t.trunk w.other = a.trunk w.other
      ∧ t.src f.src = { a.src f.src with
          fifo := (a.src f.src).fifo.filter fun g => g.sub ≠ f.sub
          holds := (a.src f.src).holds.map fun l => l.filter fun g => g.sub ≠ f.sub }
      ∧ (∀ o, o ≠ f.src → t.src o = a.src o)
      ∧ (chosen = .control f → t.arb = a.arb)
      ∧ (∀ r, chosen = .outbound r f → t.arb.last = r ∧ t.arb.shares = a.arb.shares
        ∧ (a.arb.total + f.cost < 512 → t.arb.total = a.arb.total + f.cost
          ∧ t.arb.spent.get r = a.arb.spent.get r + f.cost ∧ ∀ q, q ≠ r → t.arb.spent.get q = a.arb.spent.get q)
        ∧ (512 ≤ a.arb.total + f.cost → t.arb.total = 0 ∧ t.arb.spent = ⟨0, 0, 0, 0⟩))
      ∧ { t with
          core := a.core, slots := a.slots, chans := a.chans, t0 := a.t0, t1 := a.t1, srcG := a.srcG, srcP := a.srcP
          srcM := a.srcM, srcControl := a.srcControl, arb := a.arb } = a

/-- R58, R56, R57, R38, R30, R17, R144, R29: the end of an outbound job. The frame, enciphered and tagged under the
slot it was bound to, joins the end of the queue whose place it held. When its trunk has left UP meanwhile, a frame of
a FOLLOW channel joins the end of the active trunk's queue if a place is free there, and any other is lost: REFUSED
LINK_LOST. After a close the result is discarded: the place is released and the outcome is REFUSED
CLOSED_WHILE_QUEUED. A discarded or lost frame returns its buffer, its port's command completes or loses its mark, and
a FAULT_REPORT has its outcome. The slot carries no job any more and is wiped if that was pending. A cutover that
waits is then taken as WAITING_CUTOVER takes it; that both are one step is the model's inference: log 27; the trunk
that a moved frame's record names: log 45. -/
def Obligations.OutboundJobEndQueuesTheCipheredFrame : Prop :=
  ∀ (s : State) (f : Frame) (place : Option Trunk) (discard : Bool) (b : Binding),
    s.core = .outbound f place discard → f.bound = some b → (s.slot b.slot).state ≠ .empty →
    let sl := s.slot b.slot
    let payload := if f.kind = .hello then f.payload else cipher sl.ksKey f.chan.val 0 b.epoch b.seq f.payload
    let hdr := headerBytes f.chan.val f.kind b.epoch b.seq f.payload.length
    let sent (w : Trunk) : Frame := { f with
      payload := payload, auth := some (Config.tag sl.tagKey (hdr ++ payload)), bound := some { b with trunk := w } }
    let freed : State :=
      if sl.wipePending then
        { s.modSlot b.slot fun _ => .wiped with core := .idle, derivs := s.derivs.filter fun x => !x.into b.slot }
      else { s.modSlot b.slot fun x => { x with inFlight := false } with core := .idle }
    let released : State := match place with
      | some w => freed.modTrunk w fun r => { r with reserved := r.reserved - 1 }
      | none => freed
    let ends (u : State) : Prop := exec .outboundJobEnd s = exec .waitingCutover u
      ∧ ((∀ e ∈ s.exch, e.cutoverWaits = false) → exec .outboundJobEnd s = .next u.rest)
    let refused (k : Cause) : Prop :=
      (∀ pt, f.src = Port.src pt → 0 < s.pool.held pt.holder →
        ends (State.modPort { released with
            pool := { s.pool.setHeld pt.holder (s.pool.held pt.holder - 1) with free := s.pool.free + 1 } } pt
          fun r =>
            if f.marked then { r with outstanding := r.outstanding - 1, marks := r.marks - 1 }
            else { r with
              outstanding := r.outstanding - 1
              completions := r.completions ++ [⟨f.cmdTag, 0x01, .refused k, sendData f.loc f.bound⟩]
              latches := { r.latches with completion := true } }))
      ∧ (f.src = .control → 0 < s.pool.heldControl →
        let returned : State := { released with
          pool := { s.pool with heldControl := s.pool.heldControl - 1, free := s.pool.free + 1 } }
        ends (if f.kind = .faultReport then returned.reportOutcome false else returned))
    (∀ w, discard = false → place = some w →
      ends (freed.modTrunk w fun r => { r with reserved := r.reserved - 1, queue := r.queue ++ [sent w] }))
    ∧ (∀ w, discard = false → place = none → s.active = some w → (s.chan f.chan).limits.route = .follow →
      (s.trunk w).queue.length + (s.trunk w).reserved < (s.trunk w).depth →
      ends (freed.modTrunk w fun r => { r with queue := r.queue ++ [sent w] }))
    ∧ (discard = false → place = none →
      (s.chan f.chan).limits.route ≠ .follow
        ∨ (∀ w, s.active = some w → (s.trunk w).depth ≤ (s.trunk w).queue.length + (s.trunk w).reserved) →
      refused .linkLost)
    ∧ (discard = true → refused .closedWhileQueued)

/-- R56, R192, R147, Table 7-4 tests 1 to 3: deciphering with the same key, channel, direction, epoch and sequence
gives the payload back, and keeps its length; the bytes of a frame (header, payload of 1 to 2,048 bytes, tag) are read
back as that frame, when DATA is on channels 1 to 31 and control kinds on channel 0. -/
def Obligations.CipheredFramesAreReadBack : Prop :=
  (∀ (key : Key) (chan dir epoch seq : Nat) (payload : List Byte),
    cipher key chan dir epoch seq (cipher key chan dir epoch seq payload) = payload
      ∧ (cipher key chan dir epoch seq payload).length = payload.length)
  ∧ (∀ f : InFrame, f.epoch < 65536 → f.seq < 4294967296 → 1 ≤ f.payload.length → f.payload.length ≤ 2048 →
    (f.kind = .data ↔ f.chan ≠ 0) →
    parseFrame f.trunk (f.header ++ f.payload ++ sixteenBytes f.auth) = some f)

/-- R54: a held frame that has reached its hold limit leaves its source and HOLD_EXPIRED is raised. Its buffer
returns. The command of a port frame completes REFUSED HELD_TOO_LONG, or loses its mark; of a CONTROL frame the
builder is told, so a FAULT_REPORT has its outcome. Before the limit, and without such a frame, nothing happens.
Acting at or after the limit, and a row out of place: log 10, log 2. -/
def Obligations.HoldExpiryRefusesThePortFrame : Prop :=
  ∀ (s : State) (o : OutSrc) (sub : Nat),
    (∀ (f : Frame) (e : Nat), s.heldFrame o sub = some f → f.held = some e →
      e + (s.chan f.chan).limits.hold ≤ s.uptime →
      let raised : State := (s.modSrc o fun r => { r with
        fifo := r.fifo.filter fun g => g.sub ≠ sub
        holds := r.holds.map fun l => l.filter fun g => g.sub ≠ sub }).raise .holdExpired (some f.chan) none o.port
      FaultKind.holdExpired ∈ raised.fault.latches
      ∧ (∀ pt, o = Port.src pt → 0 < s.pool.held pt.holder →
        exec (.holdExpiry o sub) s = .next (State.rest (State.modPort { raised with
            pool := { s.pool.setHeld pt.holder (s.pool.held pt.holder - 1) with free := s.pool.free + 1 } } pt
          fun r =>
            if f.marked then { r with outstanding := r.outstanding - 1, marks := r.marks - 1 }
            else { r with
              outstanding := r.outstanding - 1
              completions := r.completions ++ [⟨f.cmdTag, 0x01, .refused .heldTooLong, sendData f.loc f.bound⟩]
              latches := { r.latches with completion := true } })))
      ∧ (o = .control → 0 < s.pool.heldControl →
        let returned : State := { raised with
          pool := { s.pool with heldControl := s.pool.heldControl - 1, free := s.pool.free + 1 } }
        exec (.holdExpiry o sub) s
          = .next (if f.kind = .faultReport then returned.reportOutcome false else returned).rest))
    ∧ ((∀ f e, s.heldFrame o sub = some f → f.held = some e → s.uptime < e + (s.chan f.chan).limits.hold) →
      exec (.holdExpiry o sub) s = .next s)

/-! ### Channel administration (R8 to R17, R103, R126) -/

/-- R8, R9, R11, R99: an accepted OPEN writes the class defaults with the given fields clamped over them, clears rate,
units and bucket, and lists the channel with reason OPEN at the end of the URGENT part; on a full list the channel
stays IDLE (R100). -/
def Obligations.OpenListsTheChannel : Prop :=
  ∀ (s : State) (tag : Byte) (n : Nat) (f : LimitFields) (c : ChanId),
    s.Takes .m → s.mode = .running → s.resolveGlobal n = some c → c ≠ 0 → (s.chan c).state = .closed →
    (s.chan c).renewal = .idle →
    let d := s.settings.classLimits (s.chan c).cls
    let given (o : Option Nat) (lo hi dflt : Nat) := match o with | some v => max lo (min hi v) | none => dflt
    let l : Limits := ⟨given f.hard 65536 4294967295 d.hard, given f.margin 1 32 d.margin, given f.age 60 604800 d.age,
      given f.lead 0 3600 d.lead, given f.hold 1 60 d.hold, f.route.getD d.route⟩
    ∃ t, exec (.openChannel .m tag n f) s = .next t
      ∧ (s.sched.waitList.length < 31 →
        t.chan c = { s.chan c with
          state := .openWait, limits := l, rate := 0, units := 0, bucket := 0, renewal := .listed
          pause := none, pauseReason := none }
        ∧ t.sched.waitList = (s.sched.waitList.filter fun e => e.reason.urgent)
          ++ ⟨c, .openKey⟩ :: s.sched.waitList.filter fun e => !e.reason.urgent)
      ∧ (31 ≤ s.sched.waitList.length →
        t.chan c = { s.chan c with state := .openWait, limits := l, rate := 0, units := 0, bucket := 0 }
        ∧ t.sched.waitList = s.sched.waitList)
      ∧ (∀ e, e ≠ c → t.chan e = s.chan e)
      ∧ (t.port (s.chan c).owner.port).latches.channel = true
      ∧ (∃ fields, t.portM.completions = s.portM.completions ++ [⟨tag, 0x03, .done, b1 n ++ fields⟩])
      ∧ { t with chans := s.chans, sched := s.sched, portG := s.portG, portP := s.portP, portM := s.portM } = s

/-- R8, R11, R16, R126: the refusals of OPEN, CLOSE, SET_LIMITS and ABORT_RENEWAL that the channel decides. The
channel number in the data: log 13. -/
def Obligations.AdministrationRefusedByTheChannel : Prop :=
  ∀ (s : State) (tag : Byte) (n : Nat) (f : LimitFields), s.Takes .m → s.mode = .running →
    (s.resolveGlobal n = none →
      exec (.openChannel .m tag n f) s = .next (s.completedAt .m tag 0x03 (.refused .noChannel) (b1 n))
      ∧ exec (.closeChannel .m tag n) s = .next (s.completedAt .m tag 0x04 (.refused .noChannel) (b1 n))
      ∧ exec (.setLimits .m tag n f) s = .next (s.completedAt .m tag 0x05 (.refused .noChannel) (b1 n))
      ∧ exec (.renew .m tag n) s = .next (s.completedAt .m tag 0x06 (.refused .noChannel) (b1 n))
      ∧ exec (.abortRenewal .m tag n) s = .next (s.completedAt .m tag 0x07 (.refused .noChannel) (b1 n)))
    ∧ exec (.openChannel .m tag 0 f) s = .next (s.completedAt .m tag 0x03 (.refused .noChannel) (b1 0))
    ∧ exec (.closeChannel .m tag 0) s = .next (s.completedAt .m tag 0x04 (.refused .notAllowed) (b1 0))
    ∧ (∀ c, s.resolveGlobal n = some c → c ≠ 0 →
      ((s.chan c).state ≠ .closed →
        exec (.openChannel .m tag n f) s = .next (s.completedAt .m tag 0x03 (.refused .notClosed) (b1 n)))
      ∧ ((s.chan c).cls = .payment → s.settings.paymentLock = true →
        exec (.closeChannel .m tag n) s = .next (s.completedAt .m tag 0x04 (.refused .locked) (b1 n)))
      ∧ ((s.chan c).state = .closed → s.settings.paymentLock = false →
        exec (.closeChannel .m tag n) s = .next (s.completedAt .m tag 0x04 (.refused .notOpen) (b1 n))))
    ∧ (∀ c, s.resolveGlobal n = some c →
      ((s.chan c).state = .closed →
        exec (.setLimits .m tag n f) s = .next (s.completedAt .m tag 0x05 (.refused .notOpen) (b1 n)))
      ∧ ((s.chan c).state = .closed ∨ (s.chan c).state = .booting →
        exec (.renew .m tag n) s = .next (s.completedAt .m tag 0x06 (.refused .notOpen) (b1 n)))
      ∧ ((s.chan c).renewal = .idle ∨ (s.chan c).renewal = .stopped →
        exec (.abortRenewal .m tag n) s = .next (s.completedAt .m tag 0x07 (.refused .nothingPending) (b1 n))))

/-- R16, R17, R146: an accepted CLOSE of a channel other than 0 leaves it CLOSED and IDLE with its limits kept, its
slots wiped or waiting for their job's end, its exchange and its entry gone. Its frames in a FIFO, a hold list or the
waiting part of a transmit queue are discarded: each returns its buffer, and its port receives REFUSED
CLOSED_WHILE_QUEUED unless it is marked; its inbound frames leave the inbound FIFO with their buffers. Frames of other
channels stay, and so does a frame whose transmission has begun; the job in the core is to be discarded. With channel
0 LIVE or FROZEN a CLOSE_NOTE is built. The command completes DONE. The channel number in the data: log 13; the order
of the completions, and that the DONE is last: log 12; the consultation: log 1. -/
def Obligations.CloseEndsTheChannel : Prop :=
  ∀ (s : State) (pt : Port) (tag : Byte) (n : Nat) (c : ChanId),
    s.Takes pt → pt ≠ .g → s.mode = .running → s.resolve pt n = some c → c ≠ 0 →
    ¬ (pt = .m ∧ (s.chan c).cls = .payment ∧ s.settings.paymentLock = true) → (s.chan c).state ≠ .closed →
    ∃ t : State, exec (.closeChannel pt tag n) s
        = .next ((t.modPort pt fun r => { r with
            completions := r.completions ++ [⟨tag, 0x04, .done, b1 n⟩]
            latches := { r.latches with completion := true } }).consulted pt)
      ∧ s.Closes t c

/-- R11: SET_LIMITS writes the given fields clamped as Table 1-5, H never below the current slot's wear. The channel
number in the data: log 13; the consultation: log 1. -/
def Obligations.SetLimitsClampsAndRaises : Prop :=
  ∀ (s : State) (tag : Byte) (n : Nat) (f : LimitFields) (c : ChanId),
    s.Takes .m → s.mode = .running → s.resolveGlobal n = some c → (s.chan c).state ≠ .closed →
    let l := (s.chan c).limits
    let given (o : Option Nat) (lo hi old : Nat) := match o with | some v => max lo (min hi v) | none => old
    let w := match s.curKeyed c with | some k => k.wear | none => 0
    let new : Limits := ⟨max (given f.hard 65536 4294967295 l.hard) w, given f.margin 1 32 l.margin,
      given f.age 60 604800 l.age, given f.lead 0 3600 l.lead, given f.hold 1 60 l.hold, f.route.getD l.route⟩
    ∃ (t : State) (fields : List Byte),
      exec (.setLimits .m tag n f) s
        = .next ((t.modPort .m fun r => { r with
            completions := r.completions ++ [⟨tag, 0x05, .done, b1 n ++ fields⟩]
            latches := { r.latches with completion := true } }).consulted .m)
      ∧ t.chan c = { s.chan c with limits := new } ∧ (∀ d, d ≠ c → t.chan d = s.chan d)
      ∧ { t with chans := s.chans } = s

/-- R103, R99, R100: RENEW of an IDLE, PAUSED or STOPPED channel lists it URGENT (outcome LISTED); of a LISTED one it
moves a ROUTINE entry (MOVED) or leaves an URGENT one (UNCHANGED). The five refusals: MODE, NO_CHANNEL, NOT_OPEN,
ALREADY_RENEWING for EXCHANGING, LIMIT for a full list. The channel number in the data: log 13. -/
def Obligations.RenewListsMovesOrLeaves : Prop :=
  (∀ (s : State) (pt : Port) (tag : Byte) (n : Nat), s.Takes pt →
    let refuses (k : Cause) := exec (.renew pt tag n) s = .next (s.completedAt pt tag 0x06 (.refused k) (b1 n))
    (s.mode ≠ .running → refuses .mode)
    ∧ (s.mode = .running → s.resolve pt n = none → refuses .noChannel)
    ∧ (∀ c, s.mode = .running → s.resolve pt n = some c → (s.chan c).state = .closed ∨ (s.chan c).state = .booting →
      refuses .notOpen))
  ∧ ∀ (s : State) (pt : Port) (tag : Byte) (n : Nat) (c : ChanId),
    s.Takes pt → s.mode = .running → s.resolve pt n = some c → (s.chan c).state ≠ .closed →
    (s.chan c).state ≠ .booting →
    let ready := (s.chan c).renewal = .idle ∨ (s.chan c).renewal = .paused ∨ (s.chan c).renewal = .stopped
    let reason : Reason := if (s.chan c).state = .openWait then .openKey else .port
    let urgent (l : List WaitEntry) := (l.filter fun e => e.reason.urgent) ++ ⟨c, reason⟩ :: l.filter fun e => !e.reason.urgent
    let frame (t : State) := { t with
      chans := s.chans, sched := s.sched, portG := s.portG, portP := s.portP, portM := s.portM } = s
    (ready → s.sched.waitList.length < 31 → ∃ t, exec (.renew pt tag n) s = .next t
      ∧ t.chan c = { s.chan c with renewal := .listed, pause := none, pauseReason := none }
      ∧ (∀ d, d ≠ c → t.chan d = s.chan d) ∧ t.sched.waitList = urgent s.sched.waitList
      ∧ (t.port pt).completions = (s.port pt).completions ++ [⟨tag, 0x06, .done, b1 n ++ [0]⟩] ∧ frame t)
    ∧ (ready → 31 ≤ s.sched.waitList.length →
      exec (.renew pt tag n) s = .next (s.completedAt pt tag 0x06 (.refused .limit) (b1 n)))
    ∧ ((s.chan c).renewal = .exchanging →
      exec (.renew pt tag n) s = .next (s.completedAt pt tag 0x06 (.refused .alreadyRenewing) (b1 n)))
    ∧ (∀ e, (s.chan c).renewal = .listed → s.entryOf c = some e →
      (e.reason.urgent = true → exec (.renew pt tag n) s = .next (s.completedAt pt tag 0x06 .done (b1 n ++ [2])))
      ∧ (e.reason.urgent = false → ∃ t, exec (.renew pt tag n) s = .next t ∧ t.chans = s.chans
        ∧ t.sched.waitList = urgent (s.sched.waitList.filter fun x => x.chan ≠ c)
        ∧ (t.port pt).completions = (s.port pt).completions ++ [⟨tag, 0x06, .done, b1 n ++ [1]⟩] ∧ frame t))

/-- R126, R10, R17: ABORT_RENEWAL of a channel that is not OPEN_WAIT makes it IDLE: an exchange is removed with its
slot (no job is in a RESERVED or STAGED slot here), a wait-list entry is removed, a pause is removed. An OPEN_WAIT
channel is closed at once with every effect of R17 (R10). The data: log 13; the consultation at the end: log 1; the
DONE after the completions of the close: log 12. -/
def Obligations.AbortRenewalMakesTheChannelIdle : Prop :=
  ∀ (s : State) (tag : Byte) (n : Nat) (c : ChanId),
    s.Takes .m → s.mode = .running → s.resolveGlobal n = some c →
    let done (t : State) (status : Byte) := State.consulted (t.modPort .m fun r => { r with
      completions := r.completions ++ [⟨tag, 0x07, .done, b1 n ++ [status]⟩]
      latches := { r.latches with completion := true } }) .m
    let others (t : State) := ∀ d, d ≠ c → t.chan d = s.chan d
    let shut (status : Byte) := ∃ t : State, exec (.abortRenewal .m tag n) s = .next (done t status) ∧ s.Closes t c
    ((s.chan c).state = .openWait → ((s.chan c).renewal = .listed → shut 1) ∧ ((s.chan c).renewal = .paused → shut 3)
      ∧ ((s.chan c).renewal = .exchanging → (∀ e, s.exchOf c = some e → (s.slot e.slot).chan = some c) → shut 2))
    ∧ ((s.chan c).state ≠ .openWait →
    ((s.chan c).renewal = .listed → ∃ t : State, exec (.abortRenewal .m tag n) s = .next (done t 1)
      ∧ t.chan c = { s.chan c with renewal := .idle } ∧ others t
      ∧ t.sched.waitList = s.sched.waitList.filter (fun e => e.chan ≠ c) ∧ t.exch = s.exch ∧ t.slots = s.slots)
    ∧ ((s.chan c).renewal = .paused → ∃ t : State, exec (.abortRenewal .m tag n) s = .next (done t 3)
      ∧ t.chan c = { s.chan c with renewal := .idle, pause := none, pauseReason := none } ∧ others t
      ∧ t.sched = s.sched ∧ t.exch = s.exch ∧ t.slots = s.slots)
    ∧ (∀ e, (s.chan c).renewal = .exchanging → s.exchOf c = some e → (s.slot e.slot).inFlight = false →
      (s.slot e.slot).state ≠ .empty → ∃ t : State, exec (.abortRenewal .m tag n) s = .next (done t 2)
      ∧ t.chan c = { s.chan c with renewal := .idle, next := none } ∧ others t
      ∧ t.exch = s.exch.filter (fun x => x.chan ≠ c) ∧ t.slot e.slot = .wiped
      ∧ (∀ j, j ≠ e.slot → t.slot j = s.slot j) ∧ t.sched = s.sched
      ∧ t.derivs = s.derivs.filter (fun d => !d.into e.slot)))

/-! ### The blocks that port M sets (R75, R80, R138, R152, R153, R158, R174, R179, R184) -/

/-- R75, R80: SET_ALLOCATIONS and SET_SHARES write the given values, leaving holdings and round accounts as they are,
or are refused LIMIT: a value above 120 or allocations above 128 together; a value above 512 or shares above 512.
SET_ALLOCATIONS is refused NOT_ALLOWED from ports G and P, and otherwise MODE outside RUNNING. The widths and order of
the allocations and holdings in the data: log 13, log 49. -/
def Obligations.AllocationsAndSharesWriteOrRefuse : Prop :=
  (∀ (s : State) (pt : Port) (tag : Byte) (f : AllocFields), s.Takes pt →
    (pt ≠ .m → exec (.setAllocations pt tag f) s = .next (s.completedAt pt tag 0x09 (.refused .notAllowed) []))
    ∧ (pt = .m → s.mode ≠ .running →
      exec (.setAllocations pt tag f) s = .next (s.completedAt pt tag 0x09 (.refused .mode) [])))
  ∧ (∀ (s : State) (tag : Byte) (f : AllocFields), s.Takes .m → s.mode = .running →
    let g := f.g.getD s.pool.allocG
    let p := f.p.getD s.pool.allocP
    let m := f.m.getD s.pool.allocM
    let i := f.inbound.getD s.pool.allocInbound
    let tooMuch := (∃ v, (f.g = some v ∨ f.p = some v ∨ f.m = some v ∨ f.inbound = some v) ∧ 120 < v)
      ∨ 128 < g + p + m + i + 8
    let new := { s.pool with allocG := g, allocP := p, allocM := m, allocInbound := i }
    (tooMuch → exec (.setAllocations .m tag f) s = .next (s.completedAt .m tag 0x09 (.refused .limit) []))
    ∧ (¬ tooMuch → exec (.setAllocations .m tag f) s
      = .next (State.completedAt { s with pool := new } .m tag 0x09 .done
          (b2 g ++ b2 p ++ b2 m ++ b2 i ++ b2 8 ++ b4 s.pool.heldG ++ b4 s.pool.heldP ++ b4 s.pool.heldM
            ++ b4 s.pool.heldInbound ++ b4 s.pool.heldControl))))
  ∧ (∀ (s : State) (tag : Byte) (f : ShareFields), s.Takes .m → s.mode = .running →
    let i := f.inbound.getD s.arb.shares.inbound
    let p := f.p.getD s.arb.shares.p
    let g := f.g.getD s.arb.shares.g
    let m := f.m.getD s.arb.shares.m
    let tooMuch := (∃ v, (f.inbound = some v ∨ f.p = some v ∨ f.g = some v ∨ f.m = some v) ∧ 512 < v)
      ∨ 512 < i + p + g + m
    (tooMuch → exec (.setShares .m tag f) s = .next (s.completedAt .m tag 0x0B (.refused .limit) []))
    ∧ (¬ tooMuch → exec (.setShares .m tag f) s
      = .next (State.completedAt { s with arb := { s.arb with shares := ⟨i, p, g, m⟩ } } .m tag 0x0B .done [])))

/-- R138, R143: SET_TRUNK refuses to disable the last enabled trunk, changes nothing when the enable stands (but that
the event ends with the consultation of a free core: log 1), starts an enabled trunk in PROVING or DOWN by its
carrier, and puts a disabled one OFF, an UP one with the effects of leaving UP. The data: log 13, log 49; the DONE
after the completions of leaving UP: log 12; where a transmission is cut: log 25. A deadline past the end of uptime is
not bounded by it: log 46. -/
def Obligations.SetTrunkEnablesAndDisables : Prop :=
  ∀ (s : State) (tag : Byte) (k : Trunk), s.Takes .m → s.mode = .running →
    let done (t : State) := State.consulted (t.modPort .m fun r => { r with
      completions := r.completions ++ [⟨tag, 0x0F, .done, t.trunkFigures⟩]
      latches := { r.latches with completion := true } }) .m
    let off := s.modTrunk k fun r => { r with enable := false, state := .off, proving := none }
    ((s.trunk k).enable = true → (s.trunk k.other).enable = false →
      exec (.setTrunk .m tag k false) s = .next (s.completedAt .m tag 0x0F (.refused .lastTrunk) []))
    ∧ (∀ b, (s.trunk k).enable = b →
      exec (.setTrunk .m tag k b) s = .next (done s))
    ∧ ((s.trunk k).enable = false →
      exec (.setTrunk .m tag k true) s = .next (done (s.modTrunk k fun r => { r with
        enable := true
        state := if s.carrier k then .proving else .down
        proving := if s.carrier k then some (s.uptime + (s.trunk k).provingInterval) else none })))
    ∧ ((s.trunk k).enable = true → (s.trunk k.other).enable = true → (s.trunk k).state ≠ .up →
      exec (.setTrunk .m tag k false) s = .next (done off))
    ∧ ((s.trunk k).enable = true → (s.trunk k.other).enable = true → (s.trunk k).state = .up →
      exec (.setTrunk .m tag k false) s = .next (done (off.leaveUp k))
        ∧ (off.leaveUp k).trunk k = { s.trunk k with
            enable := false, state := .off, proving := none, queue := [], reserved := 0, transmitting := false
            stall := none, given := 0
            out := if (s.trunk k).transmitting = true ∧ (s.trunk k).hold = false
              then (s.trunk k).out.take (max (s.trunk k).given (Config.taken s.draws)) else (s.trunk k).out })

/-- R152, R153, R165: CLEAR_LATCHES clears the named latches and no other, SET_FAULT_MASK masks the named maskable
kinds and no other; the fault level of L3 is on exactly while an unmasked latch of severity CRITICAL or MAJOR is set.
The latches and the mask as 17 bytes of data: log 13, log 49. -/
def Obligations.LatchesMaskAndFaultLevel : Prop :=
  (∀ (s : State) (tag : Byte) (kinds : List FaultKind), s.Takes .m → s.mode = .running →
    let flags (l : List FaultKind) : List Byte := FaultKind.all.map fun k => if k ∈ l then 1 else 0
    let latches := s.fault.latches.filter fun k => k ∉ kinds
    let mask := FaultKind.all.filter fun k => k ∈ kinds ∧ k.maskable = true
    let others := FaultKind.all.filter fun k => k ∈ kinds ∧ k.maskable = false
    exec (.clearLatches .m tag kinds) s
        = .next (State.completedAt { s with fault := { s.fault with latches := latches } } .m tag 0x11 .done (flags latches))
      ∧ exec (.setFaultMask .m tag kinds) s
        = .next (State.completedAt { s with fault := { s.fault with mask := mask } } .m tag 0x12 .done
            (flags mask ++ flags others)))
  ∧ (∀ s : State, s.fnLevel 3 = some s.fault.level
      ∧ (s.fault.level = true
        ↔ ∃ k ∈ s.fault.latches, (k.severity = .critical ∨ k.severity = .major) ∧ k ∉ s.fault.mask))

/-- R155, R156, R157, R152, R162: a raise sets its latch; unmasked, an untaken record of the same identity takes it
(last second, repeat count up to 65,535, unsent again), and otherwise a new record joins the end of a queue that has
room. A queue of 32 makes room by removing its oldest record that is taken and not sent, or the oldest of the lowest
severity when the new one is above it, and counts what goes unsent as lost; otherwise nothing is removed and the
dropped count rises. A new CRITICAL record leads to a report when one can be built. -/
def Obligations.RaiseLatchesAndCoalescesOrAppends : Prop :=
  ∀ (s : State) (k : FaultKind) (c : Option ChanId) (w : Option Trunk) (pt : Option Port),
    let t : State := s.raise k c w pt
    let same (r : FaultRec) := r.taken = false ∧ r.kind = k ∧ r.chan = c ∧ r.trunk = w
    let new : FaultRec := ⟨k, c, w, pt, s.uptime, s.uptime, 1, false, false, false⟩
    let lent := s.pool.heldControl < 8 ∧ 0 < s.pool.free
    let quiet := k.severity ≠ .critical ∨ (s.chan 0).state ≠ .live ∨ s.fault.report ≠ none ∨ ¬ lent
    let up (n : Nat) := min (n + 1) 65535
    let joins (kept : List FaultRec) (lost : Nat) : Prop :=
      t.portM.latches.fault = true ∧ t.fault.lost = lost ∧ t.fault.dropped = s.fault.dropped
      ∧ (quiet → t.fault.queue = kept ++ [new] ∧ t.fault.report = s.fault.report)
      ∧ (¬ quiet → t.fault.report = some ⟨s.fault.dropped, lost⟩
        ∧ (t.fault.queue.map fun r => { r with inReport := false })
            = (kept ++ [new]).map (fun r => { r with inReport := false })
        ∧ t.srcControl = { s.srcControl with
            fifo := s.srcControl.fifo ++ [⟨.control, .faultReport, 0, 0, 0, false, s.srcControl.nextSub,
              faultReportPayload (((kept ++ [new]).filter fun r => r.sent = false).take 8) s.fault.dropped lost,
              none, none, none⟩]
            nextSub := s.srcControl.nextSub + 1 })
    (∀ j, j ∈ t.fault.latches ↔ j ∈ s.fault.latches ∨ j = k) ∧ t.fault.mask = s.fault.mask
    ∧ (k ∈ s.fault.mask → t.fault.queue = s.fault.queue ∧ t.portM = s.portM)
    ∧ (k ∉ s.fault.mask → (∃ r ∈ s.fault.queue, same r) →
      t.fault.queue.length = s.fault.queue.length ∧ t.portM = s.portM
      ∧ (∀ (i : Nat) (r : FaultRec), s.fault.queue[i]? = some r → ¬ same r → t.fault.queue[i]? = some r)
      ∧ (∀ (i : Nat) (r : FaultRec), s.fault.queue[i]? = some r → same r → t.fault.queue[i]? = some { r with
          last := s.uptime, count := min (r.count + 1) 65535, sent := false, inReport := false }))
    ∧ (k ∉ s.fault.mask → (∀ r ∈ s.fault.queue, ¬ same r) →
      (s.fault.queue.length < 32 → joins s.fault.queue s.fault.lost)
      ∧ (∀ before r after, 32 ≤ s.fault.queue.length → s.fault.queue = before ++ r :: after →
        r.taken = true → r.sent = false → (∀ x ∈ before, ¬ (x.taken = true ∧ x.sent = false)) →
        joins (before ++ after) (up s.fault.lost))
      ∧ (∀ before r after, 32 ≤ s.fault.queue.length → s.fault.queue = before ++ r :: after →
        (∀ x ∈ s.fault.queue, ¬ (x.taken = true ∧ x.sent = false)) →
        (∀ x ∈ s.fault.queue, x.kind.severity.code ≤ r.kind.severity.code) →
        (∀ x ∈ before, x.kind.severity ≠ r.kind.severity) → k.severity.code < r.kind.severity.code →
        joins (before ++ after) (if r.sent then s.fault.lost else up s.fault.lost))
      ∧ (32 ≤ s.fault.queue.length → (∀ x ∈ s.fault.queue, ¬ (x.taken = true ∧ x.sent = false)) →
        (∀ x ∈ s.fault.queue, x.kind.severity.code ≤ k.severity.code) →
        t.fault.queue = s.fault.queue ∧ t.fault.dropped = up s.fault.dropped ∧ t.fault.lost = s.fault.lost
        ∧ t.portM = s.portM))

/-- R158, R159, R157: TAKE_FAULT takes the oldest untaken record; it stays in the queue while a report can still carry
it, and leaves at once when it is sent or when no report can be sent. The counts in the data: log 13. The counts of a
TAKE_FAULT are those after the removal: log 48. -/
def Obligations.TakeFaultTakesTheOldest : Prop :=
  ∀ (s : State) (tag : Byte), s.Takes .m →
    ((∀ r ∈ s.fault.queue, r.taken = true) →
      exec (.takeFault .m tag) s = .next (s.completedAt .m tag 0x13 .done (List.replicate 16 0 ++ s.fault.counts)))
    ∧ (∀ before r after, s.fault.queue = before ++ r :: after → (∀ x ∈ before, x.taken = true) → r.taken = false →
      let silent := s.mode = .safe ∨ s.mode = .lockdown
        ∨ (s.mode = .running ∧ ((s.chan 0).state = .closed ∨ (s.chan 0).state = .booting))
      (r.sent = false ∧ ¬ silent →
        let u := { s.fault with queue := before ++ { r with taken := true } :: after }
        exec (.takeFault .m tag) s = .next (State.completedAt { s with fault := u } .m tag 0x13 .done
          (FaultRec.bytes { r with taken := true } false ++ u.counts)))
      ∧ (r.sent = true →
        let u := { s.fault with queue := before ++ after }
        exec (.takeFault .m tag) s = .next (State.completedAt { s with fault := u } .m tag 0x13 .done
          (FaultRec.bytes { r with taken := true } false ++ u.counts)))
      ∧ (r.sent = false ∧ silent →
        let u := { s.fault with queue := before ++ after, lost := min (s.fault.lost + 1) 65535 }
        exec (.takeFault .m tag) s = .next (State.completedAt { s with fault := u } .m tag 0x13 .done
          (FaultRec.bytes { r with taken := true } false ++ u.counts))))

/-- R160 to R163: a report deadline that is reached is set again and leads to a report of up to 8 unsent records when
channel 0 is LIVE, no report is in flight and a CONTROL buffer is lent. The outcome: SENT marks the records of the
report sent and removes the taken ones, and lowers the counts by what the report carried; another outcome leaves every
record unsent. The report test then builds the next report when an unsent CRITICAL record remains and channel 0 is
LIVE, and nothing otherwise. Acting at or after a deadline: log 10. A deadline past the end of uptime is not bounded
by it: log 46. -/
def Obligations.ReportsCarryUnsentRecords : Prop :=
  (∀ (s : State) (d : Nat), s.fault.deadline = some d → d ≤ s.uptime →
    let unsent := s.fault.queue.filter fun r => r.sent = false
    ((s.chan 0).state ≠ .live ∨ s.fault.report ≠ none ∨ unsent = [] ∨ 8 ≤ s.pool.heldControl ∨ s.pool.free = 0 →
      exec .reportDeadline s = .next (State.rest
        { s with fault := { s.fault with deadline := some (s.uptime + s.settings.reportInterval) } }))
    ∧ ((s.chan 0).state = .live → s.fault.report = none → unsent ≠ [] → s.pool.heldControl < 8 → 0 < s.pool.free →
      (∀ r ∈ s.fault.queue, r.inReport = false) →
      ∃ t : State, exec .reportDeadline s = .next t.rest
        ∧ t.fault.deadline = some (s.uptime + s.settings.reportInterval)
        ∧ t.fault.report = some ⟨s.fault.dropped, s.fault.lost⟩
        ∧ (t.fault.queue.filter fun r => r.inReport) = ((unsent.take 8).map fun r => { r with inReport := true })
        ∧ (t.fault.queue.map fun r => { r with inReport := false }) = s.fault.queue
        ∧ t.srcControl = { s.srcControl with
            fifo := s.srcControl.fifo ++ [⟨.control, .faultReport, 0, 0, 0, false, s.srcControl.nextSub,
              faultReportPayload (unsent.take 8) s.fault.dropped s.fault.lost, none, none, none⟩]
            nextSub := s.srcControl.nextSub + 1 }
        ∧ t.pool = { s.pool with heldControl := s.pool.heldControl + 1, free := s.pool.free - 1 }
        ∧ { t with fault := s.fault, srcControl := s.srcControl, pool := s.pool } = s))
  ∧ (∀ (s : State) (rep : Report) (ok : Bool), s.fault.report = some rep →
    let u : FaultUnit := if ok then { s.fault with
        queue := (s.fault.queue.map fun r =>
          if r.inReport then { r with sent := true, inReport := false } else r).filter fun r => ¬ (r.sent ∧ r.taken)
        dropped := s.fault.dropped - rep.dropped, lost := s.fault.lost - rep.lost, report := none }
      else { s.fault with queue := s.fault.queue.map fun r => { r with inReport := false }, report := none }
    let pressing := ∃ r ∈ u.queue, r.sent = false ∧ r.kind.severity = .critical
    let lent := s.pool.heldControl < 8 ∧ 0 < s.pool.free
    let t := s.reportOutcome ok
    ((s.chan 0).state ≠ .live ∨ ¬ pressing ∨ ¬ lent → t = { s with fault := u })
    ∧ ((s.chan 0).state = .live → pressing → lent →
      t.fault.report = some ⟨u.dropped, u.lost⟩
      ∧ (t.fault.queue.map fun r => { r with inReport := false }) = u.queue
      ∧ (t.fault.queue.filter fun r => r.inReport)
        = (((u.queue.filter fun r => r.sent = false).take 8).map fun r => { r with inReport := true })
      ∧ t.srcControl = { s.srcControl with
          fifo := s.srcControl.fifo ++ [⟨.control, .faultReport, 0, 0, 0, false, s.srcControl.nextSub,
            faultReportPayload ((u.queue.filter fun r => r.sent = false).take 8) u.dropped u.lost, none, none, none⟩]
          nextSub := s.srcControl.nextSub + 1 }
      ∧ { t with fault := s.fault, srcControl := s.srcControl, pool := s.pool } = s))

/-- R174: SET_PORT, its four tests in order and its effect; no other row but a start-up changes an enable; the
attention level follows the enable and the latches. -/
def Obligations.SetPortWritesTheEnables : Prop :=
  (∀ (s : State) (pt named : Port) (tag : Byte) (su de att : Option Bool), s.Takes pt →
    let cause : Option Cause :=
      if pt = .g then some .notAllowed
      else if s.mode ≠ .running then some .mode
      else if named = .m ∨ (pt = .p ∧ named = .g) then some .notAllowed
      else if pt = .m ∧ named = .p ∧ s.settings.paymentLock = true then some .locked
      else none
    let e := (s.port named).enables
    let new : Enables := ⟨su.getD e.submit, de.getD e.deliver, att.getD e.attention⟩
    (∀ k, cause = some k →
      exec (.setPort pt tag named su de att) s = .next (s.completedAt pt tag 0x15 (.refused k) []))
    ∧ (cause = none →
      exec (.setPort pt tag named su de att) s
        = .next ((s.modPort named fun r => { r with enables := new }).completedAt pt tag 0x15 .done
            [if new.submit then 1 else 0, if new.deliver then 1 else 0, if new.attention then 1 else 0])))
  ∧ (∀ (c : Instr) (s t : State) (q : Port), exec c s = .next t → (t.port q).enables ≠ (s.port q).enables →
    (∃ pt tag su de att, c = .setPort pt tag q su de att)
      ∨ c = .powerOnReset ∨ c = .deferredRestart ∨ ∃ tag, c = .restart .m tag)
  ∧ (∀ r : PortRec, r.level = true ↔ r.enables.attention = true ∧ r.latches ≠ ⟨false, false, false, false⟩)

/-- R179, R178, R180, R136: SET_LINE writes the given values of a line; at L0 and L1 a change of carrier is a carrier
event of the trunk; arming L2 while its pin is high is a tamper. R178, R165, R172: an armed L2 is not driven and reads
its pin; any other line is driven by the level of its output function while that is on (L3 the fault level, L4 to L6
the attention levels), otherwise by its latch while OUT, and not at all while IN; it reads its latch while OUT and its
pin while IN. Carrier is the read-back of L0 or L1 with the function on. The data: log 13; the consultation: log 1;
the completion after those of a carrier fall or a tamper: log 12; the pin at the arming: log 42; the level an undriven
pin is given: log 40. A deadline past the end of uptime is not bounded by it: log 46. -/
def Obligations.SetLineWritesTheLine : Prop :=
  (∀ (s : State) (i : Fin 8),
    let l := s.line i
    let armed := i = 2 ∧ l.fn = true
    let level : Option Bool := match i.val with
      | 3 => some s.fault.level
      | 4 => some s.portG.level
      | 5 => some s.portP.level
      | 6 => some s.portM.level
      | _ => none
    (armed → s.drive i = none ∧ s.readBack i = s.pin i)
    ∧ (¬ armed → s.drive i = (if l.fn = true ∧ level.isSome = true then level else if l.dirOut then some l.latch else none)
      ∧ s.readBack i = if l.dirOut then l.latch else s.pin i)
    ∧ (∀ b, s.drive i = some b → s.pin i = b) ∧ (s.drive i = none → s.pin i = l.ext)
    ∧ (∀ k : Trunk, s.carrier k = true ↔ (s.line k.line).fn = true
      ∧ (if (s.line k.line).dirOut then (s.line k.line).latch else (s.line k.line).ext) = true))
  ∧ ∀ (s : State) (tag : Byte) (d l f : Option Bool), s.Takes .m → s.mode = .running →
    let new (i : Fin 8) : State := s.modLine i fun x =>
      { x with dirOut := d.getD x.dirOut, latch := l.getD x.latch, fn := f.getD x.fn }
    let done (t : State) (i : Fin 8) := State.consulted (t.modPort .m fun r => { r with
      completions := r.completions ++ [⟨tag, 0x17, .done, (new i).lineBytes i⟩]
      latches := { r.latches with completion := true } }) .m
    (∀ n, 8 ≤ n → exec (.setLine .m tag n d l f) s = .next (s.completedAt .m tag 0x17 (.refused .limit) []))
    ∧ (f = some true → exec (.setLine .m tag 7 d l f) s = .next (s.completedAt .m tag 0x17 (.refused .notAllowed) []))
    ∧ (f = some false → s.settings.tamperLock = true →
      exec (.setLine .m tag 2 d l f) s = .next (s.completedAt .m tag 0x17 (.refused .locked) []))
    ∧ (∀ i : Fin 8, 2 < i → ¬ (i = 7 ∧ f = some true) →
      exec (.setLine .m tag i.val d l f) s = .next (done (new i) i))
    ∧ (¬ (f = some false ∧ s.settings.tamperLock = true) →
      ¬ ((s.line 2).fn = false ∧ f = some true ∧ (s.line 2).ext = true) →
      exec (.setLine .m tag 2 d l f) s = .next (done (new 2) 2))
    ∧ ((s.line 2).fn = false → f = some true → (s.line 2).ext = true →
      ∃ t, exec (.setLine .m tag 2 d l f) s = .next t ∧ t.mode = .lockdown ∧ FaultKind.tamper ∈ t.fault.latches
        ∧ ∀ i, t.slot i = .wiped)
    ∧ (∀ k : Trunk,
      ((new k.line).carrier k = s.carrier k → exec (.setLine .m tag k.line.val d l f) s = .next (done (new k.line) k.line))
      ∧ ((new k.line).carrier k = true → s.carrier k = false →
        exec (.setLine .m tag k.line.val d l f) s
          = .next (done ((new k.line).modTrunk k fun r => { r with
              state := if r.state = .down then .proving else r.state
              proving := if r.state = .down then some (s.uptime + r.provingInterval) else r.proving }) k.line))
      ∧ ((new k.line).carrier k = false → s.carrier k = true → (s.trunk k).state = .proving ∨ (s.trunk k).state = .up →
        ∃ t : State, exec (.setLine .m tag k.line.val d l f) s = .next (done t k.line)
          ∧ (t.trunk k).state = .down ∧ FaultKind.trunkDown ∈ t.fault.latches))

/-! ### The settings store and the life of the part (R41, R180 to R189) -/

/-- R184, R183, R197 (the bytes of the WRITE_SETTINGS completion are the model's coding, log 14): WRITE_SETTINGS
begins a write and is outstanding; a write in progress refuses it BUSY. The image written carries the CRC-32 of its
first 135 bytes and every carried byte, but for the parts that set locks of a stored image that passes its check keep,
and for the count. The end of a settings write puts the new image in the store and completes the command (or drops a
marked completion, R176); the end of a count write (R41) puts the count in the image and the CRC-32 anew. A bootstrap
that waited for the write then begins, in RUNNING and where no RESTART waits: the count write of one more than the
count of the image that now stands, with its derivation waiting; at 65,535 BOOT_LIMIT is raised and the part is in
SAFE. The bootstrap and a RESTART that wait together: log 31. -/
def Obligations.WritesOfTheSettingsStore : Prop :=
  (∀ (s : State) (tag : Byte) (l : List Byte), s.Takes .m → l.length = 133 → s.mode ≠ .lockdown →
    s.store.image.length = 139 →
    (s.store.write.isSome = true →
      exec (.writeSettings .m tag l) s = .next (s.completedAt .m tag 0x1A (.refused .busy) []))
    ∧ (s.store.write = none → ∃ (new : List Byte) (kept : List Nat),
      exec (.writeSettings .m tag l) s = .next (State.modPort
        { s with store := { s.store with write := some (.settings new kept (imageCheck new) tag false) } } .m
        fun r => { r with outstanding := r.outstanding + 1, reply := [0] })
      ∧ new.length = 139 ∧ numAt new 135 4 = (crc32 (new.take 135)).toNat
      ∧ (s.store.check ≠ 0 → kept = [] ∧ new.take 135 = l.take 40 ++ [0, 0] ++ l.drop 40)
      ∧ (s.store.check = 0 →
        let old := s.store.image
        let root := flagAt old 42
        let views := flagAt old 43
        let payment := flagAt old 44
        let tamper := flagAt old 45
        kept = (if root then [1] else []) ++ (if views then [2] else []) ++ (if payment then [3] else [])
          ++ (if tamper then [4] else [])
        ∧ new.take 40 = (if root then old.take 40 else l.take 40)
        ∧ (new.drop 40).take 2 = (if root ∨ (l.drop 8).take 32 = (old.drop 8).take 32 then (old.drop 40).take 2
            else [0, 0])
        ∧ new.getD 42 0 = (if root then old.getD 42 0 else l.getD 40 0)
        ∧ new.getD 43 0 = (if views then old.getD 43 0 else l.getD 41 0)
        ∧ new.getD 44 0 = (if payment then old.getD 44 0 else l.getD 42 0)
        ∧ new.getD 45 0 = (if tamper then old.getD 45 0 else l.getD 43 0)
        ∧ (new.drop 46).take 9 = (if views then (old.drop 46).take 9 else (l.drop 44).take 9)
        ∧ (new.drop 55).take 79 = (l.drop 53).take 79
        ∧ new.getD 134 0 = (if tamper then 1 else l.getD 132 0))))
  ∧ (let begins (s : State) := s.store.bootWaits = true ∧ s.store.restartWaits = false ∧ s.mode = .running
  let boots (c : Instr) (s u : State) (count : Nat) : Prop :=
    (¬ begins s → exec c s = .next u)
    ∧ (begins s → count < 65535 → exec c s = .next { u with
        store := { u.store with write := some (.count (count + 1)), bootWaits := false }
        derivs := u.derivs ++ [.bootstrap (count + 1)] })
    ∧ (begins s → 65535 ≤ count → ∃ t, exec c s = .next t ∧ t.mode = .safe ∧ FaultKind.bootLimit ∈ t.fault.latches
        ∧ t.QuietLaw ∧ t.store = { u.store with bootWaits := false }
        ∧ ∀ pt, (t.port pt).completions = [] ∧ (t.port pt).outstanding = 0)
  (∀ (s : State) (image : List Byte) (kept : List Nat) (result : Nat) (tag : Byte) (marked : Bool),
    s.store.write = some (.settings image kept result tag marked) →
    boots .settingsWriteEnd s (State.modPort
      { s with store := { s.store with image := image, spoiled := false, write := none } } .m fun r =>
        if marked then { r with outstanding := r.outstanding - 1, marks := r.marks - 1 }
        else { r with
          outstanding := r.outstanding - 1
          completions := r.completions ++ [⟨tag, 0x1A, .done, b1 kept.length ++ kept.flatMap b1 ++ b1 result⟩]
          latches := { r.latches with completion := true } }) (numAt image 40 2))
  ∧ (∀ (s : State) (n : Nat), s.store.write = some (.count n) →
    s.store.image.length = 139 → n ≤ 65535 → ∃ new : List Byte,
    boots .countWriteEnd s { s with store := { s.store with image := new, write := none } } n
      ∧ new.length = 139 ∧ new.take 40 = s.store.image.take 40 ∧ numAt new 40 2 = n
      ∧ (new.drop 42).take 93 = (s.store.image.drop 42).take 93 ∧ numAt new 135 4 = (crc32 (new.take 135)).toNat))

/-- R40, R41, R39, R19, R129: a waiting derivation runs on an idle core (a bootstrap one after its count write); at
its end the bootstrap key pair stands in the lowest-numbered EMPTY slot, channel 0 is BOOTING with it, and HELLO is
built, or not where no CONTROL buffer is lent (R111). The input bytes of the derivation are the model's coding: log
34. That DERIVATION_START out of place changes nothing is the model's choice: log 2. A deadline past the end of uptime
is not bounded by it: log 46. -/
def Obligations.BootstrapRunsToHello : Prop :=
  (∀ (s : State) (d : Derivation) (rest : List Derivation), s.core = .idle → s.derivs = d :: rest →
    (∀ n, d = .bootstrap n → ∀ m, s.store.write ≠ some (.count m)) →
    exec .derivationStart s = .next { s with core := .derives d, derivs := rest })
  ∧ (∀ s : State, s.core ≠ .idle ∨ s.derivs = [] → exec .derivationStart s = .next s)
  ∧ (∀ (s : State) (n : Nat) (i : SlotId), s.core = .derives (.bootstrap n) → (s.slot i).state = .empty →
    (∀ j, j < i → (s.slot j).state ≠ .empty) →
    let keys := Config.derive s.settings.rootKey (bootstrapLabel ++ beBytes 8 s.settings.storeId.toNat ++ b2 n)
    ∃ t : State, exec .bootstrapDerivationEnd s = .next t.rest
      ∧ t.slot i = ⟨.active, some 0, keys.extractLsb' 256 256, keys.extractLsb' 0 256, some ⟨1, 0, 0, 1, 0, 0⟩, none, false,
          false⟩
      ∧ (∀ j, j ≠ i → t.slot j = s.slot j)
      ∧ t.chan 0 = { s.chan 0 with
          state := .booting, limits := s.settings.control, rate := 0, units := 0, bucket := 0, cur := some i }
      ∧ (∀ d, d ≠ 0 → t.chan d = s.chan d)
      ∧ t.boot = ⟨.helloWait, 1, some (s.uptime + s.settings.reply + 2), some n⟩ ∧ t.core = .idle
      ∧ s.Builds t .hello (beBytes 8 s.settings.storeId.toNat ++ b2 n)
      ∧ (t.port (s.chan 0).owner.port).latches.channel = true)

/-- R186, R182, R183, R180, R23, R43, R70, R77, R87, R109, R134, R150, R167, R177, R181, R187: what POWER_ON_RESET,
RESTART and DEFERRED_RESTART leave. With the tamper input low every block is fresh, the settings are loaded and the
self-check runs; a RESTART keeps the fault records, the latches, the mask and the counts. The reset arms L2, so with
the tamper input high the start-up ends in LOCKDOWN before the image is read. A RESTART waits for the write in
progress. The levels from outside, the tamper input and the settings in use then: log 7, log 21; the numbers that
sources start at and the kept count of nonces: log 28, log 5; the old bytes beside a flag after a write cut short: log
19; DEFERRED_RESTART out of place: log 2. -/
def Obligations.StartUpLeavesEveryBlockFresh : Prop :=
  ∀ s : State,
    let low := (s.line 2).ext = false
    let cold : Store := ⟨s.store.image, s.store.spoiled || s.store.write.isSome, none, false, false⟩
    let warm : Store := ⟨s.store.image, s.store.spoiled, none, false, false⟩
    let runs := s.mode = .running ∨ s.mode = .safe
    let locked (t : State) (st : Store) : Prop :=
      t.mode = .lockdown ∧ t.QuietLaw ∧ FaultKind.tamper ∈ t.fault.latches ∧ t.store = st ∧ t.uptime = 0
        ∧ t.settings = .delivered ∧ (∀ k, (t.trunk k).state = .off) ∧ (t.line 2).fn = true
        ∧ (FaultKind.settingsBad ∈ t.fault.latches → FaultKind.settingsBad ∈ s.fault.latches)
    let replied (t : State) : State := t.modPort .m fun r => { r with reply := [0] }
    let leaves (t : State) : Prop := s.StartedFrom t warm ∧ FaultKind.restarted ∈ t.fault.latches
      ∧ (∀ k ∈ s.fault.latches, k ∈ t.fault.latches) ∧ t.fault.mask = s.fault.mask
      ∧ (s.fault.queue.length ≤ 30 → t.fault.dropped = s.fault.dropped ∧ t.fault.lost = s.fault.lost
        ∧ ∀ r ∈ s.fault.queue, r.kind ≠ .restarted → r.kind ≠ .settingsBad →
          { r with inReport := false } ∈ t.fault.queue)
    (low → ∃ t, exec .powerOnReset s = .next t ∧ s.StartedFrom t cold
        ∧ t.fault.latches = (if cold.load.fromImage then [] else [.settingsBad]) ∧ t.fault.mask = []
        ∧ t.fault.queue.length = (if cold.load.fromImage then 0 else 1) ∧ t.fault.dropped = 0 ∧ t.fault.lost = 0)
    ∧ (¬ low → ∃ t, exec .powerOnReset s = .next t ∧ locked t cold ∧ t.fault.latches = [.tamper])
    ∧ (∀ tag, s.Takes .m → runs → s.store.write = none →
      ∃ t, exec (.restart .m tag) s = .next (replied t) ∧ (low → leaves t)
        ∧ (¬ low → locked t warm ∧ FaultKind.restarted ∈ t.fault.latches))
    ∧ (s.store.restartWaits = true → s.store.write = none → runs →
      ∃ t, exec .deferredRestart s = .next t ∧ (low → leaves t)
        ∧ (¬ low → locked t warm ∧ FaultKind.restarted ∈ t.fault.latches))
    ∧ (∀ tag, s.Takes .m → s.mode ≠ .lockdown → s.store.write.isSome = true →
      exec (.restart .m tag) s
        = .next (State.modPort { s with store := { s.store with restartWaits := true } } .m
            fun r => { r with reply := [0] }))
    ∧ (s.store.restartWaits = false ∨ s.store.write ≠ none → exec .deferredRestart s = .next s)

/-- R186, R160, R150, R41: the end of the self-check. With a good image, a good core and a count below 65,535 the part
is RUNNING, its enabled trunks PROVING or DOWN, its report deadline set, the count write begun and the bootstrap
derivation waiting; otherwise it is in SAFE with CORE_CHECK or BOOT_LIMIT raised for its cause. The result is the
row's operand: log 22. A deadline past the end of uptime is not bounded by it: log 46. -/
def Obligations.SelfCheckEndsInRunningOrSafe : Prop :=
  ∀ (s : State) (ok : Bool), s.mode = .starting → s.core = .derives .selfCheck →
    (ok = true → s.settings.fromImage = true → numAt s.store.image 40 2 < 65535 → s.store.write = none →
      ∃ t, exec (.selfCheckEnd ok) s = .next t ∧ t.mode = .running ∧ t.core = .idle
        ∧ t.fault = { s.fault with deadline := some (s.uptime + s.settings.reportInterval) }
        ∧ t.store = { s.store with write := some (.count (numAt s.store.image 40 2 + 1)), bootWaits := false }
        ∧ t.derivs = s.derivs ++ [.bootstrap (numAt s.store.image 40 2 + 1)]
        ∧ (∀ k, t.trunk k = if (s.trunk k).enable then { s.trunk k with
              state := if s.carrier k then .proving else .down
              proving := if s.carrier k then some (s.uptime + (s.trunk k).provingInterval) else none }
            else s.trunk k)
        ∧ { t with
            mode := s.mode, core := s.core, fault := s.fault, store := s.store, derivs := s.derivs, t0 := s.t0
            t1 := s.t1 } = s)
    ∧ (ok = false ∨ s.settings.fromImage = false ∨ numAt s.store.image 40 2 = 65535 →
      ∃ t, exec (.selfCheckEnd ok) s = .next t ∧ t.mode = .safe ∧ t.QuietLaw
        ∧ (ok = false → FaultKind.coreCheck ∈ t.fault.latches)
        ∧ (ok = true → s.settings.fromImage = true → FaultKind.bootLimit ∈ t.fault.latches))

/-- R188, R43, R109, R134, R70, R146, R181, R41, R184, R189: ZEROIZE closes every channel, wipes every slot (one with
a job keeps wipe pending), empties the lists, the sources and the inbound FIFO, leaves each transmit queue its
transmitting frame alone (unless the line reset makes a carrier event), returns the lines to IN, and starts the
bootstrap again: with a count below 65,535 the count write begins; while a write runs the bootstrap waits for its end;
at a count of 65,535 BOOT_LIMIT is raised and the part enters SAFE, which also puts the trunks OFF and empties the
completion and delivery queues. DONE carries the mode. The order of the closes, and the line reset last: log 26; the
DONE after the completions of the closes: log 12. -/
def Obligations.ZeroizeWipesAndBootstrapsAgain : Prop :=
  ∀ (s : State) (tag : Byte), s.Takes .m → s.mode = .running →
    let count := numAt s.store.image 40 2
    let safe := s.store.write = none ∧ 65535 ≤ count
    ∃ t, exec (.zeroize .m tag) s = .next t
      ∧ (∀ c, (t.chan c).state = .closed)
      ∧ (∀ i, (t.slot i).state = .empty ∨ ((t.slot i).inFlight = true ∧ (t.slot i).wipePending = true))
      ∧ t.sched.waitList = [] ∧ t.exch = [] ∧ t.boot.phase = .none ∧ t.inFifo = []
      ∧ (∀ i, (t.line i).dirOut = false ∧ (t.line i).latch = false ∧ (t.line i).fn = (s.line i).fn)
      ∧ (∀ o, (t.src o).waiting = [] ∧ (t.src o).nextSub = (s.src o).nextSub)
      ∧ (¬ safe → t.mode = .running
        ∧ ((∀ k, s.linesIn.carrier k = s.carrier k) → ∀ k, t.trunk k = { s.trunk k with
            queue := if (s.trunk k).transmitting then (s.trunk k).queue.take 1 else [] })
        ∧ t.portM.completions.getLast? = some ⟨tag, 0x1C, .done, [1]⟩
        ∧ (t.portG.deliveries = s.portG.deliveries ∧ t.portP.deliveries = s.portP.deliveries
          ∧ t.portM.deliveries = s.portM.deliveries))
      ∧ (s.store.write = none → count < 65535 →
        t.store = { s.store with write := some (.count (count + 1)), bootWaits := false }
        ∧ t.derivs = [.bootstrap (count + 1)])
      ∧ (s.store.write ≠ none → t.store = { s.store with bootWaits := true } ∧ t.derivs = [])
      ∧ (safe → t.mode = .safe ∧ FaultKind.bootLimit ∈ t.fault.latches ∧ t.QuietLaw ∧ (∀ i, t.slot i = .wiped)
        ∧ t.store = { s.store with bootWaits := false } ∧ t.pool.free = 128
        ∧ (∀ k, (t.trunk k).state = .off ∧ (t.trunk k).queue = [] ∧ (t.trunk k).transmitting = false)
        ∧ t.portM.completions = [⟨tag, 0x1C, .done, [2]⟩] ∧ t.portG.completions = [] ∧ t.portP.completions = []
        ∧ (∀ pt, (t.port pt).deliveries = [] ∧ (t.port pt).outstanding = 0 ∧ (t.port pt).marks = 0
          ∧ (t.port pt).latches.delivery = false ∧ (t.port pt).latches.completion = decide (pt = .m))
        ∧ t.fault.deadline = none ∧ t.fault.report = none)

/-- R180, R189, R23, R44, R86, R146, R177, R181: a rising pin of an armed L2 is a tamper in every mode but LOCKDOWN:
every key and every frame is gone, every channel CLOSED, both trunks OFF, the lines IN, the part in LOCKDOWN, TAMPER
raised. Each port frame that is not marked, wherever it stands, gives its port REFUSED CLOSED_WHILE_QUEUED, and the
outstanding counts fall with them. A disarmed L2 only takes its level; in LOCKDOWN a further tamper only raises
TAMPER. The level that the row carries: log 8. -/
def Obligations.TamperWipesAndLocks : Prop :=
  ∀ (s : State) (held : Bool),
    let frames := s.t0.queue ++ s.t1.queue ++ s.srcG.waiting ++ s.srcP.waiting ++ s.srcM.waiting ++ s.srcControl.waiting
      ++ (match s.core with
        | .outbound f _ _ => [f]
        | _ => [])
    let ofPort (pt : Port) := frames.filter fun f => f.src = pt.src
    (s.mode ≠ .lockdown → (s.line 2).fn = true →
      ∃ t, exec (.tamper held) s = .next t ∧ t.mode = .lockdown ∧ t.QuietLaw
        ∧ (∀ i, t.slot i = .wiped) ∧ (∀ c, (t.chan c).limits = (s.chan c).limits)
        ∧ (∀ o, (t.src o).waiting = []) ∧ t.inFifo = [] ∧ t.exch = [] ∧ t.sched.waitList = []
        ∧ (∀ k, (t.trunk k).state = .off ∧ (t.trunk k).queue = [] ∧ (t.trunk k).transmitting = false)
        ∧ t.pool.free = 128 ∧ (∀ pt, (t.port pt).deliveries = [])
        ∧ (∀ pt, (∃ l, (t.port pt).completions = (s.port pt).completions ++ l
            ∧ l.Perm (((ofPort pt).filter fun f => f.marked = false).map fun f =>
              ⟨f.cmdTag, 0x01, .refused .closedWhileQueued, sendData f.loc f.bound⟩))
          ∧ (t.port pt).outstanding = (s.port pt).outstanding - (ofPort pt).length
          ∧ (t.port pt).marks = (s.port pt).marks - ((ofPort pt).filter fun f => f.marked).length
          ∧ (t.port pt).enables = (s.port pt).enables)
        ∧ (∀ c, (s.chan c).state ≠ .closed → (t.port (s.chan c).owner.port).latches.channel = true)
        ∧ (∀ i, (t.line i).dirOut = false ∧ (t.line i).latch = false ∧ (t.line i).fn = (s.line i).fn)
        ∧ FaultKind.tamper ∈ t.fault.latches ∧ t.store.image = s.store.image ∧ t.store.write = s.store.write)
    ∧ (s.mode = .lockdown → (s.line 2).fn = true →
      exec (.tamper held) s = .next ((s.modLine 2 fun l => { l with ext := held }).raise .tamper))
    ∧ ((s.line 2).fn = false → exec (.tamper held) s = .next (s.modLine 2 fun l => { l with ext := held }))

/-! ### Trunks (R136 to R149) -/

/-- R136, R137: carrier rising at a DOWN trunk starts its proving interval; carrier falling puts a PROVING or UP trunk
DOWN with TRUNK_DOWN raised; a pin that does not change the carrier changes nothing else. That CARRIER_FALLING ends
with the consultation of a free core, also where the trunk keeps its state, is the model's inference: log 1; that
TRUNK_DOWN comes before the NO_TRUNK of leaving UP is its choice: log 37. A deadline past the end of uptime is not
bounded by it: log 46. -/
def Obligations.CarrierMovesTheTrunk : Prop :=
  ∀ (s : State) (k : Trunk),
    let pin (b : Bool) : State := s.modLine k.line fun l => { l with ext := b }
    ((pin true).carrier k = s.carrier k → exec (.carrierRising k) s = .next (pin true))
    ∧ ((pin true).carrier k ≠ s.carrier k → (s.trunk k).state = .down →
      exec (.carrierRising k) s = .next ((pin true).modTrunk k fun r => { r with
        state := .proving, proving := some (s.uptime + r.provingInterval) }))
    ∧ ((pin true).carrier k ≠ s.carrier k → (s.trunk k).state ≠ .down →
      exec (.carrierRising k) s = .next (pin true))
    ∧ ((pin false).carrier k = s.carrier k → exec (.carrierFalling k) s = .next (pin false).rest)
    ∧ ((pin false).carrier k ≠ s.carrier k → (s.trunk k).state = .down ∨ (s.trunk k).state = .off →
      exec (.carrierFalling k) s = .next (pin false).rest)
    ∧ ((pin false).carrier k ≠ s.carrier k → (s.trunk k).state = .proving →
      exec (.carrierFalling k) s = .next (State.rest
        (((pin false).modTrunk k fun r => { r with state := .down, proving := none }).raise .trunkDown none (some k))))
    ∧ ((pin false).carrier k ≠ s.carrier k → (s.trunk k).state = .up →
      exec (.carrierFalling k) s = .next (State.rest (State.leaveUp
        (((pin false).modTrunk k fun r => { r with state := .down }).raise .trunkDown none (some k)) k)))

/-- R143, R139: the frames of a trunk that has left UP. Its queue, reservation and transmission end and the core's job
loses its place. With the other trunk UP, every route FOLLOW and room for all, the frames join that trunk's queue in
order; with no trunk UP each is lost. In general, with the other trunk UP, the FOLLOW frames join its queue in order
while places are free, and every other frame is lost: a frame of a pinned route, and a FOLLOW frame without a place.
The command of a lost port frame completes REFUSED LINK_LOST, in order, and its buffer returns. NO_TRUNK is raised,
naming no trunk, exactly when the active trunk goes from a trunk to none, before the frames are decided; no other
latch is set. A transmission that hold had not stopped is cut where the modem had taken it: a free value, log 25, log
5; the trunk that a moved frame's record names: log 45. -/
def Obligations.LeavingUpMovesOrLosesFrames : Prop :=
  ∀ (s : State) (k : Trunk), (s.trunk k).state ≠ .up →
    let t := s.leaveUp k
    let sends := (s.trunk k).transmitting = true ∧ (s.trunk k).hold = false
    let out := if sends then (s.trunk k).out.take (max (s.trunk k).given (Config.taken s.draws)) else (s.trunk k).out
    t.trunk k = { s.trunk k with
      queue := [], reserved := 0, transmitting := false, stall := none, out := out, given := 0 }
    ∧ t.draws = (if sends then s.draws + 1 else s.draws)
    ∧ (∀ f d, s.core = .outbound f (some k) d → t.core = .outbound f none d)
    ∧ (let falls := s.active ≠ none ∧ (s.trunk k.other).state ≠ .up
      let bare : State := { s.modTrunk k fun r => { r with
            queue := [], reserved := 0, transmitting := false, stall := none, out := out, given := 0 } with
        draws := if sends then s.draws + 1 else s.draws
        core := match s.core with
          | .outbound f place d => .outbound f (if place = some k then none else place) d
          | c => c
        active := if (s.trunk k.other).state = .up then some k.other else none }
      (falls → FaultKind.noTrunk ∈ t.fault.latches ∧ ∀ x ∈ t.fault.latches, x = .noTrunk ∨ x ∈ s.fault.latches)
      ∧ (¬ falls → t.fault.latches = s.fault.latches)
      ∧ ((s.trunk k).queue = [] → (falls → t = bare.raise .noTrunk) ∧ (¬ falls → t = bare)))
    ∧ ((s.trunk k.other).state = .up → (∀ f ∈ (s.trunk k).queue, (s.chan f.chan).limits.route = .follow) →
      (s.trunk k.other).queue.length + (s.trunk k.other).reserved + (s.trunk k).queue.length ≤ (s.trunk k.other).depth →
      t.active = some k.other
      ∧ t.trunk k.other = { s.trunk k.other with
          queue := (s.trunk k.other).queue ++ (s.trunk k).queue.map fun f =>
            { f with bound := f.bound.map fun b => { b with trunk := k.other } } }
      ∧ { t with t0 := s.t0, t1 := s.t1, core := s.core, active := s.active, draws := s.draws } = s)
    ∧ (let q := (s.trunk k).queue
      let follows (f : Frame) : Bool := decide ((s.chan f.chan).limits.route = .follow)
      let room := if (s.trunk k.other).state = .up
        then (s.trunk k.other).depth - ((s.trunk k.other).queue.length + (s.trunk k.other).reserved) else 0
      let lost : List Frame := (List.range q.length).filterMap fun i =>
        q[i]?.filter fun f => !(follows f && decide (((q.take i).filter follows).length < room))
      t.active = (if (s.trunk k.other).state = .up then some k.other else none)
      ∧ t.trunk k.other = { s.trunk k.other with
          queue := (s.trunk k.other).queue ++ ((q.filter follows).take room).map fun f =>
            { f with bound := f.bound.map fun b => { b with trunk := k.other } } }
      ∧ (∀ pt, (t.port pt).completions = (s.port pt).completions
          ++ (lost.filter fun f => f.src = pt.src ∧ f.marked = false).map (fun f =>
            ⟨f.cmdTag, 0x01, .refused .linkLost, sendData f.loc f.bound⟩)
        ∧ (t.port pt).outstanding = (s.port pt).outstanding - (lost.filter fun f => f.src = pt.src).length
        ∧ t.pool.held pt.holder = s.pool.held pt.holder - (lost.filter fun f => f.src = pt.src).length))

/-- R142, R143, Table 7-3: a held transmission whose stall time has reached the stall limit raises TRUNK_STALL and
leaves UP for PROVING or DOWN, its frames moved or lost as leaving UP gives, with nothing left in its queue and no end
marker sent; below the limit, and on a trunk that transmits nothing or is not held, nothing happens. R137, R139: hold
and proving. Under hold the modem is given nothing: a hold during a transmission stops it where it stands, a start
under hold gives not even the start marker, and a release gives the rest, so that a second hold leaves with the modem
all that the first had. R141, R192: a transmission starts with the start marker and the frame's header, payload and
tag, and ends with the end marker: SENT completes a port frame's command and returns its buffer, and a CONTROL frame's
outcome goes to its builder. A limit passed acts as the limit reached, a deadline passed as the deadline: log 11, log
10; TRUNK_STALL before NO_TRUNK: log 37; the rows out of place change nothing by the model's choice: log 2; what is
sent stands in the model's field out, and how much of it the modem had taken at a hold is a free value: log 25, log 5.
A deadline past the end of uptime is not bounded by it: log 46. -/
def Obligations.TransmissionsStallsAndProving : Prop :=
  (∀ (s : State) (k : Trunk),
    let stalls := (s.trunk k).state = .up ∧ (s.trunk k).transmitting = true ∧ (s.trunk k).hold = true
      ∧ ∃ n, (s.trunk k).stall = some n ∧ s.settings.stallLimit ≤ n
    (stalls →
      let halted : State := (s.modTrunk k fun r => { r with transmitting := false, stall := none }).raise .trunkStall
        none (some k)
      let t := (halted.modTrunk k fun r => { r with
        state := if s.carrier k then .proving else .down
        proving := if s.carrier k then some (s.uptime + (s.trunk k).provingInterval) else none }).leaveUp k
      exec (.stallLimitReached k) s = .next t.rest ∧ FaultKind.trunkStall ∈ t.fault.latches
        ∧ t.trunk k = { s.trunk k with
            state := if s.carrier k then .proving else .down
            proving := if s.carrier k then some (s.uptime + (s.trunk k).provingInterval) else none
            queue := [], reserved := 0, transmitting := false, stall := none, given := 0 })
    ∧ (¬ stalls → exec (.stallLimitReached k) s = .next s))
  ∧ (∀ (s : State) (k : Trunk),
    let bytes (f : Frame) (b : Binding) (a : Sixteen) : List Machine.Symbol :=
      .startMarker :: (headerBytes f.chan.val f.kind b.epoch b.seq f.payload.length ++ f.payload
        ++ sixteenBytes a).map .byte
    let sends := (s.trunk k).transmitting = true ∧ (s.trunk k).hold = false
    (¬ sends → exec (.holdAsserted k) s = .next (s.modTrunk k fun r => { r with hold := true }))
    ∧ (sends → exec (.holdAsserted k) s = .next { s.modTrunk k fun r => { r with
        hold := true
        out := r.out.take (max r.given (Config.taken s.draws))
        given := min (max r.given (Config.taken s.draws)) r.out.length } with draws := s.draws + 1 })
    ∧ (∀ t u v, sends → exec (.holdAsserted k) s = .next t → exec (.holdReleased k) t = .next u →
      exec (.holdAsserted k) u = .next v → (t.trunk k).out <+: (v.trunk k).out)
    ∧ ((s.trunk k).transmitting = false ∨ (s.trunk k).queue = [] → exec (.holdReleased k) s
      = .next (s.modTrunk k fun r => { r with hold := false, stall := r.stall.map fun _ => 0 }))
    ∧ (∀ f b a rest, (s.trunk k).transmitting = true → (s.trunk k).queue = f :: rest → f.bound = some b →
      f.auth = some a → exec (.holdReleased k) s = .next (s.modTrunk k fun r => { r with
        hold := false, stall := r.stall.map fun _ => 0, out := r.out ++ (bytes f b a).drop r.out.length }))
    ∧ (∀ f b a rest, (s.trunk k).state = .up → (s.trunk k).transmitting = false → (s.trunk k).queue = f :: rest →
      f.bound = some b → f.auth = some a →
      exec (.transmissionStart k) s = .next (s.modTrunk k fun r => { r with
        transmitting := true, stall := some 0, out := if r.hold then [] else bytes f b a, given := 0 }))
    ∧ ((s.trunk k).state ≠ .up ∨ (s.trunk k).transmitting = true ∨ (s.trunk k).queue = [] →
      exec (.transmissionStart k) s = .next s)
    ∧ (∀ d, (s.trunk k).state = .proving → (s.trunk k).proving = some d → d ≤ s.uptime →
      exec (.provingDeadline k) s = .next (State.rest
        { s.modTrunk k fun r => { r with state := .up, proving := none } with
          active := if k = .t0 ∨ s.t0.state = .up then some .t0 else some .t1 }))
    ∧ (∀ f b a rest, (s.trunk k).queue = f :: rest → (s.trunk k).transmitting = true → (s.trunk k).hold = false →
      f.bound = some b → f.auth = some a →
      let left := s.modTrunk k fun r => { r with
        queue := rest, transmitting := false, stall := none, out := bytes f b a ++ [.endMarker], given := 0 }
      (∀ pt, f.src = Port.src pt → 0 < s.pool.held pt.holder →
        exec (.transmissionEnd k) s = .next (State.rest (State.modPort
          { left with
            pool := { s.pool.setHeld pt.holder (s.pool.held pt.holder - 1) with free := s.pool.free + 1 } } pt
          fun r =>
            if f.marked then { r with outstanding := r.outstanding - 1, marks := r.marks - 1 }
            else { r with
              outstanding := r.outstanding - 1
              completions := r.completions ++ [⟨f.cmdTag, 0x01, .sent, sendData f.loc f.bound⟩]
              latches := { r.latches with completion := true } })))
      ∧ (f.src = .control → 0 < s.pool.heldControl →
        let returned : State := { left with
          pool := { s.pool with heldControl := s.pool.heldControl - 1, free := s.pool.free + 1 } }
        exec (.transmissionEnd k) s
          = .next (if f.kind = .faultReport then returned.reportOutcome true else returned).rest))
    ∧ ((s.trunk k).queue = [] ∨ (s.trunk k).transmitting = false ∨ (s.trunk k).hold = true →
      exec (.transmissionEnd k) s = .next s))

/-! ### Reception (R147, R148, R60 to R69, R97) -/

/-- R147, R148, R73, R149, R192, Table 7-4: the precheck of a received frame. A frame fails tests 1 to 3 exactly when
its byte count is not 10 + L + 16, L is not 1 to 2,048, its channel is above 31, its kind is none of the ten, or DATA
is on channel 0 or a control kind on another; otherwise its fields are those of Table 11-1. Each failing test counts
its cause at the trunk and changes nothing else, but for RX_OVERRUN at the sixth; a frame that passes takes one
INBOUND buffer and joins the end of the inbound FIFO. An OFF trunk receives nothing. -/
def Obligations.PrecheckCountsOrAccepts : Prop :=
  (∀ (k : Trunk) (bytes : List Byte),
    let byte (i : Nat) : Nat := (bytes.getD i 0).toNat
    let len := 256 * byte 8 + byte 9
    (parseFrame k bytes = none ↔ bytes.length ≠ 10 + len + 16 ∨ len = 0 ∨ 2048 < len ∨ 31 < byte 0
      ∨ byte 1 ∉ [0x01, 0x10, 0x11, 0x20, 0x21, 0x22, 0x23, 0x24, 0x30, 0x31] ∨ (byte 1 = 0x01 ∧ byte 0 = 0)
      ∨ (byte 1 ≠ 0x01 ∧ byte 0 ≠ 0))
    ∧ (∀ f, parseFrame k bytes = some f → f.trunk = k ∧ f.chan.val = byte 0 ∧ f.kind.code = byte 1
      ∧ f.epoch = 256 * byte 2 + byte 3 ∧ f.seq = 256 * (256 * (256 * byte 4 + byte 5) + byte 6) + byte 7
      ∧ f.payload = (bytes.drop 10).take len ∧ sixteenBytes f.auth = bytes.drop (10 + len)))
  ∧ ∀ (s : State) (k : Trunk) (bytes : List Byte),
    let counted (n : Counters → Counters) : State := s.modTrunk k fun r => { r with counters := n r.counters }
    let up (n : Nat) := min (n + 1) 65535
    ((s.trunk k).state = .off →
      exec (.frameReceived k bytes) s = .next s ∧ exec (.partialFrameDiscarded k) s = .next s)
    ∧ ((s.trunk k).state ≠ .off →
      exec (.partialFrameDiscarded k) s = .next (counted fun n => { n with badHeader := up n.badHeader })
      ∧ (parseFrame k bytes = none →
        exec (.frameReceived k bytes) s = .next (counted fun n => { n with badHeader := up n.badHeader }))
      ∧ (∀ f, parseFrame k bytes = some f →
        (s.matchSlot f.chan f.epoch = none →
          exec (.frameReceived k bytes) s = .next (counted fun n => { n with unknownEpoch := up n.unknownEpoch }))
        ∧ (∀ i w, s.matchSlot f.chan f.epoch = some i → (s.slot i).keyed = some w →
          (f.seq = 0 ∨ f.seq + 64 ≤ w.top →
            exec (.frameReceived k bytes) s = .next (counted fun n => { n with late := up n.late }))
          ∧ (1 ≤ f.seq → f.seq ≤ w.top → w.top < f.seq + 64 → w.marks.getLsbD (w.top - f.seq) = true →
            exec (.frameReceived k bytes) s = .next (counted fun n => { n with repeated := up n.repeated }))
          ∧ (w.top < f.seq ∨ (1 ≤ f.seq ∧ f.seq ≤ w.top ∧ w.top < f.seq + 64
                ∧ w.marks.getLsbD (w.top - f.seq) = false) →
            (s.pool.heldInbound < s.pool.allocInbound → 0 < s.pool.free →
              exec (.frameReceived k bytes) s = .next { s with
                inFifo := s.inFifo ++ [f]
                pool := { s.pool with heldInbound := s.pool.heldInbound + 1, free := s.pool.free - 1 } })
            ∧ (s.pool.allocInbound ≤ s.pool.heldInbound ∨ s.pool.free = 0 →
              exec (.frameReceived k bytes) s
                = .next ((counted fun n => { n with overrun := up n.overrun }).raise .rxOverrun (some f.chan)
                    (some k)))))))

/-- R63: the window. What is accepted; an accepted number, once recorded, is refused for ever after; what was refused
before stays refused; and recording refuses nothing else that the window did not pass by. -/
def Obligations.WindowAcceptsEachNumberOnce : Prop :=
  ∀ (k : Keyed) (q p : Nat), k.judge q = .accept →
    let after := k.record q
    (k.judge p = .accept ↔ k.top < p ∨ (1 ≤ p ∧ p ≤ k.top ∧ k.top < p + 64 ∧ k.marks.getLsbD (k.top - p) = false))
    ∧ after.top = max k.top q ∧ after.judge q ≠ .accept
    ∧ (k.judge p ≠ .accept → after.judge p ≠ .accept)
    ∧ (k.judge p = .accept → p ≠ q → after.top < p + 64 → after.judge p = .accept)

/-- R61, R55, R81, R84: the inbound job of the FIFO's head starts under the slot that matches it, with the accounts of
INBOUND charged and the others' as they were; without such a slot the frame is dropped, its buffer returns and
UNKNOWN_EPOCH is counted, and the arbiter chooses again. With no requester ready the round ends and what the
consultation left stands. At a core that is not free, and where an outbound frame is chosen, nothing changes: log 2,
log 1. -/
def Obligations.InboundJobStartMatchesOrDrops : Prop :=
  (∀ s : State, (s.coreFree = false → exec .inboundJobStart s = .next s)
    ∧ (∀ a, s.coreFree = true → s.arbitrate = (a, none) →
      exec .inboundJobStart s = .next { a with arb := { a.arb with spent := ⟨0, 0, 0, 0⟩, total := 0 } })
    ∧ (∀ a x, s.arbitrate = (a, some x) → x ≠ .inbound → exec .inboundJobStart s = .next s))
  ∧ ∀ (s a : State) (f : InFrame) (fs : List InFrame), s.coreFree = true → s.arbitrate = (a, some .inbound) →
    a.inFifo = f :: fs →
    (∀ i, a.matchSlot f.chan f.epoch = some i → ∃ t, exec .inboundJobStart s = .next t
      ∧ t.core = .inbound f i ∧ t.inFifo = fs ∧ t.slot i = { a.slot i with inFlight := true }
      ∧ (∀ j, j ≠ i → t.slot j = a.slot j) ∧ t.arb.last = .inbound
      ∧ (a.arb.total + f.cost < 512 → t.arb.total = a.arb.total + f.cost
        ∧ t.arb.spent = { a.arb.spent with inbound := a.arb.spent.inbound + f.cost })
      ∧ (512 ≤ a.arb.total + f.cost → t.arb.total = 0 ∧ t.arb.spent = ⟨0, 0, 0, 0⟩)
      ∧ { t with core := a.core, inFifo := a.inFifo, slots := a.slots, arb := a.arb } = a)
    ∧ (a.matchSlot f.chan f.epoch = none → 0 < a.pool.heldInbound →
      exec .inboundJobStart s = .next (State.rest (State.modTrunk
        { a with
          inFifo := fs
          pool := { a.pool with heldInbound := a.pool.heldInbound - 1, free := a.pool.free + 1 } } f.trunk
        fun r => { r with counters := { r.counters with unknownEpoch := min (r.counters.unknownEpoch + 1) 65535 } })))

/-- R62 to R69, R97, R29, R38: the end of an inbound job. A passing tag records the number in the slot's window and
hands the deciphered payload on: DATA to the owner's port, a control message to the turnover engine; under a STAGED
slot the first one is the cutover (R65), after which it is handed on like any other. A number that the window
meanwhile refuses is counted REPEAT or LATE, and under a slot with wipe pending UNKNOWN_EPOCH; a frame for a port with
DELIVER off or 24 deliveries raises DELIVERY_OVERRUN. A failing tag drops the frame, counts TAG and raises the
channel's bucket; at 16 it returns to 0, TAG_FAILURES is raised and SUSPECT is requested. A cutover that waited for
the SETTLING slot of the job is taken then (R29), after the record or the wipe. The core is then free. The order of
the effects: log 16, log 41; DELIVER off and a full queue: log 32. A deadline past the end of uptime is not bounded by
it: log 46. -/
def Obligations.InboundJobEndDeliversOrDrops : Prop :=
  ∀ (s : State) (f : InFrame) (i : SlotId) (k : Keyed), s.core = .inbound f i → (s.slot i).keyed = some k →
    (s.slot i).state ≠ .empty → 0 < s.pool.heldInbound →
    let noneWaits := ∀ e ∈ s.exch, e.cutoverWaits = false
    let up (n : Nat) := min (n + 1) 65535
    let passes := frameTag (s.slot i).tagKey f.header f.payload = f.auth
    let wipes := (s.slot i).wipePending = true
    let inUse := (s.slot i).state = .active ∨ (s.slot i).state = .settling
    let returned := { s.pool with heldInbound := s.pool.heldInbound - 1, free := s.pool.free + 1 }
    let plain := cipher (s.slot i).ksKey f.chan.val 1 f.epoch f.seq f.payload
    let recorded : State := { s.modSlot i fun x => { x with keyed := some (k.record f.seq), inFlight := false } with
      core := .idle }
    let turned (t : State) : Prop := t.core = .idle
      ∧ t.slot i = { s.slot i with
          state := .active, inFlight := false, keyed := some { k.record f.seq with age := 0, nextSeq := 1 } }
      ∧ (∀ old, s.slotOf f.chan .active = some old →
        t.slot old = { s.slot old with state := .settling, settle := some (s.uptime + s.settings.settle) })
      ∧ (t.chan f.chan).cur = some i ∧ (t.chan f.chan).next = none ∧ (t.chan f.chan).prev = (s.chan f.chan).cur
      ∧ (t.chan f.chan).renewal = .idle
      ∧ (t.chan f.chan).state = (if (s.chan f.chan).state = .openWait ∨ (s.chan f.chan).state = .frozen then .live
          else (s.chan f.chan).state)
      ∧ t.exch = s.exch.filter (fun x => x.chan ≠ f.chan)
      ∧ (t.port (s.chan f.chan).owner.port).latches.channel = true
    let dropped (n : Counters → Counters) : State := State.modTrunk
      (if (s.slot i).wipePending then
        { s.modSlot i fun _ => .wiped with
          core := .idle, derivs := s.derivs.filter (fun d => !d.into i), pool := returned }
      else { s.modSlot i fun x => { x with inFlight := false } with core := .idle, pool := returned })
      f.trunk fun r => { r with counters := n r.counters }
    (noneWaits →
    (∀ pt v, ¬ wipes → inUse → passes → k.judge f.seq = .accept → f.kind = .data →
      (s.chan f.chan).owner.deliverTo = some pt → (s.port pt).enables.deliver = true →
      (s.port pt).deliveries.length < 24 → s.settings.view pt = some v →
      exec .inboundJobEnd s = .next (State.rest (recorded.modPort pt fun r => { r with
        deliveries := r.deliveries ++ [⟨v.localOf f.chan.val, plain⟩]
        latches := { r.latches with delivery := true } })))
    ∧ (∀ pt, ¬ wipes → inUse → passes → k.judge f.seq = .accept → f.kind = .data →
      (s.chan f.chan).owner.deliverTo = some pt →
      let off := (s.port pt).enables.deliver = false
      off ∨ 24 ≤ (s.port pt).deliveries.length →
      exec .inboundJobEnd s = .next (State.rest (State.raise
        { recorded.modPort pt fun r => { r with missed := if off then up r.missed else r.missed } with pool := returned }
        .deliveryOverrun (some f.chan) none (some pt))))
    ∧ (¬ wipes → inUse → passes → k.judge f.seq = .accept → f.kind ≠ .data →
      exec .inboundJobEnd s = .next (State.rest (State.engine { recorded with pool := returned } f.kind plain)))
    ∧ (¬ wipes → passes → k.judge f.seq = .repeated →
      exec .inboundJobEnd s = .next (dropped fun n => { n with repeated := up n.repeated }).rest)
    ∧ (¬ wipes → passes → k.judge f.seq = .late →
      exec .inboundJobEnd s = .next (dropped fun n => { n with late := up n.late }).rest)
    ∧ (wipes → passes →
      exec .inboundJobEnd s = .next (dropped fun n => { n with unknownEpoch := up n.unknownEpoch }).rest)
    ∧ (¬ passes → (s.chan f.chan).bucket < 15 →
      exec .inboundJobEnd s = .next (State.rest ((dropped fun n => { n with tag := up n.tag }).modChan f.chan
        fun ch => { ch with bucket := ch.bucket + 1 })))
    ∧ (¬ passes → 15 ≤ (s.chan f.chan).bucket → ∃ t : State, exec .inboundJobEnd s = .next t.rest
      ∧ FaultKind.tagFailures ∈ t.fault.latches ∧ t.core = .idle ∧ t.pool = returned
      ∧ t.slot i = (dropped id).slot i ∧ (∀ j, j ≠ i → t.slot j = s.slot j) ∧ (∀ d, d ≠ f.chan → t.chan d = s.chan d)
      ∧ t.trunk f.trunk = { s.trunk f.trunk with
          counters := { (s.trunk f.trunk).counters with tag := up (s.trunk f.trunk).counters.tag } }
      ∧ ((s.chan f.chan).state = .live ∨ (s.chan f.chan).state = .frozen →
        (s.chan f.chan).renewal = .idle ∨ (s.chan f.chan).renewal = .paused ∨ (s.chan f.chan).renewal = .stopped →
        s.sched.waitList.length < 31 →
        t.chan f.chan = { s.chan f.chan with bucket := 0, renewal := .listed, pause := none, pauseReason := none }
        ∧ t.sched.waitList = (s.sched.waitList.filter fun e => e.reason.urgent)
          ++ ⟨f.chan, .suspect⟩ :: s.sched.waitList.filter fun e => !e.reason.urgent)
      ∧ ((s.chan f.chan).state = .closed ∨ (s.chan f.chan).state = .booting ∨ (s.chan f.chan).renewal = .exchanging →
        t.chan f.chan = { s.chan f.chan with bucket := 0 } ∧ t.sched = s.sched))
    ∧ (¬ wipes → passes → k.judge f.seq = .accept → f.kind = .data →
      (s.slot i).state = .staged → s.stagedSlot f.chan = some i →
      ∃ t : State, exec .inboundJobEnd s = .next t.rest ∧ turned t
        ∧ (∀ pt v, (s.chan f.chan).owner.deliverTo = some pt → (s.port pt).enables.deliver = true →
          (s.port pt).deliveries.length < 24 → s.settings.view pt = some v →
          (t.port pt).deliveries = (s.port pt).deliveries ++ [⟨v.localOf f.chan.val, plain⟩]
          ∧ (t.port pt).latches.delivery = true ∧ (f.chan ≠ 0 → t.pool = s.pool)))
    ∧ (¬ wipes → passes → k.judge f.seq = .accept → f.kind ≠ .data →
      (s.slot i).state = .staged → s.stagedSlot f.chan = some i →
      ∃ t : State, exec .inboundJobEnd s = .next (State.rest (t.engine f.kind plain)) ∧ turned t
        ∧ (¬ (f.chan = 0 ∧ (s.chan f.chan).state = .frozen) → t.pool = returned ∧ t.srcControl = s.srcControl)))
    ∧ (∀ e new y pt v, passes → (s.slot i).state = .settling → (s.slot i).chan = some e.chan →
      (s.exch.find? fun x => x.cutoverWaits) = some e → s.stagedSlot e.chan = some new → (s.slot new).keyed = some y →
      (∀ j, j ≠ i → (s.slot j).inFlight = false) → (¬ wipes → k.judge f.seq = .accept) → f.kind = .data →
      (s.chan f.chan).owner.deliverTo = some pt → (s.port pt).enables.deliver = true →
      (s.port pt).deliveries.length < 24 → s.settings.view pt = some v →
      ∃ t : State, exec .inboundJobEnd s = .next t.rest ∧ t.core = .idle ∧ t.slot i = .wiped
        ∧ t.slot new = { s.slot new with state := .active, keyed := some { y with age := 0, nextSeq := 1 } }
        ∧ (t.chan e.chan).cur = some new ∧ t.exch = s.exch.filter (fun x => x.chan ≠ e.chan)
        ∧ (t.port pt).deliveries = (s.port pt).deliveries ++ (if wipes then [] else [⟨v.localOf f.chan.val, plain⟩])
        ∧ (wipes → e.chan ≠ 0 → t.pool = returned))

/-! ### Wear, time and renewal (R2, R91 to R108, R30, R102) -/

/-- R2, R93, R94: the soft limit, the estimate and the projection, with the properties the rules state of them. -/
def Obligations.SoftLimitEstimateAndProjection : Prop :=
  (∀ l : Limits, l.soft = l.hard - l.hard * l.margin / 64
    ∧ (l.margin ≤ 32 → l.hard ≤ 2 * l.soft) ∧ (1 ≤ l.margin → l.soft + l.hard / 64 ≤ l.hard)
    ∧ (1 ≤ l.margin → 65536 ≤ l.hard → l.soft + 1024 ≤ l.hard)
    ∧ (l.hard = 1048576 → l.margin = 8 → l.soft = 917504) ∧ (l.hard = 65536 → l.margin = 1 → l.soft = 64512))
  ∧ (∀ e x : Nat, e ≤ 268435455 → x ≤ 268435455 →
    (e ≤ x → estimate e x = e + (x - e) / 8 ∧ estimate e x ≤ x)
    ∧ (x ≤ e → estimate e x = e - (e - x) / 8 ∧ x ≤ estimate e x)
    ∧ estimate e 0 = e - e / 8 ∧ (e ≤ 7 → estimate e 0 = e) ∧ estimate 0 16 = 2 ∧ estimate e x ≤ 268435455)
  ∧ (∀ (ch : Chan) (l : Limits) (f : LimitFields) (i : SlotId), (ch.cutOver i).rate = ch.rate ∧ (ch.opened l f).rate = 0
    ∧ ch.shut.rate = 0 ∧ (ch.booted l i).rate = 0)
  ∧ (∀ h w e : Nat, w ≤ h → projection h w 0 = 65535
    ∧ (0 < e → projection h w e = min ((h - w) * 16 / e) 65535 ∧ (projection h w e = 0 ↔ (h - w) * 16 < e)))

/-- R190, R91, R92, R93, R97: at each step of uptime every LIVE or FROZEN channel takes its sample into the estimate,
starts its units at 0 and lowers its bucket; the others keep all three. R95, R96, R14, R99: the evaluation of one such
channel with a current slot ages the slot by one second, and lists an IDLE channel by the first trigger of the table
that holds (FROZEN, WEAR, PROJECTED, AGE); the ROUTINE entry of a LISTED channel that is FROZEN moves to the URGENT
part with reason HARD, and nothing else of the wait list changes. R100: an OPEN_WAIT channel with status IDLE requests
OPEN again. R107, R108: the ahead step starts an exchange for the first halfway worn or aged LIVE channel of the walk,
and for at most AHEAD_MAX channels. The order within the second, and of the channels in it: log 9, log 38; that the
deadlines of the second come after it: log 44. A deadline past the end of uptime is not bounded by it: log 46. A
second at the saturated uptime is a step: log 47. -/
def Obligations.UptimeStepEvaluatesEveryChannel : Prop :=
  (∀ s : State, ∃ t, exec .uptimeStep s = .next t ∧ t.uptime = min (s.uptime + 1) 4294967295 ∧ t.mode = s.mode
    ∧ (∀ c, (s.chan c).state = .live ∨ (s.chan c).state = .frozen →
      (t.chan c).rate = estimate (s.chan c).rate (min (16 * (s.chan c).units) 268435455)
      ∧ (t.chan c).units = 0 ∧ (t.chan c).bucket = (s.chan c).bucket - 1)
    ∧ (∀ c, (s.chan c).state ≠ .live → (s.chan c).state ≠ .frozen →
      (t.chan c).rate = (s.chan c).rate ∧ (t.chan c).units = (s.chan c).units
      ∧ (t.chan c).bucket = (s.chan c).bucket ∧ (t.chan c).state = (s.chan c).state)
    ∧ (∀ c, (t.chan c).limits = (s.chan c).limits ∧ (t.chan c).owner = (s.chan c).owner
      ∧ (t.chan c).cur = (s.chan c).cur)
    ∧ t.inFifo = s.inFifo ∧ t.core = s.core ∧ t.t0 = s.t0 ∧ t.t1 = s.t1)
  ∧ (∀ (s : State) (c : ChanId) (i : SlotId) (k : Keyed),
    (s.chan c).state = .live ∨ (s.chan c).state = .frozen → (s.chan c).cur = some i → (s.slot i).keyed = some k →
    let t := s.evaluate c
    let l := (s.chan c).limits
    let age := min (k.age + 1) max32
    let rate := estimate (s.chan c).rate (sampleOf (s.chan c).units)
    let reason : Option Reason :=
      if (s.chan c).state = .frozen then some .hard
      else if l.soft ≤ k.wear then some .wear
      else if projection l.hard k.wear rate ≤ l.lead then some .projected
      else if l.age ≤ age then some .age
      else none
    t.slot i = { s.slot i with keyed := some { k with age := age } } ∧ (∀ j, j ≠ i → t.slot j = s.slot j)
    ∧ (∀ d, d ≠ c → t.chan d = s.chan d)
    ∧ (let stays := t.sched = s.sched ∧ (t.chan c).renewal = (s.chan c).renewal
      ((s.chan c).renewal = .idle →
        (reason = none ∨ 31 ≤ s.sched.waitList.length → stays)
        ∧ (∀ r, reason = some r → s.sched.waitList.length < 31 → (t.chan c).renewal = .listed
          ∧ t.sched.waitList = (if r.urgent then (s.sched.waitList.filter fun e => e.reason.urgent) ++ ⟨c, r⟩
                :: (s.sched.waitList.filter fun e => !e.reason.urgent)
              else s.sched.waitList ++ [⟨c, r⟩])))
      ∧ (∀ e, (s.chan c).renewal = .listed → (s.chan c).state = .frozen → s.entryOf c = some e →
        (e.reason.urgent = true → stays)
        ∧ (e.reason.urgent = false → (t.chan c).renewal = .listed
          ∧ (let l := s.sched.waitList.filter fun x => x.chan ≠ c
            t.sched = { s.sched with waitList := (l.filter fun x => x.reason.urgent) ++ ⟨c, .hard⟩
              :: (l.filter fun x => !x.reason.urgent) })
          ∧ (t.port (s.chan c).owner.port).latches.channel = true))
      ∧ ((s.chan c).renewal ≠ .idle → ¬ ((s.chan c).renewal = .listed ∧ (s.chan c).state = .frozen) → stays)))
  ∧ (∀ s : State, ∃ t : State, exec .uptimeStep s = .next t.rest
    ∧ t = State.reportTest (State.aheadStep (State.startTest 4 (allChans.foldl State.retryOpen
        (allChans.foldl State.evaluate { s with uptime := min (s.uptime + 1) 4294967295 })))) false)
  ∧ (∀ (s : State) (c : ChanId),
    let waits := (s.chan c).state = .openWait ∧ (s.chan c).renewal = .idle
    (waits → s.sched.waitList.length < 31 →
      (s.retryOpen c).chan c = { s.chan c with renewal := .listed, pause := none, pauseReason := none }
      ∧ (∀ d, d ≠ c → (s.retryOpen c).chan d = s.chan d)
      ∧ (s.retryOpen c).sched.waitList = (s.sched.waitList.filter fun e => e.reason.urgent)
        ++ ⟨c, .openKey⟩ :: s.sched.waitList.filter fun e => !e.reason.urgent)
    ∧ (¬ waits ∨ 31 ≤ s.sched.waitList.length → s.retryOpen c = s))
  ∧ (∀ (n : Nat) (rotating : Bool), n ≤ 31 →
    let walk := aheadWalk n rotating
    walk.length = 31 ∧ (∀ c : ChanId, c ∈ walk ↔ c ≠ 0)
    ∧ (walk.head?.map fun c => c.val) = some (if rotating = true ∧ n ≠ 31 then n + 1 else 1)
    ∧ ∀ (i : Nat) (c d : ChanId), walk[i]? = some c → walk[i + 1]? = some d →
      d.val = if c.val = 31 then 1 else c.val + 1)
  ∧ (∀ s : State, s.mode = .running →
    let walk := aheadWalk s.sched.ahead s.settings.aheadRotating
    let most := min s.settings.aheadMax (4 - s.exch.length)
    let worn (c : ChanId) := (s.chan c).state = .live ∧ (s.chan c).renewal = .idle
      ∧ ∃ k, s.curKeyed c = some k ∧ ((s.chan c).limits.soft ≤ 2 * k.wear ∨ (s.chan c).limits.age ≤ 2 * k.age)
    let takes := s.sched.waitList = [] ∧ (s.chan 0).state = .live ∧ 0 < most
    (¬ takes ∨ (∀ c ∈ walk, ¬ worn c) ∨ (∀ i, (s.slot i).state ≠ .empty) → s.aheadStep = s)
    ∧ (∀ before c after (i : SlotId), takes → walk = before ++ c :: after → (∀ d ∈ before, ¬ worn d) → worn c →
      (s.slot i).state = .empty → (∀ j, j < i → (s.slot j).state ≠ .empty) →
      let t := s.aheadStep
      t.slot i = { Slot.wiped with state := .reserved, chan := some c }
      ∧ t.chan c = { s.chan c with renewal := .exchanging } ∧ t.sched.waitList = []
      ∧ ∃ more, t.exch = s.exch ++ ⟨c, .ahead, .asking, 1, Config.nonce s.draws, i, none, none,
            some (s.uptime + s.settings.reply + 2), none, false⟩ :: more
        ∧ more.length + 1 ≤ most ∧ (∀ x ∈ more, x.reason = .ahead ∧ worn x.chan ∧ x.chan ∈ after)
        ∧ (∀ d, d ≠ c → (∀ x ∈ more, x.chan ≠ d) → t.chan d = s.chan d)
        ∧ t.sched.ahead = (if s.settings.aheadRotating
            then ((more.getLast?.map fun x => x.chan.val).getD c.val) else s.sched.ahead)))

/-- R30, R102, R100: a settle deadline wipes its slot (or orders the wipe under a job) and ends the previous role; a
pause deadline lists a FROZEN channel with reason HARD, an OPEN_WAIT one with OPEN and another with its paused reason,
returns it to IDLE after AHEAD, and leaves it as it is when the list is full; before its deadline neither does
anything. Acting at or after a deadline, and a row out of place: log 10, log 2. -/
def Obligations.SettleAndPauseDeadlines : Prop :=
  (∀ (s : State) (i : SlotId) (c : ChanId) (d : Nat), (s.slot i).state = .settling → (s.slot i).settle = some d →
    (s.slot i).chan = some c →
    (d ≤ s.uptime → ∃ t, exec (.settleDeadline i) s = .next t
      ∧ t.slot i = (if (s.slot i).inFlight then { s.slot i with wipePending := true } else .wiped)
      ∧ (∀ j, j ≠ i → t.slot j = s.slot j) ∧ t.chan c = { s.chan c with prev := none }
      ∧ (∀ e, e ≠ c → t.chan e = s.chan e)
      ∧ { t with slots := s.slots, chans := s.chans, derivs := s.derivs, core := s.core } = s)
    ∧ (s.uptime < d → exec (.settleDeadline i) s = .next s))
  ∧ (∀ (s : State) (c : ChanId) (d : Nat) (r : Reason), (s.chan c).renewal = .paused → (s.chan c).pause = some d →
    (s.chan c).pauseReason = some r →
    let asks : Option Reason :=
      if (s.chan c).state = .frozen then some .hard
      else if (s.chan c).state = .openWait then some .openKey
      else if r = .ahead then none
      else some r
    (s.uptime < d → exec (.pauseDeadline c) s = .next s)
    ∧ (d ≤ s.uptime → (s.chan c).state = .live ∨ (s.chan c).state = .frozen ∨ (s.chan c).state = .openWait →
      ∃ t, exec (.pauseDeadline c) s = .next t ∧ (∀ e, e ≠ c → t.chan e = s.chan e)
      ∧ { t with chans := s.chans, sched := s.sched, portG := s.portG, portP := s.portP, portM := s.portM } = s
      ∧ (asks = none → t.chan c = { s.chan c with renewal := .idle, pause := none, pauseReason := none }
        ∧ t.sched = s.sched ∧ (t.port (s.chan c).owner.port).latches.channel = true)
      ∧ (∀ q, asks = some q → s.sched.waitList.length < 31 →
        t.chan c = { s.chan c with renewal := .listed, pause := none, pauseReason := none }
        ∧ t.sched = { s.sched with waitList :=
            if q.urgent then (s.sched.waitList.filter fun e => e.reason.urgent) ++ ⟨c, q⟩
              :: (s.sched.waitList.filter fun e => !e.reason.urgent)
            else s.sched.waitList ++ [⟨c, q⟩] }
        ∧ (t.port (s.chan c).owner.port).latches.channel = true)
      ∧ (∀ q, asks = some q → 31 ≤ s.sched.waitList.length → t = s)))

/-! ### Turnover (R105, R114 to R124, R28, R29, R130) -/

/-- R105, R114, R26, R106: a start test. The candidate is the head of the wait list with channel 0 LIVE, the entry of
channel 0 wherever it stands with channel 0 FROZEN, and none in another state or without such an entry. It takes a
place in the exchange table and the lowest-numbered EMPTY slot, and its TURN_ASK is built with a new nonce, or goes on
as if it had been where no CONTROL buffer is lent (R111); with no EMPTY slot KEY_STORE_FULL is raised, at most once a
second; without a candidate or with the table full nothing but the consultation of the event follows (log 1). One
start a row: log 1; the nonce is a free value: log 5. A deadline past the end of uptime is not bounded by it: log 46. -/
def Obligations.ExchangeStartTakesTheHead : Prop :=
  ∀ s : State, s.SlotLaw → s.mode = .running →
    let live := (s.chan 0).state = .live
    let frozen := (s.chan 0).state = .frozen
    ((live ∧ s.sched.waitList = []) ∨ (frozen ∧ ∀ x ∈ s.sched.waitList, x.chan ≠ 0) ∨ (¬ live ∧ ¬ frozen) →
      exec .exchangeStart s = .next s.rest)
    ∧ ∀ (before : List WaitEntry) (e : WaitEntry) (more : List WaitEntry),
      s.sched.waitList = before ++ e :: more → (∀ x ∈ before ++ more, x.chan ≠ e.chan) →
      (live ∧ before = []) ∨ (frozen ∧ e.chan = 0) →
      (4 ≤ s.exch.length → exec .exchangeStart s = .next s.rest)
      ∧ (s.exch.length < 4 → (∀ i, (s.slot i).state ≠ .empty) →
        exec .exchangeStart s = .next (if s.sched.lastFull = some s.uptime then s.rest else State.rest
          (State.raise { s with sched := { s.sched with lastFull := some s.uptime } } .keyStoreFull (some e.chan))))
      ∧ (∀ i : SlotId, s.exch.length < 4 → (s.slot i).state = .empty → (∀ j, j < i → (s.slot j).state ≠ .empty) →
        let nonce := Config.nonce s.draws
        let epoch := match s.curKeyed e.chan with | some k => k.epoch | none => 0
        ∃ t : State, exec .exchangeStart s = .next t.rest
          ∧ t.slot i = { Slot.wiped with state := .reserved, chan := some e.chan } ∧ (∀ j, j ≠ i → t.slot j = s.slot j)
          ∧ t.exch = s.exch ++ [⟨e.chan, e.reason, .asking, 1, nonce, i, none, none,
              some (s.uptime + s.settings.reply + 2), none, false⟩]
          ∧ t.sched = { s.sched with waitList := before ++ more } ∧ t.draws = s.draws + 1
          ∧ t.chan e.chan = { s.chan e.chan with renewal := .exchanging } ∧ (∀ d, d ≠ e.chan → t.chan d = s.chan d)
          ∧ s.Builds t .turnAsk (turnAskPayload e.chan.val epoch e.reason nonce))

/-- R118 to R124, R131, R112: the messages of head office. With channel 0 LIVE or FROZEN, an expected TURN_GIVE is
taken (the entry has its new epoch and no deadline, the derivation waits), one repeated under CONFIRMING has TURN_DONE
built again where a CONTROL buffer is lent, one without an entry or unexpected raises PROTOCOL; a BUSY is as a reached
ASKING deadline or is dropped; a DENIED ends the exchange, wipes its slot and leaves the channel STOPPED. A TURN_ORDER
requests ORDERED for each channel of its list, or for all. With channel 0 BOOTING, a HELLO_ACK with the count in use
makes it LIVE, ends the bootstrap and lists channel 0 first, whose exchange then starts; another raises PROTOCOL. So
do the other cells of R112: a HELLO_ACK with channel 0 LIVE or FROZEN, a TURN_GIVE, TURN_REFUSE or TURN_ORDER with
channel 0 BOOTING, a kind that only the store sends, a wrong length of HELLO_ACK, TURN_GIVE or TURN_REFUSE, and a
channel above 31; nothing but the fault unit changes. The channel that PROTOCOL names: log 17; the report test before
the start test: log 12. A deadline past the end of uptime is not bounded by it: log 46. -/
def Obligations.EngineDecidesTheMessages : Prop :=
  (∀ (s : State) (kind : Kind) (b : Byte) (more : List Byte),
    let serves := (s.chan 0).state = .live ∨ (s.chan 0).state = .frozen
    let boots := (s.chan 0).state = .booting
    let length := more.length + 1
    let unfit := s.engine kind (b :: more) = s.raise .protocol
      (if kind ∈ [.turnAsk, .turnGive, .turnDone, .turnRefuse, .closeNote] then (List.finRange 32)[b.toNat]? else none)
    (serves ∨ boots → kind ∈ [.hello, .turnAsk, .turnDone, .faultReport, .closeNote] → unfit)
    ∧ (serves → kind = .helloAck → unfit)
    ∧ (serves → kind = .turnGive → length ≠ 19 ∨ 31 < b.toNat → unfit)
    ∧ (serves → kind = .turnRefuse → length ≠ 2 ∨ 31 < b.toNat → unfit)
    ∧ (boots → kind = .turnGive ∨ kind = .turnRefuse ∨ kind = .turnOrder → unfit)
    ∧ (boots → kind = .helloAck → length ≠ 2 → unfit)) ∧
  (∀ (s : State) (c : ChanId) (epoch : Nat) (hd : Sixteen), (s.chan 0).state = .live ∨ (s.chan 0).state = .frozen →
    epoch < 65536 →
    let give := s.engine .turnGive (b1 c.val ++ b2 epoch ++ sixteenBytes hd)
    let refuse (cause : Nat) := s.engine .turnRefuse (b1 c.val ++ b1 cause)
    let deny := refuse 2
    let unexpected := s.raise .protocol (some c)
    let expected := match s.curKeyed c with
      | some k => if k.epoch = 4095 then 1 else k.epoch + 1
      | none => 1
    (s.exchOf c = none → give = unexpected ∧ deny = unexpected ∧ refuse 1 = unexpected)
    ∧ (∀ n, n < 256 → n ≠ 1 → n ≠ 2 → refuse n = unexpected)
    ∧ (∀ e, s.exchOf c = some e → (e.state = .asking ∨ e.state = .backingOff) → e.newEpoch = none →
      (epoch ≠ expected → give = unexpected)
      ∧ (epoch = expected → ¬ ((s.slot e.slot).state = .reserved ∧ (s.slot e.slot).chan = some c) → give = unexpected)
      ∧ (epoch = expected → (s.slot e.slot).state = .reserved → (s.slot e.slot).chan = some c →
        give = { s with
          exch := s.exch.map fun x => if x.chan = c then
            { x with newEpoch := some epoch, head := some hd, deadline := none } else x
          derivs := s.derivs ++ [.turnover c e.slot epoch e.store hd] })
      ∧ ((s.slot e.slot).inFlight = false → (s.slot e.slot).state ≠ .empty →
        deny.exch = s.exch.filter (fun x => x.chan ≠ c) ∧ deny.slot e.slot = .wiped
          ∧ deny.chan c = { s.chan c with next := none, renewal := .stopped }
          ∧ (∀ d, d ≠ c → deny.chan d = s.chan d) ∧ FaultKind.renewalRefused ∈ deny.fault.latches)
      ∧ (e.state = .backingOff → refuse 1 = s)
      ∧ (e.state = .asking → ∀ due : State, due = s.modExch c (fun x => { x with deadline := some s.uptime }) →
        (∀ y ∈ s.exch, y.chan = c → y = e) →
        exec (.askingDeadline c) due = .next (refuse 1)))
    ∧ (∀ e, s.exchOf c = some e → (e.state = .confirming ∨ e.newEpoch ≠ none) →
      let again := e.newEpoch = some epoch ∧ e.head = some hd
      (¬ again → give = unexpected) ∧ refuse 1 = unexpected ∧ deny = unexpected
      ∧ (again → e.state ≠ .confirming → give = s)
      ∧ (∀ proof, again → e.state = .confirming → e.proof = some proof → s.pool.heldControl < 8 → 0 < s.pool.free →
        give = { s with
          pool := { s.pool with heldControl := s.pool.heldControl + 1, free := s.pool.free - 1 }
          srcControl := { s.srcControl with
            fifo := s.srcControl.fifo ++ [⟨.control, .turnDone, 0, 0, 0, false, s.srcControl.nextSub,
              b1 c.val ++ b2 epoch ++ sixteenBytes proof, none, none, none⟩]
            nextSub := s.srcControl.nextSub + 1 } })
      ∧ (∀ proof, again → e.state = .confirming → e.proof = some proof →
        8 ≤ s.pool.heldControl ∨ s.pool.free = 0 → give = s)))
  ∧ (∀ s : State, (s.chan 0).state = .live ∨ (s.chan 0).state = .frozen →
    let orders (l : List ChanId) : State := l.foldl (fun u c => (u.request c .ordered).1) s
    s.engine .turnOrder [0xFF] = orders (List.finRange 32)
    ∧ (∀ l : List ChanId, 1 ≤ l.length → l.length ≤ 31 →
      s.engine .turnOrder (b1 l.length ++ l.flatMap fun c => b1 c.val) = orders l)
    ∧ (∀ l : List Byte, 1 ≤ l.length → l.length ≤ 31 → (∃ b ∈ l, 31 < b.toNat) →
      s.engine .turnOrder (b1 l.length ++ l)
        = (orders (l.filterMap fun b => (List.finRange 32)[b.toNat]?)).raise .protocol none)
    ∧ (∀ l : List Byte, l ≠ [0xFF] → (l.length ≤ 1 ∨ 32 < l.length ∨ (l.getD 0 0).toNat + 1 ≠ l.length) →
      s.engine .turnOrder l = s.raise .protocol none))
  ∧ (∀ (s : State) (c : ChanId),
    let t := (s.request c .ordered).1
    let ready := (s.chan c).renewal = .idle ∨ (s.chan c).renewal = .paused ∨ (s.chan c).renewal = .stopped
    let skipped := (s.chan c).state = .closed ∨ (s.chan c).state = .booting ∨ (s.chan c).renewal = .exchanging
    let reason : Reason := if (s.chan c).state = .openWait then .openKey else .ordered
    let urgent (l : List WaitEntry) := (l.filter fun e => e.reason.urgent) ++ ⟨c, reason⟩ :: l.filter fun e => !e.reason.urgent
    (skipped → t = s)
    ∧ (¬ skipped → ready → 31 ≤ s.sched.waitList.length → t = s)
    ∧ (¬ skipped → ready → s.sched.waitList.length < 31 →
      t.chan c = { s.chan c with renewal := .listed, pause := none, pauseReason := none }
      ∧ (∀ d, d ≠ c → t.chan d = s.chan d) ∧ t.sched = { s.sched with waitList := urgent s.sched.waitList }
      ∧ (t.port (s.chan c).owner.port).latches.channel = true)
    ∧ (∀ e, ¬ skipped → (s.chan c).renewal = .listed → s.entryOf c = some e →
      (e.reason.urgent = true → t = s)
      ∧ (e.reason.urgent = false → t.chans = s.chans
        ∧ t.sched = { s.sched with waitList := urgent (s.sched.waitList.filter fun x => x.chan ≠ c) })))
  ∧ (∀ (s : State) (n : Nat), (s.chan 0).state = .booting → n < 65536 →
    let t := s.engine .helloAck (b2 n)
    (s.boot.count = some n → (t.chan 0).state = .live ∧ t.boot.phase = .none ∧ t.boot.deadline = none
      ∧ t.boot.count = s.boot.count ∧ (∀ d, d ≠ 0 → (t.chan d).state = (s.chan d).state)
      ∧ (∀ i : SlotId, (s.chan 0).renewal = .idle → s.sched.waitList.length < 31 → s.exch = [] → s.mode = .running →
        (s.slot i).state = .empty → (∀ j, j < i → (s.slot j).state ≠ .empty) →
        (t.chan 0).renewal = .exchanging
        ∧ t.exch.head? = some ⟨0, .ordered, .asking, 1, Config.nonce s.draws, i, none, none,
          some (s.uptime + s.settings.reply + 2), none, false⟩)
      ∧ ((s.chan 0).renewal = .idle → s.sched.waitList.length < 31 → s.exch = [] →
        (∀ j, (s.slot j).state ≠ .empty) →
        (t.chan 0).renewal = .listed ∧ t.sched.waitList = ⟨0, .ordered⟩ :: s.sched.waitList
        ∧ (s.sched.lastFull ≠ some s.uptime → FaultKind.keyStoreFull ∈ t.fault.latches))
      ∧ ((s.chan 0).renewal = .idle → 31 ≤ s.sched.waitList.length → (∀ e ∈ s.sched.waitList, e.chan ≠ 0) →
        (t.chan 0).renewal = .idle))
    ∧ (s.boot.count ≠ some n → t = s.raise .protocol (some 0)))

/-- R115, R116, R117, R102: an ASKING entry at its deadline backs off by min(2^attempt, 64) seconds, or at the attempt
limit fails: the slot is wiped, the channel PAUSED for 64 seconds, RENEWAL_FAILED raised. A BACKING_OFF entry asks
again, and goes on as if it had where no CONTROL buffer is lent (R111). Acting at or after a deadline, and a row out
of place: log 10, log 2. A deadline past the end of uptime is not bounded by it: log 46. -/
def Obligations.AskingBacksOffOrFails : Prop :=
  ∀ (s : State) (c : ChanId) (e : Exchange) (d : Nat), s.exchOf c = some e → e.deadline = some d →
    let put (x : Exchange) := s.exch.map fun y => if y.chan = c then x else y
    (s.uptime < d → exec (.askingDeadline c) s = .next s ∧ exec (.backingOffDeadline c) s = .next s)
    ∧ (d ≤ s.uptime → e.state = .asking → e.attempt < s.settings.attempts → (∀ y ∈ s.exch, y.chan = c → y = e) →
      exec (.askingDeadline c) s = .next { s with exch := put { e with
        state := .backingOff, attempt := e.attempt + 1
        deadline := some (s.uptime + min (2 ^ (e.attempt + 1)) 64) } })
    ∧ (d ≤ s.uptime → e.state = .asking → s.settings.attempts ≤ e.attempt → (s.slot e.slot).inFlight = false →
      (s.slot e.slot).state ≠ .empty → ∃ t, exec (.askingDeadline c) s = .next t
        ∧ FaultKind.renewalFailed ∈ t.fault.latches ∧ t.slot e.slot = .wiped
        ∧ (∀ j, j ≠ e.slot → t.slot j = s.slot j) ∧ t.exch = s.exch.filter (fun y => y.chan ≠ c)
        ∧ t.chan c = { s.chan c with
            next := none, renewal := .paused, pause := some (s.uptime + 64), pauseReason := some e.reason }
        ∧ (∀ x, x ≠ c → t.chan x = s.chan x))
    ∧ (d ≤ s.uptime → e.state = .backingOff → (∀ y ∈ s.exch, y.chan = c → y = e) →
      ∃ t : State, exec (.backingOffDeadline c) s = .next t.rest
        ∧ t.exch = put { e with state := .asking, deadline := some (s.uptime + s.settings.reply + 2) }
        ∧ s.Builds t .turnAsk
          (turnAskPayload c.val (match s.curKeyed c with | some k => k.epoch | none => 0) e.reason e.store)
        ∧ { t with exch := s.exch, srcControl := s.srcControl, pool := s.pool } = s)

/-- R119, R27, R39, R120, R3: a turnover derivation that ends into its RESERVED slot stages the new key pair there,
makes it the channel's next slot, puts the exchange in CONFIRMING with its proof value, and builds TURN_DONE, or goes
on as if it had where no CONTROL buffer is lent (R111); a slot no longer reserved for the channel takes no key. The
input bytes of the derivation are the model's coding: log 34. A deadline past the end of uptime is not bounded by it:
log 46. -/
def Obligations.TurnoverDerivationStagesTheKey : Prop :=
  ∀ (s : State) (c : ChanId) (i : SlotId) (epoch : Nat) (store hd : Sixteen),
    s.core = .derives (.turnover c i epoch store hd) →
    (¬ ((s.slot i).state = .reserved ∧ (s.slot i).chan = some c) →
      exec .turnoverDerivationEnd s = .next (State.rest { s with core := .idle }))
    ∧ ((s.slot i).state = .reserved → (s.slot i).chan = some c →
      let keys := Config.derive s.settings.rootKey
        (turnoverLabel ++ beBytes 8 s.settings.storeId.toNat ++ b1 c.val ++ b2 epoch ++ sixteenBytes store
          ++ sixteenBytes hd)
      let proof := Config.tag (keys.extractLsb' 0 256) (sixteenBytes store ++ sixteenBytes hd)
      ∃ t : State, exec .turnoverDerivationEnd s = .next t.rest
        ∧ t.slot i = ⟨.staged, some c, keys.extractLsb' 256 256, keys.extractLsb' 0 256, some ⟨epoch, 0, 0, 1, 0, 0⟩,
            none, false, false⟩
        ∧ (∀ j, j ≠ i → t.slot j = s.slot j)
        ∧ t.chan c = { s.chan c with next := some i } ∧ (∀ d, d ≠ c → t.chan d = s.chan d)
        ∧ t.exch = (s.exch.map fun x => if x.chan = c then { x with
            state := .confirming, proof := some proof, deadline := some (s.uptime + s.settings.confirm) } else x)
        ∧ t.core = .idle
        ∧ s.Builds t .turnDone (b1 c.val ++ b2 epoch ++ sixteenBytes proof))

/-- R28, R29, R122, R3, R162: a CONFIRMING deadline, and a cutover that waited, make the STAGED slot ACTIVE with age 0
and next sequence 1, the ACTIVE one, if the channel has one, SETTLING with its deadline, and wipe the SETTLING one;
the channel is LIVE and IDLE and the exchange gone. Channel 0 leaving FROZEN makes the report test; nothing else
changes a report. While a SETTLING slot carries a job the cutover waits. Acting at or after a deadline, and the
waiting cutover: log 10, log 27. A deadline past the end of uptime is not bounded by it: log 46. -/
def Obligations.CutoverTurnsTheKeysOver : Prop :=
  ∀ (s : State) (c : ChanId) (e : Exchange) (new : SlotId) (k : Keyed),
    s.stagedSlot c = some new → (s.slot new).keyed = some k →
    let thaws := c = 0 ∧ (s.chan c).state = .frozen
    let turned (t : State) :=
      t.slot new = { s.slot new with state := .active, keyed := some { k with age := 0, nextSeq := 1 } }
      ∧ (∀ old, s.slotOf c .active = some old →
        t.slot old = { s.slot old with state := .settling, settle := some (s.uptime + s.settings.settle) })
      ∧ (∀ j, (s.slot j).state = .settling → (s.slot j).chan = some c → (s.slot j).inFlight = false →
        t.slot j = .wiped)
      ∧ (∀ j, (s.slot j).chan ≠ some c → t.slot j = s.slot j)
      ∧ t.chan c = { s.chan c with
          prev := (s.chan c).cur, cur := some new, next := none, renewal := .idle
          state := if (s.chan c).state = .openWait ∨ (s.chan c).state = .frozen then .live else (s.chan c).state }
      ∧ (∀ d, d ≠ c → t.chan d = s.chan d) ∧ t.exch = s.exch.filter (fun x => x.chan ≠ c)
      ∧ (t.port (s.chan c).owner.port).latches.channel = true
      ∧ (¬ thaws → t.fault = s.fault ∧ t.srcControl = s.srcControl ∧ t.pool = s.pool)
      ∧ (thaws → s.fault.report = none → (∃ r ∈ s.fault.queue, r.sent = false ∧ r.kind.severity = .critical) →
        s.pool.heldControl < 8 → 0 < s.pool.free → t.fault.report = some ⟨s.fault.dropped, s.fault.lost⟩)
    (∀ d, s.exchOf c = some e → e.state = .confirming → e.deadline = some d → d ≤ s.uptime → e.cutoverWaits = false →
      (s.settlingBusy c = false → ∃ t : State, exec (.confirmingDeadline c) s = .next t.rest ∧ turned t)
      ∧ (s.settlingBusy c = true → exec (.confirmingDeadline c) s = .next (State.rest
        { s with exch := s.exch.map fun x => if x.chan = c then { x with cutoverWaits := true } else x })))
    ∧ ((s.exch.find? fun x => x.cutoverWaits) = some e → e.chan = c →
      (s.settlingBusy c = false → ∃ t : State, exec .waitingCutover s = .next t.rest ∧ turned t)
      ∧ (s.settlingBusy c = true → exec .waitingCutover s = .next s.rest))

/-- R130: the four deadlines of the HELLO retries. Where no CONTROL buffer is lent the part goes on as if HELLO had
been built (R111). Acting at or after a deadline: log 10. A deadline past the end of uptime is not bounded by it: log
46. -/
def Obligations.HelloRetries : Prop :=
  ∀ (s : State) (d : Nat), s.boot.deadline = some d → d ≤ s.uptime →
    let asks (t : State) := s.Builds t .hello (helloPayload s.settings.storeId (s.boot.count.getD 0))
      ∧ { t with srcControl := s.srcControl, pool := s.pool, boot := s.boot } = s
    (s.boot.phase = .helloWait → s.boot.attempt < s.settings.attempts →
      exec .helloWaitDeadline s = .next { s with boot := { s.boot with
        phase := .helloBackoff, attempt := s.boot.attempt + 1
        deadline := some (s.uptime + min (2 ^ (s.boot.attempt + 1)) 64) } })
    ∧ (s.boot.phase = .helloWait → s.settings.attempts ≤ s.boot.attempt →
      ∃ t, exec .helloWaitDeadline s = .next t ∧ FaultKind.renewalFailed ∈ t.fault.latches
        ∧ t.boot = { s.boot with phase := .helloSlow, deadline := some (s.uptime + 64) } ∧ t.chans = s.chans
        ∧ t.slots = s.slots)
    ∧ (s.boot.phase = .helloBackoff →
      ∃ t : State, exec .helloBackoffDeadline s = .next t.rest ∧ asks t
        ∧ t.boot = { s.boot with phase := .helloWait, deadline := some (s.uptime + s.settings.reply + 2) })
    ∧ (s.boot.phase = .helloSlow →
      ∃ t : State, exec .helloSlowDeadline s = .next t.rest ∧ asks t
        ∧ t.boot = { s.boot with phase := .helloSlow, deadline := some (s.uptime + 64) })

end
end

