-- ==== Sys2Proof/Laws/State.lean ====
section
/-! SUPPORT. One lemma for each field of the state and each of the updates that touch one record: what the update leaves
alone, and what reading the record gives afterwards. -/

namespace Sys2Proof.Machine

/-! ### modPort -/

@[simp] theorem State.modPort_mode (s : State) (pt : Port) (f : PortRec → PortRec) : (s.modPort pt f).mode = s.mode := by cases pt <;> rfl
@[simp] theorem State.modPort_uptime (s : State) (pt : Port) (f : PortRec → PortRec) : (s.modPort pt f).uptime = s.uptime := by cases pt <;> rfl
@[simp] theorem State.modPort_store (s : State) (pt : Port) (f : PortRec → PortRec) : (s.modPort pt f).store = s.store := by cases pt <;> rfl
@[simp] theorem State.modPort_settings (s : State) (pt : Port) (f : PortRec → PortRec) : (s.modPort pt f).settings = s.settings := by cases pt <;> rfl
@[simp] theorem State.modPort_chans (s : State) (pt : Port) (f : PortRec → PortRec) : (s.modPort pt f).chans = s.chans := by cases pt <;> rfl
@[simp] theorem State.modPort_slots (s : State) (pt : Port) (f : PortRec → PortRec) : (s.modPort pt f).slots = s.slots := by cases pt <;> rfl
@[simp] theorem State.modPort_srcG (s : State) (pt : Port) (f : PortRec → PortRec) : (s.modPort pt f).srcG = s.srcG := by cases pt <;> rfl
@[simp] theorem State.modPort_srcP (s : State) (pt : Port) (f : PortRec → PortRec) : (s.modPort pt f).srcP = s.srcP := by cases pt <;> rfl
@[simp] theorem State.modPort_srcM (s : State) (pt : Port) (f : PortRec → PortRec) : (s.modPort pt f).srcM = s.srcM := by cases pt <;> rfl
@[simp] theorem State.modPort_srcControl (s : State) (pt : Port) (f : PortRec → PortRec) : (s.modPort pt f).srcControl = s.srcControl := by cases pt <;> rfl
@[simp] theorem State.modPort_inFifo (s : State) (pt : Port) (f : PortRec → PortRec) : (s.modPort pt f).inFifo = s.inFifo := by cases pt <;> rfl
@[simp] theorem State.modPort_pool (s : State) (pt : Port) (f : PortRec → PortRec) : (s.modPort pt f).pool = s.pool := by cases pt <;> rfl
@[simp] theorem State.modPort_core (s : State) (pt : Port) (f : PortRec → PortRec) : (s.modPort pt f).core = s.core := by cases pt <;> rfl
@[simp] theorem State.modPort_derivs (s : State) (pt : Port) (f : PortRec → PortRec) : (s.modPort pt f).derivs = s.derivs := by cases pt <;> rfl
@[simp] theorem State.modPort_arb (s : State) (pt : Port) (f : PortRec → PortRec) : (s.modPort pt f).arb = s.arb := by cases pt <;> rfl
@[simp] theorem State.modPort_sched (s : State) (pt : Port) (f : PortRec → PortRec) : (s.modPort pt f).sched = s.sched := by cases pt <;> rfl
@[simp] theorem State.modPort_exch (s : State) (pt : Port) (f : PortRec → PortRec) : (s.modPort pt f).exch = s.exch := by cases pt <;> rfl
@[simp] theorem State.modPort_boot (s : State) (pt : Port) (f : PortRec → PortRec) : (s.modPort pt f).boot = s.boot := by cases pt <;> rfl
@[simp] theorem State.modPort_t0 (s : State) (pt : Port) (f : PortRec → PortRec) : (s.modPort pt f).t0 = s.t0 := by cases pt <;> rfl
@[simp] theorem State.modPort_t1 (s : State) (pt : Port) (f : PortRec → PortRec) : (s.modPort pt f).t1 = s.t1 := by cases pt <;> rfl
@[simp] theorem State.modPort_active (s : State) (pt : Port) (f : PortRec → PortRec) : (s.modPort pt f).active = s.active := by cases pt <;> rfl
@[simp] theorem State.modPort_fault (s : State) (pt : Port) (f : PortRec → PortRec) : (s.modPort pt f).fault = s.fault := by cases pt <;> rfl
@[simp] theorem State.modPort_lines (s : State) (pt : Port) (f : PortRec → PortRec) : (s.modPort pt f).lines = s.lines := by cases pt <;> rfl
@[simp] theorem State.modPort_draws (s : State) (pt : Port) (f : PortRec → PortRec) : (s.modPort pt f).draws = s.draws := by cases pt <;> rfl
@[simp] theorem State.modPort_pending (s : State) (pt : Port) (f : PortRec → PortRec) : (s.modPort pt f).pending = s.pending := by cases pt <;> rfl

/-! ### modTrunk -/

@[simp] theorem State.modTrunk_mode (s : State) (t : Trunk) (f : TrunkRec → TrunkRec) : (s.modTrunk t f).mode = s.mode := by cases t <;> rfl
@[simp] theorem State.modTrunk_uptime (s : State) (t : Trunk) (f : TrunkRec → TrunkRec) : (s.modTrunk t f).uptime = s.uptime := by cases t <;> rfl
@[simp] theorem State.modTrunk_store (s : State) (t : Trunk) (f : TrunkRec → TrunkRec) : (s.modTrunk t f).store = s.store := by cases t <;> rfl
@[simp] theorem State.modTrunk_settings (s : State) (t : Trunk) (f : TrunkRec → TrunkRec) : (s.modTrunk t f).settings = s.settings := by cases t <;> rfl
@[simp] theorem State.modTrunk_chans (s : State) (t : Trunk) (f : TrunkRec → TrunkRec) : (s.modTrunk t f).chans = s.chans := by cases t <;> rfl
@[simp] theorem State.modTrunk_slots (s : State) (t : Trunk) (f : TrunkRec → TrunkRec) : (s.modTrunk t f).slots = s.slots := by cases t <;> rfl
@[simp] theorem State.modTrunk_srcG (s : State) (t : Trunk) (f : TrunkRec → TrunkRec) : (s.modTrunk t f).srcG = s.srcG := by cases t <;> rfl
@[simp] theorem State.modTrunk_srcP (s : State) (t : Trunk) (f : TrunkRec → TrunkRec) : (s.modTrunk t f).srcP = s.srcP := by cases t <;> rfl
@[simp] theorem State.modTrunk_srcM (s : State) (t : Trunk) (f : TrunkRec → TrunkRec) : (s.modTrunk t f).srcM = s.srcM := by cases t <;> rfl
@[simp] theorem State.modTrunk_srcControl (s : State) (t : Trunk) (f : TrunkRec → TrunkRec) : (s.modTrunk t f).srcControl = s.srcControl := by cases t <;> rfl
@[simp] theorem State.modTrunk_inFifo (s : State) (t : Trunk) (f : TrunkRec → TrunkRec) : (s.modTrunk t f).inFifo = s.inFifo := by cases t <;> rfl
@[simp] theorem State.modTrunk_pool (s : State) (t : Trunk) (f : TrunkRec → TrunkRec) : (s.modTrunk t f).pool = s.pool := by cases t <;> rfl
@[simp] theorem State.modTrunk_core (s : State) (t : Trunk) (f : TrunkRec → TrunkRec) : (s.modTrunk t f).core = s.core := by cases t <;> rfl
@[simp] theorem State.modTrunk_derivs (s : State) (t : Trunk) (f : TrunkRec → TrunkRec) : (s.modTrunk t f).derivs = s.derivs := by cases t <;> rfl
@[simp] theorem State.modTrunk_arb (s : State) (t : Trunk) (f : TrunkRec → TrunkRec) : (s.modTrunk t f).arb = s.arb := by cases t <;> rfl
@[simp] theorem State.modTrunk_sched (s : State) (t : Trunk) (f : TrunkRec → TrunkRec) : (s.modTrunk t f).sched = s.sched := by cases t <;> rfl
@[simp] theorem State.modTrunk_exch (s : State) (t : Trunk) (f : TrunkRec → TrunkRec) : (s.modTrunk t f).exch = s.exch := by cases t <;> rfl
@[simp] theorem State.modTrunk_boot (s : State) (t : Trunk) (f : TrunkRec → TrunkRec) : (s.modTrunk t f).boot = s.boot := by cases t <;> rfl
@[simp] theorem State.modTrunk_active (s : State) (t : Trunk) (f : TrunkRec → TrunkRec) : (s.modTrunk t f).active = s.active := by cases t <;> rfl
@[simp] theorem State.modTrunk_fault (s : State) (t : Trunk) (f : TrunkRec → TrunkRec) : (s.modTrunk t f).fault = s.fault := by cases t <;> rfl
@[simp] theorem State.modTrunk_portG (s : State) (t : Trunk) (f : TrunkRec → TrunkRec) : (s.modTrunk t f).portG = s.portG := by cases t <;> rfl
@[simp] theorem State.modTrunk_portP (s : State) (t : Trunk) (f : TrunkRec → TrunkRec) : (s.modTrunk t f).portP = s.portP := by cases t <;> rfl
@[simp] theorem State.modTrunk_portM (s : State) (t : Trunk) (f : TrunkRec → TrunkRec) : (s.modTrunk t f).portM = s.portM := by cases t <;> rfl
@[simp] theorem State.modTrunk_lines (s : State) (t : Trunk) (f : TrunkRec → TrunkRec) : (s.modTrunk t f).lines = s.lines := by cases t <;> rfl
@[simp] theorem State.modTrunk_draws (s : State) (t : Trunk) (f : TrunkRec → TrunkRec) : (s.modTrunk t f).draws = s.draws := by cases t <;> rfl
@[simp] theorem State.modTrunk_pending (s : State) (t : Trunk) (f : TrunkRec → TrunkRec) : (s.modTrunk t f).pending = s.pending := by cases t <;> rfl

/-! ### modSrc -/

@[simp] theorem State.modSrc_mode (s : State) (o : OutSrc) (f : Source → Source) : (s.modSrc o f).mode = s.mode := by cases o <;> rfl
@[simp] theorem State.modSrc_uptime (s : State) (o : OutSrc) (f : Source → Source) : (s.modSrc o f).uptime = s.uptime := by cases o <;> rfl
@[simp] theorem State.modSrc_store (s : State) (o : OutSrc) (f : Source → Source) : (s.modSrc o f).store = s.store := by cases o <;> rfl
@[simp] theorem State.modSrc_settings (s : State) (o : OutSrc) (f : Source → Source) : (s.modSrc o f).settings = s.settings := by cases o <;> rfl
@[simp] theorem State.modSrc_chans (s : State) (o : OutSrc) (f : Source → Source) : (s.modSrc o f).chans = s.chans := by cases o <;> rfl
@[simp] theorem State.modSrc_slots (s : State) (o : OutSrc) (f : Source → Source) : (s.modSrc o f).slots = s.slots := by cases o <;> rfl
@[simp] theorem State.modSrc_inFifo (s : State) (o : OutSrc) (f : Source → Source) : (s.modSrc o f).inFifo = s.inFifo := by cases o <;> rfl
@[simp] theorem State.modSrc_pool (s : State) (o : OutSrc) (f : Source → Source) : (s.modSrc o f).pool = s.pool := by cases o <;> rfl
@[simp] theorem State.modSrc_core (s : State) (o : OutSrc) (f : Source → Source) : (s.modSrc o f).core = s.core := by cases o <;> rfl
@[simp] theorem State.modSrc_derivs (s : State) (o : OutSrc) (f : Source → Source) : (s.modSrc o f).derivs = s.derivs := by cases o <;> rfl
@[simp] theorem State.modSrc_arb (s : State) (o : OutSrc) (f : Source → Source) : (s.modSrc o f).arb = s.arb := by cases o <;> rfl
@[simp] theorem State.modSrc_sched (s : State) (o : OutSrc) (f : Source → Source) : (s.modSrc o f).sched = s.sched := by cases o <;> rfl
@[simp] theorem State.modSrc_exch (s : State) (o : OutSrc) (f : Source → Source) : (s.modSrc o f).exch = s.exch := by cases o <;> rfl
@[simp] theorem State.modSrc_boot (s : State) (o : OutSrc) (f : Source → Source) : (s.modSrc o f).boot = s.boot := by cases o <;> rfl
@[simp] theorem State.modSrc_t0 (s : State) (o : OutSrc) (f : Source → Source) : (s.modSrc o f).t0 = s.t0 := by cases o <;> rfl
@[simp] theorem State.modSrc_t1 (s : State) (o : OutSrc) (f : Source → Source) : (s.modSrc o f).t1 = s.t1 := by cases o <;> rfl
@[simp] theorem State.modSrc_active (s : State) (o : OutSrc) (f : Source → Source) : (s.modSrc o f).active = s.active := by cases o <;> rfl
@[simp] theorem State.modSrc_fault (s : State) (o : OutSrc) (f : Source → Source) : (s.modSrc o f).fault = s.fault := by cases o <;> rfl
@[simp] theorem State.modSrc_portG (s : State) (o : OutSrc) (f : Source → Source) : (s.modSrc o f).portG = s.portG := by cases o <;> rfl
@[simp] theorem State.modSrc_portP (s : State) (o : OutSrc) (f : Source → Source) : (s.modSrc o f).portP = s.portP := by cases o <;> rfl
@[simp] theorem State.modSrc_portM (s : State) (o : OutSrc) (f : Source → Source) : (s.modSrc o f).portM = s.portM := by cases o <;> rfl
@[simp] theorem State.modSrc_lines (s : State) (o : OutSrc) (f : Source → Source) : (s.modSrc o f).lines = s.lines := by cases o <;> rfl
@[simp] theorem State.modSrc_draws (s : State) (o : OutSrc) (f : Source → Source) : (s.modSrc o f).draws = s.draws := by cases o <;> rfl
@[simp] theorem State.modSrc_pending (s : State) (o : OutSrc) (f : Source → Source) : (s.modSrc o f).pending = s.pending := by cases o <;> rfl

/-! ### modChan -/

@[simp] theorem State.modChan_mode (s : State) (c : ChanId) (f : Chan → Chan) : (s.modChan c f).mode = s.mode := rfl
@[simp] theorem State.modChan_uptime (s : State) (c : ChanId) (f : Chan → Chan) : (s.modChan c f).uptime = s.uptime := rfl
@[simp] theorem State.modChan_store (s : State) (c : ChanId) (f : Chan → Chan) : (s.modChan c f).store = s.store := rfl
@[simp] theorem State.modChan_settings (s : State) (c : ChanId) (f : Chan → Chan) : (s.modChan c f).settings = s.settings := rfl
@[simp] theorem State.modChan_slots (s : State) (c : ChanId) (f : Chan → Chan) : (s.modChan c f).slots = s.slots := rfl
@[simp] theorem State.modChan_srcG (s : State) (c : ChanId) (f : Chan → Chan) : (s.modChan c f).srcG = s.srcG := rfl
@[simp] theorem State.modChan_srcP (s : State) (c : ChanId) (f : Chan → Chan) : (s.modChan c f).srcP = s.srcP := rfl
@[simp] theorem State.modChan_srcM (s : State) (c : ChanId) (f : Chan → Chan) : (s.modChan c f).srcM = s.srcM := rfl
@[simp] theorem State.modChan_srcControl (s : State) (c : ChanId) (f : Chan → Chan) : (s.modChan c f).srcControl = s.srcControl := rfl
@[simp] theorem State.modChan_inFifo (s : State) (c : ChanId) (f : Chan → Chan) : (s.modChan c f).inFifo = s.inFifo := rfl
@[simp] theorem State.modChan_pool (s : State) (c : ChanId) (f : Chan → Chan) : (s.modChan c f).pool = s.pool := rfl
@[simp] theorem State.modChan_core (s : State) (c : ChanId) (f : Chan → Chan) : (s.modChan c f).core = s.core := rfl
@[simp] theorem State.modChan_derivs (s : State) (c : ChanId) (f : Chan → Chan) : (s.modChan c f).derivs = s.derivs := rfl
@[simp] theorem State.modChan_arb (s : State) (c : ChanId) (f : Chan → Chan) : (s.modChan c f).arb = s.arb := rfl
@[simp] theorem State.modChan_sched (s : State) (c : ChanId) (f : Chan → Chan) : (s.modChan c f).sched = s.sched := rfl
@[simp] theorem State.modChan_exch (s : State) (c : ChanId) (f : Chan → Chan) : (s.modChan c f).exch = s.exch := rfl
@[simp] theorem State.modChan_boot (s : State) (c : ChanId) (f : Chan → Chan) : (s.modChan c f).boot = s.boot := rfl
@[simp] theorem State.modChan_t0 (s : State) (c : ChanId) (f : Chan → Chan) : (s.modChan c f).t0 = s.t0 := rfl
@[simp] theorem State.modChan_t1 (s : State) (c : ChanId) (f : Chan → Chan) : (s.modChan c f).t1 = s.t1 := rfl
@[simp] theorem State.modChan_active (s : State) (c : ChanId) (f : Chan → Chan) : (s.modChan c f).active = s.active := rfl
@[simp] theorem State.modChan_fault (s : State) (c : ChanId) (f : Chan → Chan) : (s.modChan c f).fault = s.fault := rfl
@[simp] theorem State.modChan_portG (s : State) (c : ChanId) (f : Chan → Chan) : (s.modChan c f).portG = s.portG := rfl
@[simp] theorem State.modChan_portP (s : State) (c : ChanId) (f : Chan → Chan) : (s.modChan c f).portP = s.portP := rfl
@[simp] theorem State.modChan_portM (s : State) (c : ChanId) (f : Chan → Chan) : (s.modChan c f).portM = s.portM := rfl
@[simp] theorem State.modChan_lines (s : State) (c : ChanId) (f : Chan → Chan) : (s.modChan c f).lines = s.lines := rfl
@[simp] theorem State.modChan_draws (s : State) (c : ChanId) (f : Chan → Chan) : (s.modChan c f).draws = s.draws := rfl
@[simp] theorem State.modChan_pending (s : State) (c : ChanId) (f : Chan → Chan) : (s.modChan c f).pending = s.pending := rfl

/-! ### modSlot -/

@[simp] theorem State.modSlot_mode (s : State) (i : SlotId) (f : Slot → Slot) : (s.modSlot i f).mode = s.mode := rfl
@[simp] theorem State.modSlot_uptime (s : State) (i : SlotId) (f : Slot → Slot) : (s.modSlot i f).uptime = s.uptime := rfl
@[simp] theorem State.modSlot_store (s : State) (i : SlotId) (f : Slot → Slot) : (s.modSlot i f).store = s.store := rfl
@[simp] theorem State.modSlot_settings (s : State) (i : SlotId) (f : Slot → Slot) : (s.modSlot i f).settings = s.settings := rfl
@[simp] theorem State.modSlot_chans (s : State) (i : SlotId) (f : Slot → Slot) : (s.modSlot i f).chans = s.chans := rfl
@[simp] theorem State.modSlot_srcG (s : State) (i : SlotId) (f : Slot → Slot) : (s.modSlot i f).srcG = s.srcG := rfl
@[simp] theorem State.modSlot_srcP (s : State) (i : SlotId) (f : Slot → Slot) : (s.modSlot i f).srcP = s.srcP := rfl
@[simp] theorem State.modSlot_srcM (s : State) (i : SlotId) (f : Slot → Slot) : (s.modSlot i f).srcM = s.srcM := rfl
@[simp] theorem State.modSlot_srcControl (s : State) (i : SlotId) (f : Slot → Slot) : (s.modSlot i f).srcControl = s.srcControl := rfl
@[simp] theorem State.modSlot_inFifo (s : State) (i : SlotId) (f : Slot → Slot) : (s.modSlot i f).inFifo = s.inFifo := rfl
@[simp] theorem State.modSlot_pool (s : State) (i : SlotId) (f : Slot → Slot) : (s.modSlot i f).pool = s.pool := rfl
@[simp] theorem State.modSlot_core (s : State) (i : SlotId) (f : Slot → Slot) : (s.modSlot i f).core = s.core := rfl
@[simp] theorem State.modSlot_derivs (s : State) (i : SlotId) (f : Slot → Slot) : (s.modSlot i f).derivs = s.derivs := rfl
@[simp] theorem State.modSlot_arb (s : State) (i : SlotId) (f : Slot → Slot) : (s.modSlot i f).arb = s.arb := rfl
@[simp] theorem State.modSlot_sched (s : State) (i : SlotId) (f : Slot → Slot) : (s.modSlot i f).sched = s.sched := rfl
@[simp] theorem State.modSlot_exch (s : State) (i : SlotId) (f : Slot → Slot) : (s.modSlot i f).exch = s.exch := rfl
@[simp] theorem State.modSlot_boot (s : State) (i : SlotId) (f : Slot → Slot) : (s.modSlot i f).boot = s.boot := rfl
@[simp] theorem State.modSlot_t0 (s : State) (i : SlotId) (f : Slot → Slot) : (s.modSlot i f).t0 = s.t0 := rfl
@[simp] theorem State.modSlot_t1 (s : State) (i : SlotId) (f : Slot → Slot) : (s.modSlot i f).t1 = s.t1 := rfl
@[simp] theorem State.modSlot_active (s : State) (i : SlotId) (f : Slot → Slot) : (s.modSlot i f).active = s.active := rfl
@[simp] theorem State.modSlot_fault (s : State) (i : SlotId) (f : Slot → Slot) : (s.modSlot i f).fault = s.fault := rfl
@[simp] theorem State.modSlot_portG (s : State) (i : SlotId) (f : Slot → Slot) : (s.modSlot i f).portG = s.portG := rfl
@[simp] theorem State.modSlot_portP (s : State) (i : SlotId) (f : Slot → Slot) : (s.modSlot i f).portP = s.portP := rfl
@[simp] theorem State.modSlot_portM (s : State) (i : SlotId) (f : Slot → Slot) : (s.modSlot i f).portM = s.portM := rfl
@[simp] theorem State.modSlot_lines (s : State) (i : SlotId) (f : Slot → Slot) : (s.modSlot i f).lines = s.lines := rfl
@[simp] theorem State.modSlot_draws (s : State) (i : SlotId) (f : Slot → Slot) : (s.modSlot i f).draws = s.draws := rfl
@[simp] theorem State.modSlot_pending (s : State) (i : SlotId) (f : Slot → Slot) : (s.modSlot i f).pending = s.pending := rfl

/-! ### modLine -/

@[simp] theorem State.modLine_mode (s : State) (i : Fin 8) (f : Line → Line) : (s.modLine i f).mode = s.mode := rfl
@[simp] theorem State.modLine_uptime (s : State) (i : Fin 8) (f : Line → Line) : (s.modLine i f).uptime = s.uptime := rfl
@[simp] theorem State.modLine_store (s : State) (i : Fin 8) (f : Line → Line) : (s.modLine i f).store = s.store := rfl
@[simp] theorem State.modLine_settings (s : State) (i : Fin 8) (f : Line → Line) : (s.modLine i f).settings = s.settings := rfl
@[simp] theorem State.modLine_chans (s : State) (i : Fin 8) (f : Line → Line) : (s.modLine i f).chans = s.chans := rfl
@[simp] theorem State.modLine_slots (s : State) (i : Fin 8) (f : Line → Line) : (s.modLine i f).slots = s.slots := rfl
@[simp] theorem State.modLine_srcG (s : State) (i : Fin 8) (f : Line → Line) : (s.modLine i f).srcG = s.srcG := rfl
@[simp] theorem State.modLine_srcP (s : State) (i : Fin 8) (f : Line → Line) : (s.modLine i f).srcP = s.srcP := rfl
@[simp] theorem State.modLine_srcM (s : State) (i : Fin 8) (f : Line → Line) : (s.modLine i f).srcM = s.srcM := rfl
@[simp] theorem State.modLine_srcControl (s : State) (i : Fin 8) (f : Line → Line) : (s.modLine i f).srcControl = s.srcControl := rfl
@[simp] theorem State.modLine_inFifo (s : State) (i : Fin 8) (f : Line → Line) : (s.modLine i f).inFifo = s.inFifo := rfl
@[simp] theorem State.modLine_pool (s : State) (i : Fin 8) (f : Line → Line) : (s.modLine i f).pool = s.pool := rfl
@[simp] theorem State.modLine_core (s : State) (i : Fin 8) (f : Line → Line) : (s.modLine i f).core = s.core := rfl
@[simp] theorem State.modLine_derivs (s : State) (i : Fin 8) (f : Line → Line) : (s.modLine i f).derivs = s.derivs := rfl
@[simp] theorem State.modLine_arb (s : State) (i : Fin 8) (f : Line → Line) : (s.modLine i f).arb = s.arb := rfl
@[simp] theorem State.modLine_sched (s : State) (i : Fin 8) (f : Line → Line) : (s.modLine i f).sched = s.sched := rfl
@[simp] theorem State.modLine_exch (s : State) (i : Fin 8) (f : Line → Line) : (s.modLine i f).exch = s.exch := rfl
@[simp] theorem State.modLine_boot (s : State) (i : Fin 8) (f : Line → Line) : (s.modLine i f).boot = s.boot := rfl
@[simp] theorem State.modLine_t0 (s : State) (i : Fin 8) (f : Line → Line) : (s.modLine i f).t0 = s.t0 := rfl
@[simp] theorem State.modLine_t1 (s : State) (i : Fin 8) (f : Line → Line) : (s.modLine i f).t1 = s.t1 := rfl
@[simp] theorem State.modLine_active (s : State) (i : Fin 8) (f : Line → Line) : (s.modLine i f).active = s.active := rfl
@[simp] theorem State.modLine_fault (s : State) (i : Fin 8) (f : Line → Line) : (s.modLine i f).fault = s.fault := rfl
@[simp] theorem State.modLine_portG (s : State) (i : Fin 8) (f : Line → Line) : (s.modLine i f).portG = s.portG := rfl
@[simp] theorem State.modLine_portP (s : State) (i : Fin 8) (f : Line → Line) : (s.modLine i f).portP = s.portP := rfl
@[simp] theorem State.modLine_portM (s : State) (i : Fin 8) (f : Line → Line) : (s.modLine i f).portM = s.portM := rfl
@[simp] theorem State.modLine_draws (s : State) (i : Fin 8) (f : Line → Line) : (s.modLine i f).draws = s.draws := rfl
@[simp] theorem State.modLine_pending (s : State) (i : Fin 8) (f : Line → Line) : (s.modLine i f).pending = s.pending := rfl

/-! ### giveBuf -/

@[simp] theorem State.giveBuf_mode (s : State) (h : Holder) : (s.giveBuf h).mode = s.mode := rfl
@[simp] theorem State.giveBuf_uptime (s : State) (h : Holder) : (s.giveBuf h).uptime = s.uptime := rfl
@[simp] theorem State.giveBuf_store (s : State) (h : Holder) : (s.giveBuf h).store = s.store := rfl
@[simp] theorem State.giveBuf_settings (s : State) (h : Holder) : (s.giveBuf h).settings = s.settings := rfl
@[simp] theorem State.giveBuf_chans (s : State) (h : Holder) : (s.giveBuf h).chans = s.chans := rfl
@[simp] theorem State.giveBuf_slots (s : State) (h : Holder) : (s.giveBuf h).slots = s.slots := rfl
@[simp] theorem State.giveBuf_srcG (s : State) (h : Holder) : (s.giveBuf h).srcG = s.srcG := rfl
@[simp] theorem State.giveBuf_srcP (s : State) (h : Holder) : (s.giveBuf h).srcP = s.srcP := rfl
@[simp] theorem State.giveBuf_srcM (s : State) (h : Holder) : (s.giveBuf h).srcM = s.srcM := rfl
@[simp] theorem State.giveBuf_srcControl (s : State) (h : Holder) : (s.giveBuf h).srcControl = s.srcControl := rfl
@[simp] theorem State.giveBuf_inFifo (s : State) (h : Holder) : (s.giveBuf h).inFifo = s.inFifo := rfl
@[simp] theorem State.giveBuf_core (s : State) (h : Holder) : (s.giveBuf h).core = s.core := rfl
@[simp] theorem State.giveBuf_derivs (s : State) (h : Holder) : (s.giveBuf h).derivs = s.derivs := rfl
@[simp] theorem State.giveBuf_arb (s : State) (h : Holder) : (s.giveBuf h).arb = s.arb := rfl
@[simp] theorem State.giveBuf_sched (s : State) (h : Holder) : (s.giveBuf h).sched = s.sched := rfl
@[simp] theorem State.giveBuf_exch (s : State) (h : Holder) : (s.giveBuf h).exch = s.exch := rfl
@[simp] theorem State.giveBuf_boot (s : State) (h : Holder) : (s.giveBuf h).boot = s.boot := rfl
@[simp] theorem State.giveBuf_t0 (s : State) (h : Holder) : (s.giveBuf h).t0 = s.t0 := rfl
@[simp] theorem State.giveBuf_t1 (s : State) (h : Holder) : (s.giveBuf h).t1 = s.t1 := rfl
@[simp] theorem State.giveBuf_active (s : State) (h : Holder) : (s.giveBuf h).active = s.active := rfl
@[simp] theorem State.giveBuf_fault (s : State) (h : Holder) : (s.giveBuf h).fault = s.fault := rfl
@[simp] theorem State.giveBuf_portG (s : State) (h : Holder) : (s.giveBuf h).portG = s.portG := rfl
@[simp] theorem State.giveBuf_portP (s : State) (h : Holder) : (s.giveBuf h).portP = s.portP := rfl
@[simp] theorem State.giveBuf_portM (s : State) (h : Holder) : (s.giveBuf h).portM = s.portM := rfl
@[simp] theorem State.giveBuf_lines (s : State) (h : Holder) : (s.giveBuf h).lines = s.lines := rfl
@[simp] theorem State.giveBuf_draws (s : State) (h : Holder) : (s.giveBuf h).draws = s.draws := rfl
@[simp] theorem State.giveBuf_pending (s : State) (h : Holder) : (s.giveBuf h).pending = s.pending := rfl

/-! ### Reading the record that an update wrote -/

@[simp] theorem State.port_modPort (s : State) (p q : Port) (f : PortRec → PortRec) :
    (s.modPort p f).port q = if q = p then f (s.port q) else s.port q := by cases p <;> cases q <;> rfl

@[simp] theorem State.trunk_modTrunk (s : State) (t u : Trunk) (f : TrunkRec → TrunkRec) :
    (s.modTrunk t f).trunk u = if u = t then f (s.trunk u) else s.trunk u := by cases t <;> cases u <;> rfl

@[simp] theorem State.src_modSrc (s : State) (o p : OutSrc) (f : Source → Source) :
    (s.modSrc o f).src p = if p = o then f (s.src p) else s.src p := by cases o <;> cases p <;> rfl

@[simp] theorem State.chan_modChan (s : State) (c d : ChanId) (f : Chan → Chan) :
    (s.modChan c f).chan d = if d = c then f (s.chan d) else s.chan d := by
  unfold State.chan State.modChan
  by_cases h : d = c
  · subst h; simp
  · have : ¬ c.val = d.val := fun e => h (Fin.ext e.symm)
    simp [h, Vector.getElem_set, this]

@[simp] theorem State.slot_modSlot (s : State) (i j : SlotId) (f : Slot → Slot) :
    (s.modSlot i f).slot j = if j = i then f (s.slot j) else s.slot j := by
  unfold State.slot State.modSlot
  by_cases h : j = i
  · subst h; simp
  · have : ¬ i.val = j.val := fun e => h (Fin.ext e.symm)
    simp [h, Vector.getElem_set, this]

@[simp] theorem State.line_modLine (s : State) (i j : Fin 8) (f : Line → Line) :
    (s.modLine i f).line j = if j = i then f (s.line j) else s.line j := by
  unfold State.line State.modLine
  by_cases h : j = i
  · subst h; simp
  · have : ¬ i.val = j.val := fun e => h (Fin.ext e.symm)
    simp [h, Vector.getElem_set, this]

/-! ### Reading a record that an update did not touch -/

@[simp] theorem State.port_modTrunk (s : State) (t : Trunk) (f : TrunkRec → TrunkRec) (q : Port) : (s.modTrunk t f).port q = s.port q := by cases q <;> simp [State.port]
@[simp] theorem State.port_modSrc (s : State) (o : OutSrc) (f : Source → Source) (q : Port) : (s.modSrc o f).port q = s.port q := by cases q <;> simp [State.port]
@[simp] theorem State.port_modChan (s : State) (c : ChanId) (f : Chan → Chan) (q : Port) : (s.modChan c f).port q = s.port q := by cases q <;> simp [State.port]
@[simp] theorem State.port_modSlot (s : State) (i : SlotId) (f : Slot → Slot) (q : Port) : (s.modSlot i f).port q = s.port q := by cases q <;> simp [State.port]
@[simp] theorem State.port_modLine (s : State) (i : Fin 8) (f : Line → Line) (q : Port) : (s.modLine i f).port q = s.port q := by cases q <;> simp [State.port]
@[simp] theorem State.port_giveBuf (s : State) (h : Holder) (q : Port) : (s.giveBuf h).port q = s.port q := by cases q <;> simp [State.port]

@[simp] theorem State.trunk_modPort (s : State) (pt : Port) (f : PortRec → PortRec) (u : Trunk) : (s.modPort pt f).trunk u = s.trunk u := by cases u <;> simp [State.trunk]
@[simp] theorem State.trunk_modSrc (s : State) (o : OutSrc) (f : Source → Source) (u : Trunk) : (s.modSrc o f).trunk u = s.trunk u := by cases u <;> simp [State.trunk]
@[simp] theorem State.trunk_modChan (s : State) (c : ChanId) (f : Chan → Chan) (u : Trunk) : (s.modChan c f).trunk u = s.trunk u := by cases u <;> simp [State.trunk]
@[simp] theorem State.trunk_modSlot (s : State) (i : SlotId) (f : Slot → Slot) (u : Trunk) : (s.modSlot i f).trunk u = s.trunk u := by cases u <;> simp [State.trunk]
@[simp] theorem State.trunk_modLine (s : State) (i : Fin 8) (f : Line → Line) (u : Trunk) : (s.modLine i f).trunk u = s.trunk u := by cases u <;> simp [State.trunk]
@[simp] theorem State.trunk_giveBuf (s : State) (h : Holder) (u : Trunk) : (s.giveBuf h).trunk u = s.trunk u := by cases u <;> simp [State.trunk]

@[simp] theorem State.src_modPort (s : State) (pt : Port) (f : PortRec → PortRec) (p : OutSrc) : (s.modPort pt f).src p = s.src p := by cases p <;> simp [State.src]
@[simp] theorem State.src_modTrunk (s : State) (t : Trunk) (f : TrunkRec → TrunkRec) (p : OutSrc) : (s.modTrunk t f).src p = s.src p := by cases p <;> simp [State.src]
@[simp] theorem State.src_modChan (s : State) (c : ChanId) (f : Chan → Chan) (p : OutSrc) : (s.modChan c f).src p = s.src p := by cases p <;> simp [State.src]
@[simp] theorem State.src_modSlot (s : State) (i : SlotId) (f : Slot → Slot) (p : OutSrc) : (s.modSlot i f).src p = s.src p := by cases p <;> simp [State.src]
@[simp] theorem State.src_modLine (s : State) (i : Fin 8) (f : Line → Line) (p : OutSrc) : (s.modLine i f).src p = s.src p := by cases p <;> simp [State.src]
@[simp] theorem State.src_giveBuf (s : State) (h : Holder) (p : OutSrc) : (s.giveBuf h).src p = s.src p := by cases p <;> simp [State.src]

@[simp] theorem State.chan_modPort (s : State) (pt : Port) (f : PortRec → PortRec) (d : ChanId) : (s.modPort pt f).chan d = s.chan d := by simp [State.chan]
@[simp] theorem State.chan_modTrunk (s : State) (t : Trunk) (f : TrunkRec → TrunkRec) (d : ChanId) : (s.modTrunk t f).chan d = s.chan d := by simp [State.chan]
@[simp] theorem State.chan_modSrc (s : State) (o : OutSrc) (f : Source → Source) (d : ChanId) : (s.modSrc o f).chan d = s.chan d := by simp [State.chan]
@[simp] theorem State.chan_modSlot (s : State) (i : SlotId) (f : Slot → Slot) (d : ChanId) : (s.modSlot i f).chan d = s.chan d := by simp [State.chan]
@[simp] theorem State.chan_modLine (s : State) (i : Fin 8) (f : Line → Line) (d : ChanId) : (s.modLine i f).chan d = s.chan d := by simp [State.chan]
@[simp] theorem State.chan_giveBuf (s : State) (h : Holder) (d : ChanId) : (s.giveBuf h).chan d = s.chan d := by simp [State.chan]

@[simp] theorem State.slot_modPort (s : State) (pt : Port) (f : PortRec → PortRec) (j : SlotId) : (s.modPort pt f).slot j = s.slot j := by simp [State.slot]
@[simp] theorem State.slot_modTrunk (s : State) (t : Trunk) (f : TrunkRec → TrunkRec) (j : SlotId) : (s.modTrunk t f).slot j = s.slot j := by simp [State.slot]
@[simp] theorem State.slot_modSrc (s : State) (o : OutSrc) (f : Source → Source) (j : SlotId) : (s.modSrc o f).slot j = s.slot j := by simp [State.slot]
@[simp] theorem State.slot_modChan (s : State) (c : ChanId) (f : Chan → Chan) (j : SlotId) : (s.modChan c f).slot j = s.slot j := by simp [State.slot]
@[simp] theorem State.slot_modLine (s : State) (i : Fin 8) (f : Line → Line) (j : SlotId) : (s.modLine i f).slot j = s.slot j := by simp [State.slot]
@[simp] theorem State.slot_giveBuf (s : State) (h : Holder) (j : SlotId) : (s.giveBuf h).slot j = s.slot j := by simp [State.slot]

@[simp] theorem State.line_modPort (s : State) (pt : Port) (f : PortRec → PortRec) (j : Fin 8) : (s.modPort pt f).line j = s.line j := by simp [State.line]
@[simp] theorem State.line_modTrunk (s : State) (t : Trunk) (f : TrunkRec → TrunkRec) (j : Fin 8) : (s.modTrunk t f).line j = s.line j := by simp [State.line]
@[simp] theorem State.line_modSrc (s : State) (o : OutSrc) (f : Source → Source) (j : Fin 8) : (s.modSrc o f).line j = s.line j := by simp [State.line]
@[simp] theorem State.line_modChan (s : State) (c : ChanId) (f : Chan → Chan) (j : Fin 8) : (s.modChan c f).line j = s.line j := by simp [State.line]
@[simp] theorem State.line_modSlot (s : State) (i : SlotId) (f : Slot → Slot) (j : Fin 8) : (s.modSlot i f).line j = s.line j := by simp [State.line]
@[simp] theorem State.line_giveBuf (s : State) (h : Holder) (j : Fin 8) : (s.giveBuf h).line j = s.line j := by simp [State.line]

/-! ### A trunk's record: a transmission begins and ends, and the trunk leaves UP -/

@[simp] theorem TrunkRec.begin_enable (r : TrunkRec) (f : Frame) : (r.begin f).enable = r.enable := rfl
@[simp] theorem TrunkRec.begin_state (r : TrunkRec) (f : Frame) : (r.begin f).state = r.state := rfl
@[simp] theorem TrunkRec.begin_hold (r : TrunkRec) (f : Frame) : (r.begin f).hold = r.hold := rfl
@[simp] theorem TrunkRec.begin_proving (r : TrunkRec) (f : Frame) : (r.begin f).proving = r.proving := rfl
@[simp] theorem TrunkRec.begin_queue (r : TrunkRec) (f : Frame) : (r.begin f).queue = r.queue := rfl
@[simp] theorem TrunkRec.begin_reserved (r : TrunkRec) (f : Frame) : (r.begin f).reserved = r.reserved := rfl
@[simp] theorem TrunkRec.begin_transmitting (r : TrunkRec) (f : Frame) : (r.begin f).transmitting = true := rfl
@[simp] theorem TrunkRec.begin_stall (r : TrunkRec) (f : Frame) : (r.begin f).stall = some 0 := rfl
@[simp] theorem TrunkRec.begin_out (r : TrunkRec) (f : Frame) : (r.begin f).out = if r.hold then [] else f.symbols := rfl
@[simp] theorem TrunkRec.begin_given (r : TrunkRec) (f : Frame) : (r.begin f).given = 0 := rfl
@[simp] theorem TrunkRec.begin_counters (r : TrunkRec) (f : Frame) : (r.begin f).counters = r.counters := rfl
@[simp] theorem TrunkRec.begin_depth (r : TrunkRec) (f : Frame) : (r.begin f).depth = r.depth := rfl
@[simp] theorem TrunkRec.begin_provingInterval (r : TrunkRec) (f : Frame) : (r.begin f).provingInterval = r.provingInterval := rfl

@[simp] theorem TrunkRec.finish_enable (r : TrunkRec) (f : Frame) (l : List Frame) : (r.finish f l).enable = r.enable := rfl
@[simp] theorem TrunkRec.finish_state (r : TrunkRec) (f : Frame) (l : List Frame) : (r.finish f l).state = r.state := rfl
@[simp] theorem TrunkRec.finish_hold (r : TrunkRec) (f : Frame) (l : List Frame) : (r.finish f l).hold = r.hold := rfl
@[simp] theorem TrunkRec.finish_proving (r : TrunkRec) (f : Frame) (l : List Frame) : (r.finish f l).proving = r.proving := rfl
@[simp] theorem TrunkRec.finish_queue (r : TrunkRec) (f : Frame) (l : List Frame) : (r.finish f l).queue = l := rfl
@[simp] theorem TrunkRec.finish_reserved (r : TrunkRec) (f : Frame) (l : List Frame) : (r.finish f l).reserved = r.reserved := rfl
@[simp] theorem TrunkRec.finish_transmitting (r : TrunkRec) (f : Frame) (l : List Frame) : (r.finish f l).transmitting = false := rfl
@[simp] theorem TrunkRec.finish_stall (r : TrunkRec) (f : Frame) (l : List Frame) : (r.finish f l).stall = none := rfl
@[simp] theorem TrunkRec.finish_out (r : TrunkRec) (f : Frame) (l : List Frame) : (r.finish f l).out = f.symbols ++ [.endMarker] := rfl
@[simp] theorem TrunkRec.finish_given (r : TrunkRec) (f : Frame) (l : List Frame) : (r.finish f l).given = 0 := rfl
@[simp] theorem TrunkRec.finish_counters (r : TrunkRec) (f : Frame) (l : List Frame) : (r.finish f l).counters = r.counters := rfl
@[simp] theorem TrunkRec.finish_depth (r : TrunkRec) (f : Frame) (l : List Frame) : (r.finish f l).depth = r.depth := rfl
@[simp] theorem TrunkRec.finish_provingInterval (r : TrunkRec) (f : Frame) (l : List Frame) : (r.finish f l).provingInterval = r.provingInterval := rfl

@[simp] theorem TrunkRec.released_enable (r : TrunkRec) : r.released.enable = r.enable := rfl
@[simp] theorem TrunkRec.released_state (r : TrunkRec) : r.released.state = r.state := rfl
@[simp] theorem TrunkRec.released_hold (r : TrunkRec) : r.released.hold = false := rfl
@[simp] theorem TrunkRec.released_proving (r : TrunkRec) : r.released.proving = r.proving := rfl
@[simp] theorem TrunkRec.released_queue (r : TrunkRec) : r.released.queue = r.queue := rfl
@[simp] theorem TrunkRec.released_reserved (r : TrunkRec) : r.released.reserved = r.reserved := rfl
@[simp] theorem TrunkRec.released_transmitting (r : TrunkRec) : r.released.transmitting = r.transmitting := rfl
@[simp] theorem TrunkRec.released_stall (r : TrunkRec) : r.released.stall = r.stall.map fun _ => 0 := rfl
@[simp] theorem TrunkRec.released_given (r : TrunkRec) : r.released.given = r.given := rfl
@[simp] theorem TrunkRec.released_counters (r : TrunkRec) : r.released.counters = r.counters := rfl
@[simp] theorem TrunkRec.released_depth (r : TrunkRec) : r.released.depth = r.depth := rfl
@[simp] theorem TrunkRec.released_provingInterval (r : TrunkRec) : r.released.provingInterval = r.provingInterval := rfl

@[simp] theorem TrunkRec.emptied_enable (r : TrunkRec) : (r.emptied).enable = r.enable := rfl
@[simp] theorem TrunkRec.emptied_state (r : TrunkRec) : (r.emptied).state = r.state := rfl
@[simp] theorem TrunkRec.emptied_hold (r : TrunkRec) : (r.emptied).hold = r.hold := rfl
@[simp] theorem TrunkRec.emptied_proving (r : TrunkRec) : (r.emptied).proving = r.proving := rfl
@[simp] theorem TrunkRec.emptied_queue (r : TrunkRec) : (r.emptied).queue = [] := rfl
@[simp] theorem TrunkRec.emptied_reserved (r : TrunkRec) : (r.emptied).reserved = 0 := rfl
@[simp] theorem TrunkRec.emptied_transmitting (r : TrunkRec) : (r.emptied).transmitting = false := rfl
@[simp] theorem TrunkRec.emptied_stall (r : TrunkRec) : (r.emptied).stall = none := rfl
@[simp] theorem TrunkRec.emptied_out (r : TrunkRec) : (r.emptied).out = r.out := rfl
@[simp] theorem TrunkRec.emptied_given (r : TrunkRec) : (r.emptied).given = 0 := rfl
@[simp] theorem TrunkRec.emptied_counters (r : TrunkRec) : (r.emptied).counters = r.counters := rfl
@[simp] theorem TrunkRec.emptied_depth (r : TrunkRec) : (r.emptied).depth = r.depth := rfl
@[simp] theorem TrunkRec.emptied_provingInterval (r : TrunkRec) : (r.emptied).provingInterval = r.provingInterval := rfl

@[simp] theorem TrunkRec.cutAt_enable (r : TrunkRec) (n : Nat) : (r.cutAt n).enable = r.enable := rfl
@[simp] theorem TrunkRec.cutAt_state (r : TrunkRec) (n : Nat) : (r.cutAt n).state = r.state := rfl
@[simp] theorem TrunkRec.cutAt_hold (r : TrunkRec) (n : Nat) : (r.cutAt n).hold = r.hold := rfl
@[simp] theorem TrunkRec.cutAt_proving (r : TrunkRec) (n : Nat) : (r.cutAt n).proving = r.proving := rfl
@[simp] theorem TrunkRec.cutAt_queue (r : TrunkRec) (n : Nat) : (r.cutAt n).queue = r.queue := rfl
@[simp] theorem TrunkRec.cutAt_reserved (r : TrunkRec) (n : Nat) : (r.cutAt n).reserved = r.reserved := rfl
@[simp] theorem TrunkRec.cutAt_transmitting (r : TrunkRec) (n : Nat) : (r.cutAt n).transmitting = r.transmitting := rfl
@[simp] theorem TrunkRec.cutAt_stall (r : TrunkRec) (n : Nat) : (r.cutAt n).stall = r.stall := rfl
@[simp] theorem TrunkRec.cutAt_counters (r : TrunkRec) (n : Nat) : (r.cutAt n).counters = r.counters := rfl
@[simp] theorem TrunkRec.cutAt_depth (r : TrunkRec) (n : Nat) : (r.cutAt n).depth = r.depth := rfl
@[simp] theorem TrunkRec.cutAt_provingInterval (r : TrunkRec) (n : Nat) : (r.cutAt n).provingInterval = r.provingInterval := rfl
@[simp] theorem TrunkRec.cutAt_out (r : TrunkRec) (n : Nat) : (r.cutAt n).out = r.out.take (max r.given n) := rfl
@[simp] theorem TrunkRec.cutAt_given (r : TrunkRec) (n : Nat) : (r.cutAt n).given = min (max r.given n) r.out.length := rfl

end Sys2Proof.Machine
end

