-- ==== Sys2Proof/Laws/Ops.lean ====
section
/-! SUPPORT. For each shared operation, once, everything it can change: what later proofs cite instead of unfolding it. -/

namespace Sys2Proof.Machine

/-! ### What a trunk sends (R141, R192) -/

/-- A bound, tagged frame leaves as the start marker, its ten header bytes, its payload and its tag. -/
theorem Frame.symbols_eq (f : Frame) (b : Binding) (a : Sixteen) (hb : f.bound = some b) (ha : f.auth = some a) :
    f.symbols = .startMarker :: (headerBytes f.chan.val f.kind b.epoch b.seq f.payload.length ++ f.payload
      ++ sixteenBytes a).map .byte := by
  simp [Frame.symbols, Frame.linkBytes, hb, ha]

/-- What a cut can do (R142): nothing to a trunk that sends nothing, otherwise shorten what the modem was given, by one draw. -/
theorem State.cut_cases (s : State) (t : Trunk) :
    (((s.trunk t).transmitting = true ∧ (s.trunk t).hold = false)
      ∧ s.cut t = { s.modTrunk t fun r => r.cutAt (Config.taken s.draws) with draws := s.draws + 1 })
    ∨ (¬ ((s.trunk t).transmitting = true ∧ (s.trunk t).hold = false) ∧ s.cut t = s) := by
  unfold State.cut
  split <;> simp_all

/-- A cut keeps what an earlier cut of the transmission left (R142): of `out` a first part of at least `given` symbols. -/
theorem TrunkRec.cutAt_spec (r : TrunkRec) (n : Nat) (h : r.given ≤ r.out.length) :
    (r.cutAt n).out <+: r.out ∧ (r.cutAt n).given = (r.cutAt n).out.length ∧ r.given ≤ (r.cutAt n).given := by
  refine ⟨List.take_prefix _ _, by simp [TrunkRec.cutAt], ?_⟩
  simp only [TrunkRec.cutAt]; omega

/-- A released hold gives the modem the rest of the frame under transmission (R142): from nothing, all of it. -/
theorem TrunkRec.released_out (r : TrunkRec) (f : Frame) (l : List Frame) (ht : r.transmitting = true)
    (hq : r.queue = f :: l) : r.released.out = r.out ++ f.symbols.drop r.out.length := by
  simp [TrunkRec.released, ht, hq]

/-- What stalls at the stall limit: a transmission with a stall time that has reached it (R142). -/
theorem State.stallReached_iff (s : State) (t : Trunk) :
    s.stallReached t = true ↔ ∃ n, (s.trunk t).stall = some n ∧ s.settings.stallLimit ≤ n := by
  unfold State.stallReached
  split <;> simp_all

/-! ### The CRC (R197) -/

theorem strictly_eq {α : Type} (n : Nat) (f : Nat → α) : strictly n f = f n := by
  cases n <;> rfl

theorem crcRun_eq_foldl (l : List Byte) (c : BitVec 32) : crcRun l c = l.foldl crcByte c := by
  induction l generalizing c with
  | nil => rfl
  | cons b l ih => simp [crcRun, strictly_eq, ih]

/-! ### The buffer pool (R73, R74) -/

theorem Pool.take_total (p q : Pool) (h : Holder) (e : p.take h = some q) :
    q.free + q.totalHeld = p.free + p.totalHeld := by
  unfold Pool.take at e
  split at e
  case isTrue hc => cases e; cases h <;> simp [Pool.setHeld, Pool.held, Pool.totalHeld] at * <;> omega
  case isFalse => cases e

theorem Pool.give_total (p : Pool) (h : Holder) : (p.give h).free + (p.give h).totalHeld = p.free + p.totalHeld := by
  unfold Pool.give
  split
  case isTrue hc => cases h <;> simp [Pool.setHeld, Pool.held, Pool.totalHeld] at * <;> omega
  case isFalse => rfl

theorem Pool.allFree_total (p : Pool) : p.allFree.free + p.allFree.totalHeld = 128 := rfl

/-- A granted take (R73): one buffer from the free count to the source's holding. -/
theorem State.takeBuf_eq (s t : State) (h : Holder) (e : s.takeBuf h = some t) :
    s.pool.held h < s.pool.alloc h ∧ 0 < s.pool.free
      ∧ t = { s with pool := { s.pool.setHeld h (s.pool.held h + 1) with free := s.pool.free - 1 } } := by
  unfold State.takeBuf Pool.take at e
  split at e
  case isTrue hc => simp at e; exact ⟨hc.1, hc.2, e.symm⟩
  case isFalse => simp at e

/-- A take is granted exactly when the holding is below the allocation and a buffer is free (R73). -/
theorem State.takeBuf_isSome (s : State) (h : Holder) :
    (s.takeBuf h).isSome = true ↔ s.pool.held h < s.pool.alloc h ∧ 0 < s.pool.free := by
  unfold State.takeBuf Pool.take
  split <;> simp_all

/-! ### What the fault unit can change -/

/-- `t` is `s` after raises, report tests and report outcomes: the fault unit, port M's latches, and CONTROL's FIFO with
its buffers. -/
def FaultStep (s t : State) : Prop :=
  ∃ fu l po sc, t = { s with fault := fu, portM := { s.portM with latches := l }, pool := po, srcControl := sc }
    ∧ po.free + po.totalHeld = s.pool.free + s.pool.totalHeld
    ∧ (s.fault.queue.length ≤ 32 → fu.queue.length ≤ 32)

theorem FaultStep.refl (s : State) : FaultStep s s := ⟨s.fault, s.portM.latches, s.pool, s.srcControl, rfl, rfl, id⟩

theorem FaultStep.trans {s t u : State} (h : FaultStep s t) (k : FaultStep t u) : FaultStep s u := by
  obtain ⟨f1, l1, p1, c1, rfl, hp, hq⟩ := h
  obtain ⟨f2, l2, p2, c2, rfl, kp, kq⟩ := k
  exact ⟨f2, l2, p2, c2, rfl, kp.trans hp, fun x => kq (hq x)⟩

/-- The fault unit itself is replaced by one with a queue that is no longer. -/
theorem FaultStep.ofFault (s : State) (u : FaultUnit) (h : s.fault.queue.length ≤ 32 → u.queue.length ≤ 32) :
    FaultStep s { s with fault := u } := ⟨u, s.portM.latches, s.pool, s.srcControl, rfl, rfl, h⟩

theorem State.build?_step (s t : State) (k : Kind) (p : List Byte) (e : s.build? k p = some t) :
    ∃ po sc, t = { s with pool := po, srcControl := sc } ∧ po.free + po.totalHeld = s.pool.free + s.pool.totalHeld := by
  unfold State.build? State.takeBuf at e
  cases h : s.pool.take .control with
  | none => simp [h] at e
  | some q =>
    simp only [h, Option.map_some] at e
    cases e
    exact ⟨q, _, rfl, Pool.take_total _ _ _ h⟩

theorem State.build_step (s : State) (k : Kind) (p : List Byte) : FaultStep s (s.build k p) := by
  unfold State.build
  cases h : s.build? k p with
  | none => exact .refl s
  | some t =>
    obtain ⟨po, sc, rfl, hp⟩ := s.build?_step t k p h
    exact ⟨s.fault, s.portM.latches, po, sc, rfl, hp, id⟩

/-- A message that the part builds: Builds says what it leaves of CONTROL and the pool, and nothing else changes. -/
theorem State.build_builds (s : State) (k : Kind) (p : List Byte) :
    s.Builds (s.build k p) k p ∧ { s.build k p with srcControl := s.srcControl, pool := s.pool } = s := by
  have h : s.takeBuf .control = if s.pool.heldControl < 8 ∧ 0 < s.pool.free then
      some { s with pool := { s.pool with heldControl := s.pool.heldControl + 1, free := s.pool.free - 1 } } else none := by
    unfold State.takeBuf Pool.take; split <;> rename_i c
    · rw [if_pos (by exact c)]; rfl
    · rw [if_neg (by exact c)]; rfl
  unfold State.Builds State.build State.build?
  rw [h]; split <;> exact ⟨⟨rfl, rfl⟩, rfl⟩

theorem markReport_length (n : Nat) (q : List FaultRec) : (markReport n q).length = q.length := by
  induction q generalizing n with
  | nil => cases n <;> rfl
  | cons r q ih =>
    cases n with
    | zero => rfl
    | succ n => unfold markReport; split <;> simp [ih]

theorem State.buildReport_step (s : State) : FaultStep s s.buildReport := by
  unfold State.buildReport
  split
  · exact .refl s
  · next t h =>
    obtain ⟨po, sc, rfl, hp⟩ := s.build?_step t _ _ h
    exact ⟨_, s.portM.latches, po, sc, rfl, hp, fun x => by simpa [markReport_length] using x⟩

theorem State.reportTest_step (s : State) (b : Bool) : FaultStep s (s.reportTest b) := by
  unfold State.reportTest
  split
  · exact s.buildReport_step
  · exact .refl s

theorem State.reportOutcome_step (s : State) (sent : Bool) : FaultStep s (s.reportOutcome sent) := by
  unfold State.reportOutcome
  split
  · exact .refl s
  · refine .trans (.ofFault s _ fun x => ?_) (State.reportTest_step _ false)
    cases sent
    · simpa using x
    · exact (List.length_filter_le _ _).trans (by simpa using x)

theorem State.latchFault_step (s : State) : FaultStep s s.latchFault :=
  ⟨s.fault, _, s.pool, s.srcControl, rfl, rfl, id⟩

theorem removeFirst_length (p : FaultRec → Bool) (q : List FaultRec) (h : q.any p = true) :
    (removeFirst p q).length + 1 = q.length := by
  induction q with
  | nil => simp at h
  | cons r q ih =>
    unfold removeFirst
    split
    · rfl
    · next hr => simp [hr] at h; simp [ih (by simpa using h)]

theorem FaultUnit.makeRoom_length (u v : FaultUnit) (sev : Severity) (h : u.makeRoom sev = some v) :
    v.queue.length + 1 = u.queue.length := by
  unfold FaultUnit.makeRoom at h
  split at h
  · next hc => cases h; exact removeFirst_length _ _ hc
  · simp only at h
    split at h
    · split at h
      · cases h
      · next r hr =>
        cases h
        refine removeFirst_length _ _ ?_
        have := List.find?_some hr
        exact List.any_eq_true.2 ⟨r, List.mem_of_find?_eq_some hr, this⟩
    · cases h

theorem State.appendRecord_step (s : State) (r : FaultRec) : FaultStep s (s.appendRecord r) := by
  unfold State.appendRecord
  simp only
  split
  · exact .ofFault s _ id
  · next u h =>
    have hlen : s.fault.queue.length ≤ 32 → (u.queue ++ [r]).length ≤ 32 := by
      intro hq
      split at h
      · cases h; simp; omega
      · have := FaultUnit.makeRoom_length _ _ _ h; simp; omega
    have h1 : FaultStep s (State.latchFault { s with fault := { u with queue := u.queue ++ [r] } }) :=
      .trans (.ofFault s _ hlen) (State.latchFault_step _)
    split
    · exact h1.trans (State.reportTest_step _ _)
    · exact h1

/-- A raise (R152 to R156) changes the fault unit, port M's latches, and CONTROL's FIFO with its buffers. -/
theorem State.raise_step (s : State) (k : FaultKind) (c : Option ChanId) (t : Option Trunk) (pt : Option Port) :
    FaultStep s (s.raise k c t pt) := by
  have h0 : FaultStep s { s with fault := s.fault.latched k } := by
    refine .ofFault s _ fun x => ?_
    unfold FaultUnit.latched
    split
    · exact x
    · exact x
  unfold State.raise
  simp only
  split
  · exact h0
  · split
    · exact h0.trans (.ofFault _ _ fun x => by simpa [FaultUnit.coalesce] using x)
    · exact h0.trans (State.appendRecord_step _ _)

/-! ### Outcomes of frames (R59) -/

/-- `t` is `s` after outcomes of frames and raises: beside the fault unit's changes, the three port records. -/
def OutcomeStep (s t : State) : Prop :=
  ∃ fu pg pp pm po sc,
    t = { s with fault := fu, portG := pg, portP := pp, portM := pm, pool := po, srcControl := sc }
    ∧ po.free + po.totalHeld = s.pool.free + s.pool.totalHeld
    ∧ (s.fault.queue.length ≤ 32 → fu.queue.length ≤ 32)

theorem FaultStep.outcome {s t : State} (h : FaultStep s t) : OutcomeStep s t := by
  obtain ⟨f, l, p, c, rfl, hp, hq⟩ := h
  exact ⟨f, s.portG, s.portP, _, p, c, rfl, hp, hq⟩

theorem OutcomeStep.refl (s : State) : OutcomeStep s s := (FaultStep.refl s).outcome

theorem OutcomeStep.trans {s t u : State} (h : OutcomeStep s t) (k : OutcomeStep t u) : OutcomeStep s u := by
  obtain ⟨f1, a1, b1, m1, p1, c1, rfl, hp, hq⟩ := h
  obtain ⟨f2, a2, b2, m2, p2, c2, rfl, kp, kq⟩ := k
  exact ⟨f2, a2, b2, m2, p2, c2, rfl, kp.trans hp, fun x => kq (hq x)⟩

theorem State.modPort_step (s : State) (pt : Port) (f : PortRec → PortRec) : OutcomeStep s (s.modPort pt f) := by
  cases pt
  · exact ⟨s.fault, f s.portG, s.portP, s.portM, s.pool, s.srcControl, rfl, rfl, id⟩
  · exact ⟨s.fault, s.portG, f s.portP, s.portM, s.pool, s.srcControl, rfl, rfl, id⟩
  · exact ⟨s.fault, s.portG, s.portP, f s.portM, s.pool, s.srcControl, rfl, rfl, id⟩

theorem State.complete_step (s : State) (pt : Port) (c : Completion) (o m : Bool) :
    OutcomeStep s (s.complete pt c o m) := s.modPort_step pt _

theorem State.latchChannel_step (s : State) (pt : Port) : OutcomeStep s (s.latchChannel pt) := s.modPort_step pt _

theorem State.tellChannel_step (s : State) (c : ChanId) : OutcomeStep s (s.tellChannel c) := s.latchChannel_step _

theorem State.giveBuf_step (s : State) (h : Holder) : OutcomeStep s (s.giveBuf h) :=
  ⟨s.fault, s.portG, s.portP, s.portM, s.pool.give h, s.srcControl, rfl, s.pool.give_total h, id⟩

/-- The outcome of a frame (R59): its buffer, its port's completion, or the report's outcome. -/
theorem State.outcome_step (s : State) (f : Frame) (res : Result) : OutcomeStep s (s.outcome f res) := by
  unfold State.outcome
  simp only
  split
  · exact (s.giveBuf_step _).trans (State.complete_step _ _ _ _ _)
  · split
    · exact (s.giveBuf_step _).trans (State.reportOutcome_step _ _).outcome
    · exact s.giveBuf_step _

theorem OutcomeStep.foldl {α : Type} (f : State → α → State) (h : ∀ s a, OutcomeStep s (f s a)) (l : List α) (s : State) :
    OutcomeStep s (l.foldl f s) := by
  induction l generalizing s with
  | nil => exact .refl s
  | cons a l ih => exact (h s a).trans (ih _)

/-! ### Key slots (R36, R26) -/

/-- A wipe order (R36) changes the slots, and abandons derivations into the slot. -/
theorem State.wipe_step (s : State) (i : SlotId) :
    ∃ sl de co, s.wipe i = { s with slots := sl, derivs := de, core := co }
      ∧ (co = s.core ∨ (∃ d, s.core = .derives d ∧ co = .idle)) := by
  unfold State.wipe
  simp only
  split
  · exact ⟨s.slots, s.derivs, s.core, rfl, .inl rfl⟩
  · split
    · exact ⟨_, s.derivs, s.core, rfl, .inl rfl⟩
    · refine ⟨_, _, _, rfl, ?_⟩
      simp only [State.modSlot]
      cases h : s.core with
      | derives d => by_cases hd : d.into i = true <;> simp [hd]
      | _ => simp

/-- Any number of wipes: slots and derivations only. -/
theorem State.wipes_step (l : List SlotId) (p : State → SlotId → Bool) (s : State) :
    ∃ sl de co, l.foldl (fun s i => if p s i then s.wipe i else s) s = { s with slots := sl, derivs := de, core := co }
      ∧ (co = s.core ∨ (∃ d, s.core = .derives d ∧ co = .idle)) := by
  induction l generalizing s with
  | nil => exact ⟨s.slots, s.derivs, s.core, rfl, .inl rfl⟩
  | cons i l ih =>
    simp only [List.foldl_cons]
    split
    · obtain ⟨a, b, c, h, hc⟩ := s.wipe_step i
      obtain ⟨a', b', c', h', hc'⟩ := ih (s.wipe i)
      rw [h] at h' hc' ⊢
      refine ⟨a', b', c', h', ?_⟩
      rcases hc' with rfl | ⟨d, hd, rfl⟩
      · exact hc
      · rcases hc with hc | ⟨d', _, hc⟩
        · exact .inr ⟨d, by simpa [hc] using hd, rfl⟩
        · simp [hc] at hd
    · exact ih s

/-! ### Requests (R99) and freezing (R13) -/

/-- `t` is `s` after requests and freezes: channels, the wait list, the ports' latches, and what raises change. -/
def ChanStep (s t : State) : Prop :=
  ∃ ch sd fu pg pp pm po sc,
    t = { s with
      chans := ch, sched := sd, fault := fu, portG := pg, portP := pp, portM := pm, pool := po, srcControl := sc }
    ∧ po.free + po.totalHeld = s.pool.free + s.pool.totalHeld
    ∧ (s.fault.queue.length ≤ 32 → fu.queue.length ≤ 32)
    ∧ (s.sched.waitList.length ≤ 31 → sd.waitList.length ≤ 31)

theorem OutcomeStep.chan {s t : State} (h : OutcomeStep s t) : ChanStep s t := by
  obtain ⟨f, a, b, m, p, c, rfl, hp, hq⟩ := h
  exact ⟨s.chans, s.sched, f, a, b, m, p, c, rfl, hp, hq, id⟩

theorem ChanStep.refl (s : State) : ChanStep s s := (OutcomeStep.refl s).chan

theorem ChanStep.trans {s t u : State} (h : ChanStep s t) (k : ChanStep t u) : ChanStep s u := by
  obtain ⟨ch1, sd1, f1, a1, b1, m1, p1, c1, rfl, hp, hq, hw⟩ := h
  obtain ⟨ch2, sd2, f2, a2, b2, m2, p2, c2, rfl, kp, kq, kw⟩ := k
  exact ⟨ch2, sd2, f2, a2, b2, m2, p2, c2, rfl, kp.trans hp, fun x => kq (hq x), fun x => kw (hw x)⟩

theorem State.modChan_step (s : State) (c : ChanId) (f : Chan → Chan) : ChanStep s (s.modChan c f) :=
  ⟨_, s.sched, s.fault, s.portG, s.portP, s.portM, s.pool, s.srcControl, rfl, rfl, id, id⟩

/-- The scheduler is replaced by one with a wait list within its bound. -/
theorem ChanStep.ofSched (s : State) (d : Scheduler)
    (h : s.sched.waitList.length ≤ 31 → d.waitList.length ≤ 31) : ChanStep s { s with sched := d } :=
  ⟨s.chans, d, s.fault, s.portG, s.portP, s.portM, s.pool, s.srcControl, rfl, rfl, id, h⟩

theorem State.setRenewal_step (s : State) (c : ChanId) (r : Renewal) : ChanStep s (s.setRenewal c r) :=
  (s.modChan_step c _).trans (State.tellChannel_step _ _).chan

theorem placeEntry_length (l : List WaitEntry) (e : WaitEntry) (b : Bool) : (placeEntry l e b).length = l.length + 1 := by
  unfold placeEntry
  split
  · rfl
  · split
    · have := List.length_eq_length_filter_add (l := l) (fun x : WaitEntry => x.reason.urgent)
      simp only [List.length_append, List.length_cons]
      omega
    · simp

theorem State.join_step (s : State) (c : ChanId) (r : Reason) (b : Bool) : ChanStep s (s.join c r b).1 := by
  unfold State.join
  split
  · next h =>
    refine .trans (.ofSched s _ fun _ => ?_) (.trans (State.modChan_step _ _ _) (State.tellChannel_step _ _).chan)
    simp only [placeEntry_length]; omega
  · exact .refl s

theorem State.unlist_step (s : State) (c : ChanId) : ChanStep s (s.unlist c) :=
  .ofSched s _ fun h => (List.length_filter_le _ _).trans h

theorem State.relist_step (s : State) (c : ChanId) (r : Reason) : ChanStep s (s.relist c r).1 := by
  unfold State.relist
  split
  · exact .refl s
  · next e he =>
    split
    · refine .trans (.ofSched s { s.sched with waitList := _ } fun h => ?_) (State.tellChannel_step _ _).chan
      unfold State.entryOf at he
      have hm := List.mem_of_find?_eq_some he
      have hp := List.find?_some he
      have hlt : (s.sched.waitList.filter fun x => x.chan != c).length < s.sched.waitList.length := by
        refine List.length_filter_lt_length_iff_exists.2 ⟨e, hm, ?_⟩
        simp_all
      simp only [State.unlist, placeEntry_length]
      omega
    · exact .refl s

/-- A request to list a channel (R99, R100). -/
theorem State.request_step (s : State) (c : ChanId) (r : Reason) (p b : Bool) : ChanStep s (s.request c r p b).1 := by
  unfold State.request
  simp only
  split
  all_goals first
    | exact .refl s
    | exact s.relist_step c _
    | exact s.join_step c _ b
    | ((repeat' split) <;> first | exact s.join_step c _ b | exact .refl s)

/-- A freeze request (R13). -/
theorem State.freeze_step (s : State) (c : ChanId) : ChanStep s (s.freeze c) := by
  unfold State.freeze
  split
  · exact (s.modChan_step c _).trans (.trans (State.raise_step _ _ _ _ _).outcome.chan (State.tellChannel_step _ _).chan)
  · exact .refl s

/-! ### Consultations (R51, R82) -/

/-- `t` is `s` after consultations: the sources' lists, freezes, and the arbiter's accounts. -/
def ConsultStep (s t : State) : Prop :=
  ∃ ch sd fu pg pp pm po g p m c a,
    t = { s with
      chans := ch, sched := sd, fault := fu, portG := pg, portP := pp, portM := pm, pool := po, srcG := g, srcP := p,
      srcM := m, srcControl := c, arb := a }
    ∧ po.free + po.totalHeld = s.pool.free + s.pool.totalHeld
    ∧ (s.fault.queue.length ≤ 32 → fu.queue.length ≤ 32)
    ∧ (s.sched.waitList.length ≤ 31 → sd.waitList.length ≤ 31)

theorem ChanStep.consult {s t : State} (h : ChanStep s t) : ConsultStep s t := by
  obtain ⟨ch, sd, f, a, b, m, p, c, rfl, hp, hq, hw⟩ := h
  exact ⟨ch, sd, f, a, b, m, p, s.srcG, s.srcP, s.srcM, c, s.arb, rfl, hp, hq, hw⟩

theorem ConsultStep.refl (s : State) : ConsultStep s s := (ChanStep.refl s).consult

theorem ConsultStep.trans {s t u : State} (h : ConsultStep s t) (k : ConsultStep t u) : ConsultStep s u := by
  obtain ⟨_, _, _, _, _, _, _, _, _, _, _, _, rfl, hp, hq, hw⟩ := h
  obtain ⟨x1, x2, x3, x4, x5, x6, x7, x8, x9, x10, x11, x12, rfl, kp, kq, kw⟩ := k
  exact ⟨x1, x2, x3, x4, x5, x6, x7, x8, x9, x10, x11, x12, rfl, kp.trans hp, fun x => kq (hq x), fun x => kw (hw x)⟩

theorem State.modSrc_step (s : State) (o : OutSrc) (f : Source → Source) : ConsultStep s (s.modSrc o f) := by
  cases o
  · exact ⟨s.chans, s.sched, s.fault, s.portG, s.portP, s.portM, s.pool, f s.srcG, s.srcP, s.srcM, s.srcControl, s.arb,
      rfl, rfl, id, id⟩
  · exact ⟨s.chans, s.sched, s.fault, s.portG, s.portP, s.portM, s.pool, s.srcG, f s.srcP, s.srcM, s.srcControl, s.arb,
      rfl, rfl, id, id⟩
  · exact ⟨s.chans, s.sched, s.fault, s.portG, s.portP, s.portM, s.pool, s.srcG, s.srcP, f s.srcM, s.srcControl, s.arb,
      rfl, rfl, id, id⟩
  · exact ⟨s.chans, s.sched, s.fault, s.portG, s.portP, s.portM, s.pool, s.srcG, s.srcP, s.srcM, f s.srcControl, s.arb,
      rfl, rfl, id, id⟩

theorem State.testFrame_step (s : State) (f : Frame) : ChanStep s (s.testFrame f).1 := by
  unfold State.testFrame
  split
  · exact s.freeze_step _
  · exact .refl s

theorem State.testHeld_step (l : List Frame) (s : State) (b : Option Frame) : ChanStep s (State.testHeld l s b).1 := by
  induction l generalizing s b with
  | nil => exact .refl s
  | cons f l ih =>
    unfold State.testHeld
    have h := s.testFrame_step f
    split
    · next t e => rw [e] at h; exact h.trans (ih t _)
    · next t e => rw [e] at h; exact h.trans (ih t _)

theorem State.scanFifo_step (o : OutSrc) (l : List Frame) (s : State) : ConsultStep s (State.scanFifo o l s).1 := by
  induction l generalizing s with
  | nil => exact .refl s
  | cons f l ih =>
    unfold State.scanFifo
    split
    · exact (State.modSrc_step _ _ _).trans (ih _)
    · have h := s.testFrame_step f
      split
      · next t e => rw [e] at h; exact h.consult
      · next t e => rw [e] at h; exact h.consult.trans ((State.modSrc_step _ _ _).trans (ih _))

/-- A source consulted (R51). -/
theorem State.consult_step (s : State) (o : OutSrc) : ConsultStep s (s.consult o).1 := by
  unfold State.consult
  have h := State.testHeld_step ((s.src o).firsts o) s none
  split
  · next t f e => rw [e] at h; exact h.consult
  · next t e => rw [e] at h; exact h.consult.trans (State.scanFifo_step _ _ _)

theorem State.offers_step (s : State) : ConsultStep s s.offers.1 := by
  have h1 := s.consult_step .control
  have h2 := (s.consult .control).1.consult_step .p
  have h3 := ((s.consult .control).1.consult .p).1.consult_step .g
  have h4 := (((s.consult .control).1.consult .p).1.consult .g).1.consult_step .m
  have e : s.offers.1 = ((((s.consult .control).1.consult .p).1.consult .g).1.consult .m).1 := by rw [State.offers]
  rw [e]
  exact ((h1.trans h2).trans h3).trans h4

theorem State.arbitrate_fst (s : State) : s.arbitrate.1 = s.offers.1 := by
  rw [State.arbitrate]
  generalize s.offers = o
  obtain ⟨a, b, c, d, e, f⟩ := o
  cases b <;> rfl

/-- The arbiter's consultation (R82). -/
theorem State.arbitrate_step (s : State) : ConsultStep s s.arbitrate.1 := by
  rw [s.arbitrate_fst]
  exact s.offers_step

/-- The consultation of an idle core when nothing is ready (R82, R84). -/
theorem State.rest_step (s : State) : ConsultStep s s.rest := by
  unfold State.rest
  split
  · have h := s.arbitrate_step
    split
    · next t e =>
      rw [e] at h
      exact h.trans ⟨t.chans, t.sched, t.fault, t.portG, t.portP, t.portM, t.pool, t.srcG, t.srcP, t.srcM, t.srcControl,
        _, rfl, rfl, id, id⟩
    · exact .refl s
  · exact .refl s

/-- A core that works, or for which a derivation waits, makes no consultation (R82). -/
theorem State.rest_working (s : State) (h : s.Working) : s.rest = s := by
  unfold State.Working at h
  unfold State.rest
  simp [h]

/-! ### The bootstrap request -/

/-- What a bootstrap request can do (R41, R184): wait for a write, enter SAFE at 65,535, or begin the count write. -/
theorem State.beginBootstrap_cases (s : State) :
    (s.store.write ≠ none ∧ s.beginBootstrap = { s with store := { s.store with bootWaits := true } })
    ∨ (s.store.write = none ∧ 65535 ≤ imageCount s.store.image ∧ s.beginBootstrap = (s.raise .bootLimit).enterSafe)
    ∨ (s.store.write = none ∧ imageCount s.store.image < 65535 ∧ s.beginBootstrap = { s with
        store := { s.store with write := some (.count (imageCount s.store.image + 1)), bootWaits := false }
        derivs := s.derivs ++ [.bootstrap (imageCount s.store.image + 1)] }) := by
  unfold State.beginBootstrap
  cases h : s.store.write with
  | some w => exact .inl ⟨by simp, rfl⟩
  | none =>
    rcases Nat.lt_or_ge (imageCount s.store.image) 65535 with c | c
    · exact .inr (.inr ⟨rfl, c, by simp [Nat.not_le.mpr c]⟩)
    · exact .inr (.inl ⟨rfl, c, by simp [c]⟩)

end Sys2Proof.Machine
end

