-- ==== Sys2Proof/Tests/Slice0.lean ====
section
/-! SUPPORT. Tests: ill-formed commands, records written out from R194, worked numbers of spec/, and for every
statement with hypotheses a state that meets them. Expected values come from spec/, never from the model. -/

namespace Sys2Proof.Tests

open Sys2Proof Sys2Proof.Machine
set_option Elab.async false

/-! ### WellFormed: each check refuses a command just past its bound -/

theorem test_wf_channel_byte : (Instr.closeChannel .m 0 255).wf = true ∧ (Instr.closeChannel .m 0 256).wf = false
    ∧ (Instr.send .g 0 256 [1]).wf = false ∧ (Instr.channelStatus .g 0 256).wf = false
    ∧ (Instr.openChannel .m 0 256 {}).wf = false ∧ (Instr.setLimits .m 0 256 {}).wf = false
    ∧ (Instr.renew .g 0 256).wf = false ∧ (Instr.abortRenewal .m 0 256).wf = false := by decide

theorem test_wf_payload : (Instr.send .g 0 0 (List.replicate 2048 0)).wf = true
    ∧ (Instr.send .g 0 0 (List.replicate 2049 0)).wf = false := by decide +kernel

theorem test_wf_limits : (Instr.setLimits .m 0 1 { hard := some 4294967295, margin := some 255, lead := some 65535 }).wf
      = true
    ∧ (Instr.setLimits .m 0 1 { hard := some 4294967296 }).wf = false
    ∧ (Instr.setLimits .m 0 1 { margin := some 256 }).wf = false
    ∧ (Instr.setLimits .m 0 1 { age := some 4294967296 }).wf = false
    ∧ (Instr.setLimits .m 0 1 { lead := some 65536 }).wf = false
    ∧ (Instr.openChannel .m 0 1 { hold := some 256 }).wf = false := by decide

theorem test_wf_values : (Instr.setAllocations .m 0 { g := some 65536 }).wf = false
    ∧ (Instr.setAllocations .m 0 { p := some 65536 }).wf = false
    ∧ (Instr.setAllocations .m 0 { m := some 65536 }).wf = false
    ∧ (Instr.setAllocations .m 0 { inbound := some 65536 }).wf = false
    ∧ (Instr.setShares .m 0 { inbound := some 65536 }).wf = false ∧ (Instr.setShares .m 0 { p := some 65536 }).wf = false
    ∧ (Instr.setShares .m 0 { g := some 65536 }).wf = false ∧ (Instr.setShares .m 0 { m := some 65536 }).wf = false
    ∧ (Instr.setShares .m 0 { m := some 65535 }).wf = true := by decide

theorem test_wf_lists : (Instr.clearLatches .m 0 [.tamper, .tamper]).wf = false
    ∧ (Instr.setFaultMask .m 0 [.protocol, .protocol]).wf = false
    ∧ (Instr.clearLatches .m 0 [.tamper, .protocol]).wf = true := by decide

theorem test_wf_numbers : (Instr.keyStoreStatus .m 0 256).wf = false ∧ (Instr.setLine .m 0 256 none none none).wf = false
    ∧ (Instr.writeSettings .m 0 (List.replicate 132 0)).wf = false
    ∧ (Instr.writeSettings .m 0 (List.replicate 133 0)).wf = true
    ∧ (Instr.undefinedTransaction .m 4).wf = false ∧ (Instr.undefinedTransaction .m 5).wf = true
    ∧ (Instr.undefinedTransaction .m 0).wf = true := by decide +kernel

/-! ### Records written out byte by byte from R194 and Table 11-4 -/

theorem test_decode_traffic : decodeTransaction .g [0x01, 0x01, 0x2A, 0x00, 0x03, 0x04, 0xDE, 0xAD]
      = .send .g 0x2A 4 [0xDE, 0xAD]
    ∧ decodeTransaction .p [0x02] = .readCompletion .p ∧ decodeTransaction .p [0x03] = .readDelivery .p
    ∧ decodeTransaction .m [0x04, 0x08] = .readAttention .m 0x08
    ∧ decodeTransaction .m [0x05] = .undefinedTransaction .m 0x05
    ∧ decodeTransaction .m [] = .transactionCutShort .m := by decide +kernel

theorem test_decode_administration :
    decodeRecord .m [0x03, 0x01, 0x00, 0x07, 0x01, 0x11, 0x02, 0x00, 0x10, 0x00, 0x00]
      = .openChannel .m 0x01 17 { hard := some 1048576 }
    ∧ decodeRecord .p [0x04, 0x02, 0x00, 0x02, 0x01, 0x05] = .closeChannel .p 0x02 5
    ∧ decodeRecord .m [0x05, 0x03, 0x00, 0x0E, 0x01, 0x16, 0x04, 0x00, 0x00, 0x00, 0x1E, 0x05, 0x00, 0x78, 0x06, 0x5A,
        0x07, 0x01] = .setLimits .m 0x03 22 { age := some 30, lead := some 120, hold := some 90, route := some .t1Only }
    ∧ decodeRecord .g [0x06, 0x04, 0x00, 0x02, 0x01, 0x00] = .renew .g 0x04 0 := by decide +kernel

theorem test_decode_blocks :
    decodeRecord .m [0x09, 0x10, 0x00, 0x08, 0x08, 0x01, 0x00, 0x28, 0x08, 0x00, 0x00, 0x30]
      = .setAllocations .m 0x10 { g := some 48, p := some 40 }
    ∧ decodeRecord .m [0x0B, 0x11, 0x00, 0x04, 0x08, 0x03, 0x01, 0x00] = .setShares .m 0x11 { inbound := some 256 }
    ∧ decodeRecord .m [0x0F, 0x12, 0x00, 0x03, 0x09, 0x01, 0x00] = .setTrunk .m 0x12 .t1 false
    ∧ decodeRecord .m ([0x11, 0x13, 0x00, 0x12, 0x0E, 0x00, 0x01] ++ List.replicate 14 0x00 ++ [0x01])
      = .clearLatches .m 0x13 [.settingsBad, .restarted]
    ∧ decodeRecord .m [0x15, 0x14, 0x00, 0x06, 0x0B, 0x00, 0x0C, 0x00, 0xFF, 0x01]
      = .setPort .m 0x14 .g (some false) none (some true)
    ∧ decodeRecord .m [0x17, 0x15, 0x00, 0x05, 0x0A, 0x07, 0x01, 0xFF, 0x00]
      = .setLine .m 0x15 7 (some true) none (some false) := by decide +kernel

theorem test_decode_status :
    decodeRecord .m [0x08, 0x20, 0x00, 0x02, 0x0D, 0x2F] = .keyStoreStatus .m 0x20 47
    ∧ decodeRecord .m [0x10, 0x21, 0x00, 0x01, 0x0F] = .trunkStatus .m 0x21 true
    ∧ decodeRecord .p [0x16, 0x22, 0x00, 0x02, 0x0B, 0x01] = .portStatus .p 0x22 .p false
    ∧ decodeRecord .m [0x19, 0x23, 0x00, 0x00] = .partStatus .m 0x23
    ∧ decodeRecord .m [0x1C, 0x24, 0x00, 0x00] = .zeroize .m 0x24
    ∧ decodeRecord .m ([0x1A, 0x25, 0x00, 0x85] ++ List.replicate 133 0x07)
      = .writeSettings .m 0x25 (List.replicate 133 0x07) := by decide +kernel

theorem test_decode_malformed :
    (∀ l ∈ [[0x1D, 1, 0, 0], [0x19, 1, 0, 1], [0x01, 1, 0, 0], [0x1C, 1, 0, 1, 0], [0x04, 1, 0, 4, 1, 5, 1, 5],
        [0x04, 1, 0, 2, 0x0D, 5], [0x05, 1, 0, 4, 1, 5, 7, 3], [0x05, 1, 0, 4, 1, 5, 2, 0], [0x0F, 1, 0, 3, 9, 0, 2],
        [0x09, 1, 0, 8, 8, 0, 0, 1, 8, 0, 0, 2]],
      decodeRecord .m l = .undefinedCommand .m l) := by decide +kernel

/-! ### Worked numbers of spec/ -/

/-- R2: both examples of the rule. -/
theorem test_soft_limit : softLimit 1048576 8 = 917504 ∧ softLimit 65536 1 = 64512 := by decide

/-- Example 5-1, the first evaluation: E 16,000, s 8,900, W 708,900, H 1,048,576. -/
theorem test_estimate_and_projection : cost 1400 = 89 ∧ estimate 16000 (sampleOf 8900) = 31800
    ∧ projection 1048576 708900 31800 = 170 := by decide

/-- The two labels of Table 2-3, letter by letter in ASCII. -/
theorem test_labels :
    turnoverLabel = ['t', 'u', 'r', 'n', 'o', 'v', 'e', 'r'].map (fun c => BitVec.ofNat 8 c.toNat)
      ∧ bootstrapLabel = ['b', 'o', 'o', 't', 's', 't', 'r', 'a', 'p'].map (fun c => BitVec.ofNat 8 c.toNat) := by
  decide

/-- R23, Tables 1-6 and 11-5: the class defaults in the image of a new part, CONTROL and PAYMENT byte by byte. -/
theorem test_delivered_image : (deliveredImage.drop 81).take 26
      = [0x00, 0x40, 0x00, 0x00, 0x08, 0x00, 0x01, 0x51, 0x80, 0x01, 0x2C, 0x1E, 0x02,
        0x01, 0x00, 0x00, 0x00, 0x08, 0x00, 0x00, 0x0E, 0x10, 0x00, 0x78, 0x05, 0x02]
    ∧ deliveredImage.length = 139 ∧ State.reset.store.image = deliveredImage ∧ imageCheck deliveredImage ≠ 0 := by
  decide +kernel

/-- R141, R192: what leaves of a DATA frame of channel 17, epoch 41, sequence 5, payload ABh, tag 3, up to its end. -/
theorem test_transmission_bytes :
    let f : Frame := ⟨.p, .data, 17, 0, 9, false, 0, [0xAB], none, some ⟨1, 41, 5, .t0⟩, some 3⟩
    (TrunkRec.begin (.fresh ⟨true, 5, 8⟩ false) f).out
      = .startMarker :: ([0x11, 0x01, 0x00, 0x29, 0x00, 0x00, 0x00, 0x05, 0x00, 0x01, 0xAB]
          ++ List.replicate 15 0x00 ++ [0x03]).map .byte
    ∧ (TrunkRec.finish (.fresh ⟨true, 5, 8⟩ false) f []).out
      = (TrunkRec.begin (.fresh ⟨true, 5, 8⟩ false) f).out ++ [.endMarker] := by decide +kernel

/-- R197: the check value of this CRC-32 over the ASCII digits 1 to 9 is CBF43926h. -/
theorem test_crc : crc32 [0x31, 0x32, 0x33, 0x34, 0x35, 0x36, 0x37, 0x38, 0x39] = 0xCBF43926#32 := by decide +kernel

/-- Example 4-2: P and G ready without pause, u = 89 each. -/
theorem test_rounds :
    let x : Offers := ⟨none, some ⟨.p, .data, 0, 0, 0, false, 0, [], none, none, none⟩,
      some ⟨.g, .data, 0, 0, 0, false, 0, [], none, none, none⟩, none, false⟩
    let a0 : Arbiter := ⟨⟨128, 192, 128, 32⟩, ⟨0, 0, 0, 0⟩, 0, .m⟩
    let a5 : Arbiter := ((((a0.charge .p 89).charge .g 89).charge .p 89).charge .g 89).charge .p 89
    a0.pick x = some .p ∧ (a0.charge .p 89).pick x = some .g ∧ a5.spent = ⟨0, 267, 178, 0⟩ ∧ a5.total = 445
      ∧ a5.pick x = some .g ∧ a5.charge .g 89 = { a0 with last := .g } := by decide +kernel

/-- R191, Table 11-1: a header of channel 17, DATA, epoch 41, sequence 5, length 1,400. -/
theorem test_header : headerBytes 17 .data 41 5 1400 = [0x11, 0x01, 0x00, 0x29, 0x00, 0x00, 0x00, 0x05, 0x05, 0x78] := by
  decide

/-- R63 at the edges of a window with top 100: 37 is the lowest number in it. -/
theorem test_window : Keyed.judge ⟨1, 0, 0, 1, 100, 1⟩ 37 = .accept ∧ Keyed.judge ⟨1, 0, 0, 1, 100, 1⟩ 36 = .late
    ∧ Keyed.judge ⟨1, 0, 0, 1, 100, 1⟩ 100 = .repeated ∧ Keyed.judge ⟨1, 0, 0, 1, 100, 1⟩ 101 = .accept
    ∧ Keyed.judge ⟨1, 0, 0, 1, 100, 1⟩ 0 = .late ∧ Keyed.judge ⟨1, 0, 0, 1, 5, 1⟩ 0 = .late := by decide

/-! ### States of the tests -/

/-- The image of a shop with the views of Example 1-1, the delivered values, and a bootstrap count. -/
def image (count : Nat) : List Byte :=
  sealImage (beBytes 8 7 ++ beBytes 32 5 ++ b2 count ++ [0, 0, 0, 0] ++ [1, 1, 16, 17, 2, 6, 18, 4, 3] ++ [82]
    ++ [64, 24, 8, 24] ++ b2 128 ++ b2 192 ++ b2 128 ++ b2 32 ++ [1, 5, 8, 1, 2, 8] ++ [20, 6, 4, 5, 30, 1, 1]
    ++ (b4 4194304 ++ [8] ++ b4 86400 ++ b2 300 ++ [30, 2]) ++ (b4 16777216 ++ [8] ++ b4 3600 ++ b2 120 ++ [5, 2])
    ++ (b4 268435456 ++ [4] ++ b4 86400 ++ b2 300 ++ [30, 2]) ++ (b4 4194304 ++ [8] ++ b4 86400 ++ b2 300 ++ [60, 2])
    ++ [10, 1])

/-- The settings of that image. -/
def shop : Settings :=
  { Settings.delivered with
    fromImage := true, storeId := 7, rootKey := 5, views := some (⟨1, 1, 16⟩, ⟨17, 2, 6⟩, ⟨18, 4, 3⟩) }

/-- R183, R197: the image passes its check and loads as those settings. -/
theorem test_image_loads : imageCheck (image 3) = 0 ∧ loadImage (image 3) = shop
    ∧ imageCheck (putAt (image 3) 40 [9]) ≠ 0 := by decide +kernel

/-- A part in RUNNING with that image, every channel CLOSED, every trunk OFF, the core idle. -/
def run : State :=
  { State.reset with
    mode := .running, uptime := 100, core := .idle, settings := shop, store := ⟨image 3, false, none, false, false⟩
    chans := Vector.ofFn fun c : ChanId =>
      .fresh (shop.ownerOf c.val).1 (shop.ownerOf c.val).2 (shop.classLimits (shop.ownerOf c.val).2)
    fault := .fresh, portM := .fresh false }

/-- A key slot with a key, wear 10, age 3, next sequence 5, window top 100 with its own mark alone. -/
def keyed (st : SlotState) (c : ChanId) (epoch : Nat) : Slot :=
  ⟨st, some c, 0x11, 0x22, some ⟨epoch, 10, 3, 5, 100, 1⟩, if st = .settling then some 90 else none, false, false⟩

/-- The same part with T0 UP on its carrier, channel 0 LIVE in slot 0 and channel 1 of port G LIVE in slot 1. -/
def live : State :=
  { run with
    slots := (run.slots.set 0 (keyed .active 0 1)).set 1 (keyed .active 1 7)
    chans := (run.chans.set 0 { run.chan 0 with state := .live, cur := some 0 }).set 1
      { run.chan 1 with state := .live, cur := some 1 }
    t0 := { run.t0 with state := .up }, active := some .t0
    lines := run.lines.set 0 ⟨false, false, true, true⟩ }

/-- An outbound frame of `n` bytes. -/
def frame (o : OutSrc) (k : Kind) (c : ChanId) (n : Nat) : Frame := ⟨o, k, c, 0, 9, false, 0, List.replicate n 0xAB, none, none, none⟩

/-- The next state of a command. -/
def after (c : Instr) (s : State) : State :=
  match exec c s with
  | .next t => t
  | _ => s

/-- Example 1-1: port P's local 4 is channel 25, local 6 none; port M's local 1 is 22; 25 is in a view, 20 in none. -/
theorem test_views : run.resolveLocal .p 4 = some 25 ∧ run.resolveLocal .p 6 = none ∧ run.resolveLocal .m 1 = some 22
    ∧ run.resolveGlobal 25 = some 25 ∧ run.resolveGlobal 20 = none ∧ run.resolveGlobal 0 = some 0 := by decide +kernel

/-- Example 1-2: SET_LIMITS with H 40,000, m 0, A 30, hold limit 90 on a channel whose wear is 700,000. -/
theorem test_example_1_2 :
    let s := { live with
      chans := live.chans.set 22 { live.chan 22 with
        state := .live, cur := some 2, limits := ⟨1048576, 8, 86400, 300, 60, .follow⟩ }
      slots := live.slots.set 2 { keyed .active 22 7 with keyed := some ⟨7, 700000, 0, 1, 0, 0⟩ } }
    let t := after (.setLimits .m 1 22 { hard := some 40000, margin := some 0, age := some 30, hold := some 90 }) s
    (t.chan 22).limits = ⟨700000, 1, 60, 300, 60, .follow⟩ ∧ (t.chan 22).limits.soft = 689063 := by decide +kernel

/-- State.reset is what POWER_ON_RESET leaves of it (R186, log 6). -/
theorem test_reset_is_power_on_reset : after .powerOnReset State.reset = State.reset := by decide +kernel

/-! ### Witnesses: for each statement with hypotheses, states and operands that meet those of every clause -/

/-- The part waiting for its self-check, with an image of the given count. -/
def boots (count : Nat) : State := { run with mode := .starting, core := .derives .selfCheck, store.image := image count }

/-- The part in SAFE or LOCKDOWN. -/
def quiet (m : Mode) : State := { run with mode := m }

theorem test_witness_EmptyQueueLets100msPass : live.pending = []
    ∧ (let s := { live with t0 := { live.t0 with transmitting := true, hold := true, stall := some 19 } };
      s.pending = [] ∧ s.tick.t0.stall = some 20 ∧ s.tick.tick.t0.stall = some 20) := by decide +kernel

/-- One state meets all six laws, and its step answers a next state. -/
theorem test_witness_laws : (let s := { live with pending := [.uptimeStep] };
    s.PoolLaw ∧ s.QuietLaw ∧ s.BoundLaw ∧ s.SlotLaw ∧ s.TrunkLaw ∧ s.InboundLaw ∧ ∃ t, step s = .next t) := by
  refine ⟨by unfold State.PoolLaw; decide +kernel, by unfold State.QuietLaw; decide +kernel, ?_, ?_, ?_,
    by unfold State.InboundLaw; decide +kernel, _, rfl⟩
  · exact ⟨by decide +kernel, by decide +kernel, by decide +kernel, by intro pt; cases pt <;> decide +kernel,
      by decide +kernel⟩
  · unfold State.SlotLaw Slot.Law; decide +kernel
  · unfold State.TrunkLaw State.QueueLaw; decide +kernel

/-- QuietLaw's hypothesis: SAFE and LOCKDOWN. -/
theorem test_witness_QuietLaw : (quiet .safe).QuietLaw ∧ (quiet .lockdown).QuietLaw ∧ (quiet .safe).mode = .safe := by
  unfold State.QuietLaw; decide +kernel

theorem test_witness_ModeMovesAsTheTableSays :
    (after .powerOnReset (quiet .lockdown)).mode = .starting ∧ (after (.selfCheckEnd true) (boots 3)).mode = .running
    ∧ (after (.restart .m 1) (quiet .safe)).mode = .starting
    ∧ (after .deferredRestart { run with store.restartWaits := true }).mode = .starting
    ∧ (after (.selfCheckEnd false) (boots 3)).mode = .safe ∧ (after (.selfCheckEnd true) (boots 65535)).mode = .safe
    ∧ (after (.zeroize .m 1) { run with store.image := image 65535 }).mode = .safe
    ∧ (after .countWriteEnd { run with
        store := ⟨image 65534, false, some (.count 65535), false, true⟩ }).mode = .safe
    ∧ (after .settingsWriteEnd { run with
        store := ⟨image 3, false, some (.settings (image 65535) [] 0 1 false), false, true⟩ }).mode = .safe
    ∧ (after (.tamper true) run).mode = .lockdown
    ∧ (after .powerOnReset { run with lines := run.lines.set 2 ⟨false, false, true, true⟩ }).mode = .lockdown
    ∧ (after (.restart .m 1) { run with lines := run.lines.set 2 ⟨false, false, true, true⟩ }).mode = .lockdown
    ∧ (after (.setLine .m 1 2 none none (some true)) { run with
        lines := run.lines.set 2 ⟨false, false, false, true⟩ }).mode = .lockdown := by decide +kernel

theorem test_witness_OnlyTheseRowsChangeUptimeSettingsAndImage :
    (after .uptimeStep live).uptime = live.uptime + 1
    ∧ (after .powerOnReset { State.reset with store.image := image 3 }).settings ≠ State.reset.settings
    ∧ (after .powerOnReset live).uptime ≠ live.uptime
    ∧ (after .settingsWriteEnd { run with store.write := some (.settings (image 4) [] 0 1 false) }).store.image
      ≠ run.store.image := by decide +kernel

theorem test_witness_BusyAndMalformedTransactions :
    (writer (.partStatus .m 1) = some .m ∧ ¬ State.reset.Takes .m)
    ∧ ¬ State.Takes { run with portM.inReset := true } .m
    ∧ ¬ State.Takes (run.modPort .m fun r => { r with outstanding := 15, completions := [⟨0, 1, .done, []⟩] }) .m
    ∧ State.Takes (run.modPort .m fun r => { r with outstanding := 14, completions := [⟨0, 1, .done, []⟩] }) .m
    ∧ State.Takes (quiet .lockdown) .g
    ∧ (after (.undefinedCommand .m []) run).portM.completions = [⟨0, 0, .refused .badCommand, []⟩] := by
  unfold State.Takes; decide +kernel

theorem test_witness_NotAllowedAndModeRefusals :
    (∃ h, head (.setLimits .g 1 1 {}) = some h ∧ (Instr.setLimits .g 1 1 {}).wf = true ∧ run.Takes h.port
      ∧ onlyAtM h.kind ∧ h.port ≠ .m)
    ∧ (∃ h, head (.closeChannel .g 1 1) = some h ∧ run.Takes h.port ∧ h.port = .g ∧ h.kind = 0x04)
    ∧ (∃ h, head (.setPort .g 1 .g none none none) = some h ∧ run.Takes h.port ∧ h.port = .g ∧ h.kind = 0x15)
    ∧ (∃ h, head (.send .g 1 0 [1]) = some h ∧ (quiet .safe).Takes h.port ∧ ¬ onlyAtM h.kind ∧ onlyRunning h.kind)
    ∧ (∃ h, head (.channelStatus .p 1 0) = some h ∧ (quiet .safe).Takes h.port ∧ h.kind = 0x02 ∧ h.port ≠ .m)
    ∧ (∃ h, head (.writeSettings .m 1 (List.replicate 133 0)) = some h ∧ (quiet .lockdown).Takes h.port
      ∧ h.kind = 0x1A ∧ h.port = .m) := by
  unfold State.Takes onlyAtM onlyRunning
  exact ⟨⟨_, rfl, by decide +kernel⟩, ⟨_, rfl, by decide +kernel⟩, ⟨_, rfl, by decide +kernel⟩,
    ⟨_, rfl, by decide +kernel⟩, ⟨_, rfl, by decide +kernel⟩, ⟨_, rfl, by decide +kernel⟩⟩

theorem test_witness_StatusCommandsOnlyAnswer : live.Takes .m ∧ live.Takes .p ∧ live.mode = .running
    ∧ live.resolveGlobal 27 = some 27 ∧ live.resolveGlobal 0 = some 0 ∧ live.resolveGlobal 20 = none
    ∧ live.resolveGlobal 32 = none ∧ (quiet .lockdown).Takes .m
    ∧ live.Takes .g ∧ live.resolveLocal .g 15 = some 16 ∧ live.resolveLocal .g 16 = none
    ∧ live.resolveLocal .p 4 = some 25 ∧ live.resolveLocal .p 6 = none := by unfold State.Takes; decide +kernel

theorem test_witness_ReadTransactionsReturnAndRemove :
    (let s := run.modPort .g fun r => { r with completions := [⟨1, 1, .sent, []⟩], deliveries := [⟨0, [1]⟩] }
      let s := { s with pool.heldInbound := 1 };
      (s.port .g).inReset = false ∧ (s.port .g).completions = [⟨1, 1, .sent, []⟩]
        ∧ (s.port .g).deliveries = [⟨0, [1]⟩] ∧ 0 < s.pool.heldInbound)
    ∧ (run.port .p).inReset = false ∧ (run.port .p).completions = [] ∧ (run.port .p).deliveries = []
    ∧ ((after (.portReset .p) run).port .p).inReset = true := by decide +kernel

/-- A part with one frame in a FIFO of the given source, on a LIVE channel, ready to go. -/
def offering (o : OutSrc) (k : Kind) (c : ChanId) : State :=
  live.modSrc o fun r => { r with fifo := [frame o k c 16], nextSub := 1 }

theorem test_witness_PortResetEmptiesAndMarks :
    (let s := { run.modPort .g fun r => { r with deliveries := [⟨0, [1]⟩] } with pool.heldInbound := 1 };
      (s.port .g).deliveries.length ≤ s.pool.heldInbound)
    ∧ (let s := { offering .g .data 1 with
        core := .outbound (frame .g .data 1 16) none false
        store.write := some (.settings (image 4) [] 0 1 false) };
      (s.port .m).deliveries.length ≤ s.pool.heldInbound
        ∧ (after (.portReset .g) s).core = .outbound { frame .g .data 1 16 with marked := true } none false
        ∧ (after (.portReset .g) s).srcG.fifo = [{ frame .g .data 1 16 with marked := true }]
        ∧ (after (.portReset .m) s).store.write = some (.settings (image 4) [] 0 1 true)
        ∧ (after (.portReset .m) s).core = s.core) := by decide +kernel

theorem test_witness_SendJoinsItsFifoOrIsRefused : live.portM.enables.submit = true
    ∧ (live.Takes .g ∧ live.mode = .running ∧ (live.port .g).enables.submit = true ∧ live.resolveLocal .g 0 = some 1
      ∧ (live.chan 1).state ≠ .closed ∧ (List.replicate 2048 (0 : Byte)).length ≤ 2048
      ∧ live.pool.held .g < live.pool.alloc .g ∧ 0 < live.pool.free)
    ∧ live.pool.held .g = 0 ∧ live.pool.alloc .g = 64
    ∧ (quiet .safe).Takes .g ∧ (quiet .safe).mode ≠ .running
    ∧ (State.port { live with portG.enables := ⟨false, true, true⟩ } .g).enables.submit = false
    ∧ live.resolveLocal .g 15 = some 16 ∧ live.resolveLocal .g 16 = none ∧ (live.chan 16).state = .closed
    ∧ (List.replicate 2049 (0 : Byte)).length = 2049
    ∧ ¬ (State.pool { live with pool.heldG := 64 }).held .g < 64 ∧ ¬ 0 < (State.pool { live with pool.free := 0 }).free
    := by unfold State.Takes; decide +kernel

/-- The same part with an inbound frame of channel 1 at the head of the inbound FIFO. -/
def receiving (epoch : Nat) : State :=
  { live with inFifo := [⟨.t0, 1, .data, epoch, 101, [1, 2, 3], 0⟩], pool.heldInbound := 1, pool.free := 127 }

/-- The LIVE part with frames of channel 1 in port G's hold list and FIFO, and slot 1 at the given wear. -/
def holding (wear : Nat) : State :=
  { live.modSrc .g fun r => { r with
      holds := r.holds.set 1 [{ frame .g .data 1 16 with held := some 90 }]
      fifo := [{ frame .g .data 1 16 with sub := 1 }, { frame .g .data 2 16 with sub := 2 }], nextSub := 3 } with
    slots := live.slots.set 1 { keyed .active 1 7 with keyed := some ⟨7, wear, 3, 5, 100, 1⟩ } }

theorem test_witness_ConsultationAndChoice : State.reset.Working
    ∧ (State.rest { offering .g .data 1 with t0 := run.t0, active := none } ≠
      { offering .g .data 1 with t0 := run.t0, active := none })
    ∧ ((live.chan 1).limits.hard = 268435456 ∧ (live.chan 1).state = .live
      ∧ (holding 268435454).sendable (frame .g .data 1 16) = true
      ∧ (holding 268435455).sendable (frame .g .data 1 16) = false
      ∧ ((State.testFrame (holding 268435455) (frame .g .data 1 16)).1.chan 1).state = .frozen
      ∧ (State.testFrame (holding 268435454) (frame .g .data 1 16)).1 = holding 268435454)
    ∧ (((holding 10).consult .g).2 = some { frame .g .data 1 16 with held := some 90 }
      ∧ ((holding 10).consult .g).1.srcG = (holding 10).srcG
      ∧ ((holding 268435455).consult .g).2 = none ∧ ((holding 268435455).consult .g).1.srcG.fifo = []
      ∧ ((holding 268435455).consult .g).1.srcG.holds[1]
        = [{ frame .g .data 1 16 with held := some 90 }, { frame .g .data 1 16 with sub := 1, held := some 100 }]
      ∧ ((holding 268435455).rest.chan 1).state = .frozen)
    ∧ (offering .control .faultReport 0).offers.2.control = some (frame .control .faultReport 0 16)
    ∧ (offering .g .data 1).offers.2.control = none
    ∧ run.arb.pick run.offers.2 = none ∧ (offering .g .data 1).arb.pick (offering .g .data 1).offers.2 = some .g
    ∧ (let x : Offers := ⟨none, some (frame .p .data 17 16), some (frame .g .data 1 16), none, true⟩
      let a : Arbiter := ⟨⟨128, 192, 128, 32⟩, ⟨128, 192, 127, 0⟩, 447, .m⟩;
      a.pick x = some .g ∧ (Arbiter.pick { a with spent := ⟨128, 192, 128, 0⟩ } x) = some .inbound) := by
  unfold State.Working; decide +kernel

theorem test_witness_OutboundJobStartBindsAndCharges :
    (let s := offering .g .data 1
      let f := frame .g .data 1 16;
      s.coreFree = true ∧ s.arbitrate.2 = some (.outbound .g f) ∧ s.arbitrate.1.slotOf 1 .active = some 1
        ∧ (s.arbitrate.1.slot 1).wipePending = false ∧ (s.arbitrate.1.slot 1).keyed = some ⟨7, 10, 3, 5, 100, 1⟩
        ∧ 10 + f.cost ≤ (s.arbitrate.1.chan 1).limits.hard ∧ s.arbitrate.1.placeFor f = some .t0)
    ∧ (let f := frame .control .faultReport 0 16
      let s := { offering .control .faultReport 0 with
        slots := live.slots.set 0 { keyed .active 0 1 with keyed := some ⟨1, 4193278, 3, 5, 100, 1⟩ } }
      s.coreFree = true ∧ s.arbitrate.2 = some (.control f) ∧ s.arbitrate.1.slotOf 0 .active = some 0
        ∧ 4193278 + f.cost = (s.arbitrate.1.chan 0).limits.hard - 1024 ∧ s.arbitrate.1.placeFor f = some .t0)
    ∧ (let s := { offering .g .data 1 with arb.total := 510 };
      s.arbitrate.1.arb.total + (frame .g .data 1 16).cost = 512) := by decide +kernel

/-- A channel's record changed. -/
def withChan (s : State) (c : ChanId) (g : Chan → Chan) : State := s.modChan c g

/-- The end of port G's job in slot 1, with T1 active and the given place and discard. -/
def ending (place : Option Trunk) (discard : Bool) : State :=
  { live.modSlot 1 fun k => { k with inFlight := true } with
    core := .outbound { frame .g .data 1 16 with bound := some ⟨1, 7, 5, .t0⟩ } place discard, active := some .t1
    t0 := { live.t0 with reserved := if place = some .t0 then 1 else 0 }, t1 := { live.t1 with state := .up }
    portG.outstanding := 1, pool.heldG := 1, pool.free := 127 }

theorem test_witness_OutboundJobEndQueuesTheCipheredFrame :
    (let s := after .outboundJobStart (offering .g .data 1);
      s.core = .outbound { frame .g .data 1 16 with bound := some ⟨1, 7, 5, .t0⟩ } (some .t0) false
        ∧ (s.slot 1).wipePending = false ∧ ∀ e ∈ s.exch, e.cutoverWaits = false)
    ∧ ((ending none false).core = .outbound { frame .g .data 1 16 with bound := some ⟨1, 7, 5, .t0⟩ } none false
      ∧ (ending none false).active = some .t1 ∧ (live.chan 1).limits.route = .follow
      ∧ ((ending none false).trunk .t1).queue.length + ((ending none false).trunk .t1).reserved
        < ((ending none false).trunk .t1).depth
      ∧ (after .outboundJobEnd (ending none false)).t1.queue.length = 1)
    ∧ (let s := withChan (ending none false) 1 fun x => { x with limits.route := .t0Only };
      (s.chan 1).limits.route ≠ .follow ∧ 0 < s.pool.held (Port.holder .g)
        ∧ (after .outboundJobEnd s).portG.completions.map (·.result) = [.refused .linkLost])
    ∧ (let s := { ending none false with active := none }; s.active = none
      ∧ (after .outboundJobEnd s).portG.completions.map (·.result) = [.refused .linkLost])
    ∧ (let s := (ending (some .t0) true).modSlot 1 fun k => { k with wipePending := true };
      (s.slot 1).wipePending = true ∧ (after .outboundJobEnd s).slot 1 = .wiped ∧ (after .outboundJobEnd s).t0.reserved = 0
        ∧ (after .outboundJobEnd s).portG.completions.map (·.result) = [.refused .closedWhileQueued])
    ∧ (let s := { ending none true with
        core := .outbound { frame .control .faultReport 0 16 with bound := some ⟨0, 1, 5, .t0⟩ } none true
        pool.heldControl := 1, fault.report := some ⟨0, 0⟩ };
      (s.slot 0).state ≠ .empty ∧ 0 < s.pool.heldControl ∧ (after .outboundJobEnd s).fault.report = none) := by
  decide +kernel

theorem test_witness_CipheredFramesAreReadBack :
    (let f : InFrame := ⟨.t1, 0, .helloAck, 65535, 4294967295, [1], 5⟩;
      f.epoch < 65536 ∧ f.seq < 4294967296 ∧ 1 ≤ f.payload.length ∧ f.payload.length ≤ 2048 ∧ (f.kind = .data ↔ f.chan ≠ 0))
    ∧ (let f : InFrame := ⟨.t0, 31, .data, 0, 0, List.replicate 2048 7, 5⟩;
      f.payload.length ≤ 2048 ∧ (f.kind = .data ↔ f.chan ≠ 0)) := by decide +kernel

theorem test_witness_HoldExpiryRefusesThePortFrame :
    (let f := { frame .g .data 1 16 with held := some 70 }
      let s := { live.modSrc .g fun r => { r with holds := r.holds.set 1 [f], nextSub := 1 } with pool.heldG := 1 };
      OutSrc.port .g = some .g ∧ s.heldFrame .g 0 = some f ∧ 70 + (s.chan 1).limits.hold = s.uptime ∧ f.marked = false
        ∧ 0 < s.pool.held .g ∧ s.uptime - 1 < 70 + (s.chan 1).limits.hold ∧ s.heldFrame .g 1 = none)
    ∧ (let f := { frame .g .data 1 16 with held := some 70, marked := true }
      let s := { live.modSrc .g fun r => { r with holds := r.holds.set 1 [f], nextSub := 1 } with
        pool.heldG := 1, portG.outstanding := 1, portG.marks := 1 };
      s.heldFrame .g 0 = some f ∧ (after (.holdExpiry .g 0) s).portG.marks = 0
        ∧ (after (.holdExpiry .g 0) s).portG.completions = [])
    ∧ (let f := { frame .control .faultReport 0 16 with held := some 70 }
      let s := { live.modSrc .control fun r => { r with holds := r.holds.set 0 [f], nextSub := 1 } with
        pool.heldControl := 1, fault.report := some ⟨0, 0⟩ };
      s.heldFrame .control 0 = some f ∧ 70 + (s.chan 0).limits.hold ≤ s.uptime ∧ 0 < s.pool.heldControl
        ∧ (after (.holdExpiry .control 0) s).pool.heldControl = 0) := by decide +kernel

/-! ### Witnesses: administration and settings of the blocks -/

/-- A wait list of the given length, its entries ROUTINE. -/
def waiting (n : Nat) : Scheduler := ⟨List.replicate n ⟨5, .wear⟩, 0, none⟩

theorem test_witness_OpenListsTheChannel : live.Takes .m ∧ live.mode = .running ∧ live.resolveGlobal 2 = some 2
    ∧ (live.chan 2).state = .closed ∧ (live.chan 2).renewal = .idle ∧ live.sched.waitList.length < 31
    ∧ (waiting 30).waitList.length < 31 ∧ 31 ≤ (waiting 31).waitList.length := by unfold State.Takes; decide +kernel

theorem test_witness_AdministrationRefusedByTheChannel : live.Takes .m ∧ live.mode = .running
    ∧ live.resolveGlobal 20 = none ∧ live.resolveGlobal 1 = some 1 ∧ (live.chan 1).state ≠ .closed
    ∧ live.resolveGlobal 17 = some 17 ∧ (live.chan 17).cls = .payment
    ∧ (State.settings { live with settings.paymentLock := true }).paymentLock = true
    ∧ (live.chan 17).state = .closed ∧ live.settings.paymentLock = false ∧ (live.chan 17).renewal = .idle
    ∧ ((withChan live 0 fun x => { x with state := .booting }).chan 0).state = .booting
    ∧ ((withChan live 1 fun x => { x with renewal := .stopped }).chan 1).renewal = .stopped := by
  unfold State.Takes; decide +kernel

theorem test_witness_CloseEndsTheChannel : live.Takes .m ∧ live.mode = .running ∧ live.resolve .m 1 = some 1
    ∧ ¬ (Port.m = .m ∧ (live.chan 1).cls = .payment ∧ live.settings.paymentLock = true) ∧ (live.chan 1).state ≠ .closed
    ∧ ((live.chan 0).state = .live ∧ live.pool.heldControl < 8 ∧ 0 < live.pool.free)
    ∧ (let s := withChan { live with settings.paymentLock := true } 17 fun x => { x with state := .openWait };
      s.Takes .p ∧ s.resolve .p 0 = some 17 ∧ (s.chan 17).state ≠ .closed)
    ∧ (let s := offering .g .data 1;
      s.srcG.waiting = [frame .g .data 1 16] ∧ (frame .g .data 1 16).marked = false
        ∧ (after (.closeChannel .m 1 1) s).portG.completions = [⟨9, 0x01, .refused .closedWhileQueued, [0, 0, 0, 0, 0, 0, 0]⟩])
    ∧ (let s := withChan run 1 fun x => { x with state := .openWait };
      s.Takes .m ∧ s.resolve .m 1 = some 1 ∧ (s.chan 1).state ≠ .closed ∧ (s.chan 0).state = .closed) := by
  unfold State.Takes; decide +kernel

theorem test_witness_SetLimitsClampsAndRaises : live.Takes .m ∧ live.mode = .running ∧ live.resolveGlobal 0 = some 0
    ∧ (live.chan 0).state ≠ .closed ∧ live.resolveGlobal 1 = some 1 ∧ (live.chan 1).state ≠ .closed := by
  unfold State.Takes; decide +kernel

theorem test_witness_RenewListsMovesOrLeaves :
    ((quiet .safe).Takes .g ∧ (quiet .safe).mode ≠ .running ∧ live.resolve .g 16 = none ∧ live.resolve .g 15 = some 16
      ∧ (live.chan 16).state = .closed ∧ live.resolve .m 0 = some 0
      ∧ ((withChan live 0 fun x => { x with state := .booting }).chan 0).state = .booting)
    ∧ (live.Takes .g ∧ live.mode = .running ∧ live.resolve .g 0 = some 1 ∧ (live.chan 1).state = .live
      ∧ (live.chan 1).renewal = .idle ∧ live.sched.waitList.length < 31 ∧ 31 ≤ (waiting 31).waitList.length)
    ∧ ((withChan live 1 fun x => { x with renewal := .exchanging }).chan 1).renewal = .exchanging
    ∧ (let s := withChan { live with sched := ⟨[⟨1, .port⟩], 0, none⟩ } 1 fun x => { x with renewal := .listed };
      (s.chan 1).renewal = .listed ∧ s.entryOf 1 = some ⟨1, .port⟩ ∧ Reason.port.urgent = true)
    ∧ (let s := withChan { live with sched := ⟨[⟨1, .age⟩], 0, none⟩ } 1 fun x => { x with renewal := .listed };
      (s.chan 1).renewal = .listed ∧ s.entryOf 1 = some ⟨1, .age⟩ ∧ Reason.age.urgent = false) := by
  unfold State.Takes; decide +kernel

/-- An exchange of channel 1 in slot 2, at its first attempt, with a deadline. -/
def exchange (st : ExchState) (deadline : Nat) : Exchange := ⟨1, .wear, st, 1, 3, 2, none, none, some deadline, none, false⟩

/-- The LIVE part with an exchange of channel 1 in the given state, its slot 2 in the given state. -/
def exchanging (st : ExchState) (deadline : Nat) (sl : Slot) : State :=
  withChan { live with exch := [exchange st deadline], slots := live.slots.set 2 sl } 1 fun x =>
    { x with renewal := .exchanging, next := if sl.state = .staged then some 2 else none }

/-- A RESERVED slot of channel 1. -/
def reserved : Slot := { Slot.wiped with state := .reserved, chan := some 1 }

theorem test_witness_AbortRenewalMakesTheChannelIdle :
    (live.Takes .m ∧ live.mode = .running ∧ live.resolveGlobal 1 = some 1 ∧ (live.chan 1).state ≠ .openWait)
    ∧ ((withChan live 1 fun x => { x with renewal := .listed }).chan 1).renewal = .listed
    ∧ ((withChan live 1 fun x => { x with renewal := .paused }).chan 1).renewal = .paused
    ∧ (let s := exchanging .asking 108 reserved;
      s.Takes .m ∧ (s.chan 1).renewal = .exchanging ∧ s.exchOf 1 = some (exchange .asking 108)
        ∧ (s.slot 2).inFlight = false ∧ (s.slot 2).state ≠ .empty)
    ∧ (∀ r ∈ [Renewal.listed, .paused], let s := withChan live 2 fun x => { x with state := .openWait, renewal := r };
      s.Takes .m ∧ s.resolveGlobal 2 = some 2 ∧ (s.chan 2).state = .openWait ∧ (s.chan 2).renewal = r)
    ∧ (let s := withChan (exchanging .asking 108 reserved) 1 fun x => { x with state := .openWait };
      (s.chan 1).state = .openWait ∧ s.exchOf 1 = some (exchange .asking 108) ∧ (s.slot 2).chan = some 1
        ∧ ((after (.abortRenewal .m 1 1) s).chan 1).state = .closed) := by unfold State.Takes; decide +kernel

theorem test_witness_AllocationsAndSharesWriteOrRefuse : live.Takes .m ∧ live.mode = .running
    ∧ live.Takes .g ∧ (quiet .safe).Takes .m ∧ (quiet .safe).mode ≠ .running
    ∧ 64 + 24 + 8 + 24 + 8 = 128 ∧ 65 + 24 + 8 + 24 + 8 = 129
    ∧ (after (.setAllocations .m 1 {}) live).portM.completions.getLast?.map (·.result) = some .done
    ∧ (after (.setAllocations .m 1 { g := some 65 }) live).portM.completions.getLast?.map (·.result)
      = some (.refused .limit)
    ∧ (after (.setAllocations .m 1 { g := some 121, p := some 0, m := some 0, inbound := some 0 }) live).portM.completions
      = [⟨1, 0x09, .refused .limit, []⟩]
    ∧ (after (.setShares .m 1 { m := some 64 }) live).arb.shares = ⟨128, 192, 128, 64⟩
    ∧ (after (.setShares .m 1 { m := some 65 }) live).arb.shares = ⟨128, 192, 128, 32⟩ := by
  unfold State.Takes; decide +kernel

theorem test_witness_SetTrunkEnablesAndDisables : live.Takes .m ∧ live.mode = .running
    ∧ (live.trunk .t0).enable = true ∧ (live.trunk .t0).state = .up ∧ (live.trunk (Trunk.other .t0)).enable = true
    ∧ (live.trunk .t1).enable = true ∧ (live.trunk .t1).state ≠ .up
    ∧ (let s := live.modTrunk .t1 fun r => { r with enable := false };
      (s.trunk .t0).enable = true ∧ (s.trunk (Trunk.other .t0)).enable = false ∧ (s.trunk .t1).enable = false) := by
  unfold State.Takes; decide +kernel

theorem test_witness_LatchesMaskAndFaultLevel : live.Takes .m ∧ live.mode = .running
    ∧ State.fnLevel { live with fault.latches := [.noTrunk] } 3 = some true
    ∧ State.fnLevel { live with fault.latches := [.protocol] } 3 = some false := by unfold State.Takes; decide +kernel

/-- A fault record of RX_OVERRUN, first raised at 1. -/
def record (sent taken : Bool) : FaultRec := ⟨.rxOverrun, some 1, some .t0, none, 1, 2, 3, sent, taken, false⟩

/-- A fault queue of 32: one record, then 31 untaken ones of the given kind of channel 2. -/
def full (r : FaultRec) (k : FaultKind) : List FaultRec :=
  r :: List.replicate 31 ⟨k, some 2, none, none, 1, 2, 3, false, false, false⟩

theorem test_witness_RaiseLatchesAndCoalescesOrAppends :
    FaultKind.protocol ∈ (State.fault { live with fault.mask := [.protocol] }).mask
    ∧ FaultKind.trunkDown ∉ run.fault.mask ∧ run.fault.queue.length < 32 ∧ (run.chan 0).state ≠ .live
    ∧ (∃ r ∈ (run.raise .trunkDown none (some .t1)).fault.queue,
      r.taken = false ∧ r.kind = .trunkDown ∧ r.chan = none ∧ r.trunk = some .t1)
    ∧ (FaultKind.noTrunk.severity = .critical ∧ (live.chan 0).state = .live ∧ live.fault.report = none
      ∧ live.pool.heldControl < 8 ∧ 0 < live.pool.free ∧ (live.raise .noTrunk).fault.report = some ⟨0, 0⟩)
    ∧ (full (record false true) .holdExpired).length = 32
    ∧ (∀ r ∈ full (record false false) .trunkDown, ¬ (r.taken = true ∧ r.sent = false))
    ∧ (let s := { live with fault.queue := full (record false true) .trunkDown };
      ((s.raise .holdExpired (some 3)).fault.queue.length, (s.raise .holdExpired (some 3)).fault.lost) = (32, 1))
    ∧ (let s := { live with fault.queue := full (record true false) .trunkDown };
      (record true false).kind.severity.code = 3 ∧ FaultKind.trunkDown.severity.code = 2
        ∧ (s.raise .trunkDown none (some .t1)).fault.lost = 0
        ∧ (s.raise .trunkDown none (some .t1)).fault.queue.length = 32
        ∧ (s.raise .holdExpired (some 3)).fault.dropped = 1
        ∧ (s.raise .holdExpired (some 3)).fault.queue = s.fault.queue) := by decide +kernel

theorem test_witness_TakeFaultTakesTheOldest : live.Takes .m ∧ (quiet .safe).Takes .m
    ∧ (∀ r ∈ live.fault.queue, r.taken = true)
    ∧ (let s := { live with fault.queue := [record false true, record false false, record true false] };
      s.fault.queue = [record false true] ++ record false false :: [record true false]
        ∧ (∀ x ∈ [record false true], x.taken = true) ∧ (record false false).taken = false)
    ∧ (record true false).sent = true
    ∧ ¬ (live.mode = .safe ∨ live.mode = .lockdown
      ∨ (live.mode = .running ∧ ((live.chan 0).state = .closed ∨ (live.chan 0).state = .booting)))
    ∧ (run.mode = .running ∧ (run.chan 0).state = .closed) := by unfold State.Takes; decide +kernel

theorem test_witness_ReportsCarryUnsentRecords :
    (let s := { live with
        fault := { live.fault with queue := [record false false, record true false], deadline := some 100 } };
      s.fault.deadline = some 100 ∧ 100 ≤ s.uptime ∧ (s.chan 0).state = .live ∧ s.fault.report = none
        ∧ (s.fault.queue.filter fun r => r.sent = false) ≠ [] ∧ s.pool.heldControl < 8 ∧ 0 < s.pool.free
        ∧ (∀ r ∈ s.fault.queue, r.inReport = false) ∧ (after .reportDeadline s).fault.report.isSome = true)
    ∧ (run.chan 0).state ≠ .live
    ∧ (State.fault { run with fault.report := some ⟨1, 2⟩ }).report = some ⟨1, 2⟩
    ∧ (let lost : FaultRec := ⟨.noTrunk, none, none, none, 1, 1, 1, false, false, false⟩
      let s := { live with fault := { live.fault with
        queue := [{ record false true with inReport := true }, lost], dropped := 3, lost := 4, report := some ⟨1, 2⟩ } };
      (s.chan 0).state = .live ∧ s.fault.report = some ⟨1, 2⟩ ∧ lost.kind.severity = .critical
        ∧ s.pool.heldControl < 8 ∧ 0 < s.pool.free
        ∧ (s.reportOutcome true).fault.report = some ⟨2, 2⟩ ∧ (s.reportOutcome false).fault.report = some ⟨3, 4⟩
        ∧ (s.reportOutcome true).fault.queue = [{ lost with inReport := true }]) := by decide +kernel

theorem test_witness_SetPortWritesTheEnables : live.Takes .g ∧ live.Takes .p ∧ live.Takes .m ∧ live.mode = .running
    ∧ (quiet .safe).Takes .p ∧ (quiet .safe).mode ≠ .running
    ∧ (State.settings { live with settings.paymentLock := true }).paymentLock = true
    ∧ ((after (.setPort .p 1 .p (some false) none none) live).port .p).enables ≠ (live.port .p).enables
    ∧ ((after .powerOnReset { live with portG.enables := ⟨false, true, true⟩ }).port .g).enables
      ≠ (State.port { live with portG.enables := ⟨false, true, true⟩ } .g).enables := by
  unfold State.Takes; decide +kernel

theorem test_witness_SetLineWritesTheLine : live.Takes .m ∧ live.mode = .running
    ∧ (live.line 2).fn = true ∧ live.settings.tamperLock = false
    ∧ (State.settings { live with settings.tamperLock := true }).tamperLock = true
    ∧ (let s := { live with lines := live.lines.set 2 ⟨false, false, false, true⟩ };
      (s.line 2).fn = false ∧ (s.line 2).ext = true)
    ∧ live.carrier .t0 = true ∧ (live.trunk .t0).state = .up
    ∧ State.carrier (live.modLine Trunk.t0.line fun x => { x with fn := false }) .t0 = false
    ∧ live.carrier .t1 = false
    ∧ State.carrier (live.modLine Trunk.t1.line fun x => { x with dirOut := true, latch := true }) .t1 = true
    ∧ State.carrier (live.modLine Trunk.t0.line fun x => x) .t0 = live.carrier .t0 := by
  unfold State.Takes; decide +kernel

theorem test_witness_WritesOfTheSettingsStore : live.Takes .m ∧ live.mode ≠ .lockdown
    ∧ live.store.image.length = 139 ∧ live.store.write = none ∧ live.store.check = 0
    ∧ State.reset.store.check ≠ 0 ∧ State.reset.store.image.length = 139
    ∧ (after (.writeSettings .m 1 (List.replicate 133 7)) live).store.write.isSome = true
    ∧ (let s := { run with store.write := some (.settings (image 4) [1] 0 1 true) };
      s.store.write = some (.settings (image 4) [1] 0 1 true) ∧ s.store.bootWaits = false)
    ∧ (let s := { run with store.write := some (.count 65535) };
      s.store.write = some (.count 65535) ∧ s.store.bootWaits = false ∧ s.store.image.length = 139) := by
  unfold State.Takes; decide +kernel

/-- The LIVE part with all eight CONTROL buffers held: a message that it builds finds none (R111). -/
def noBuffer : State := { live with pool.heldControl := 8, pool.free := 120 }

theorem test_witness_BootstrapRunsToHello :
    (let s := { run with derivs := [.bootstrap 4] };
      s.core = .idle ∧ s.derivs = [.bootstrap 4] ∧ s.store.write = none)
    ∧ State.reset.core ≠ .idle ∧ run.derivs = []
    ∧ (let s := { run with core := .derives (.bootstrap 4) };
      s.core = .derives (.bootstrap 4) ∧ (s.slot 0).state = .empty ∧ s.pool.heldControl < 8 ∧ 0 < s.pool.free)
    ∧ (let s := { live with core := .derives (.bootstrap 4) };
      (s.slot 2).state = .empty ∧ ∀ j : SlotId, j < 2 → (s.slot j).state ≠ .empty)
    ∧ noBuffer.pool.heldControl = 8 := by decide +kernel

theorem test_witness_StartUpLeavesEveryBlockFresh :
    (run.line 2).ext = false
    ∧ (let s := { run with lines := run.lines.set 2 ⟨false, false, false, true⟩ };
      (s.line 2).ext = true ∧ (after .powerOnReset s).settings = .delivered)
    ∧ run.store.write = none ∧ run.mode = .running ∧ run.Takes .m ∧ (quiet .safe).Takes .m
    ∧ (State.store { run with store.restartWaits := true }).restartWaits = true
    ∧ run.store.restartWaits = false
    ∧ (let s := { run with store.write := some (.count 4) }; s.Takes .m ∧ s.store.write.isSome = true) := by
  unfold State.Takes; decide +kernel

theorem test_witness_SelfCheckEndsInRunningOrSafe :
    (let s := boots 65534;
      s.mode = .starting ∧ s.core = .derives .selfCheck ∧ s.settings.fromImage = true ∧ numAt s.store.image 40 2 < 65535
        ∧ s.store.write = none)
    ∧ numAt (boots 65535).store.image 40 2 = 65535 ∧ State.reset.settings.fromImage = false
    ∧ State.reset.mode = .starting ∧ State.reset.core = .derives .selfCheck := by decide +kernel

theorem test_witness_ZeroizeWipesAndBootstrapsAgain : live.Takes .m ∧ live.mode = .running ∧ live.store.write = none
    ∧ numAt live.store.image 40 2 < 65535
    ∧ (let s := { live with t0 := { live.t0 with queue := [frame .g .data 1 16, frame .g .data 2 16], transmitting := true } };
      s.linesIn.carrier .t0 = s.carrier .t0 ∧ s.linesIn.carrier .t1 = s.carrier .t1
        ∧ (after (.zeroize .m 1) s).t0.queue = [frame .g .data 1 16]) := by unfold State.Takes; decide +kernel

theorem test_witness_TamperWipesAndLocks : State.reset.mode ≠ .lockdown ∧ (State.reset.line 2).fn = true
    ∧ live.mode ≠ .lockdown ∧ (live.line 2).fn = true ∧ (quiet .lockdown).mode = .lockdown
    ∧ ((quiet .lockdown).line 2).fn = true
    ∧ (State.line { live with lines := live.lines.set 2 ⟨true, true, false, false⟩ } 2).fn = false
    ∧ (let s := { (holding 10) with
        core := .outbound (frame .g .data 1 16) none false
        srcM.fifo := [{ frame .m .data 22 16 with marked := true }], portM.outstanding := 1, portM.marks := 1
        portG.outstanding := 4, lines := live.lines.set 2 ⟨false, false, true, false⟩ };
      s.mode ≠ .lockdown ∧ (s.line 2).fn = true ∧ (after (.tamper true) s).portG.completions.length = 4
        ∧ (after (.tamper true) s).portM.completions = [] ∧ (after (.tamper true) s).portM.marks = 0) := by
  decide +kernel

/-! ### Witnesses: trunks, reception, time, turnover -/

/-- A bound frame of port G in a transmit queue. -/
def queued : Frame := { frame .g .data 1 16 with bound := some ⟨1, 7, 5, .t0⟩, auth := some 1 }

/-- The LIVE part with that frame on T0, T0 in the given state, T1 UP or not. -/
def loaded (st : TrunkState) (other : Bool) : State :=
  { live with
    t0 := { live.t0 with state := st, queue := [queued] }
    t1 := { live.t1 with state := if other then .up else .down }, pool.heldG := 1, pool.free := 127 }

theorem test_witness_CarrierMovesTheTrunk :
    (let pin (s : State) (b : Bool) : State := s.modLine Trunk.t0.line fun l => { l with ext := b };
      (pin live true).carrier .t0 = live.carrier .t0 ∧ (pin run false).carrier .t0 = run.carrier .t0
      ∧ (pin run true).carrier .t0 ≠ run.carrier .t0 ∧ (run.trunk .t0).state = .off
      ∧ ((State.modTrunk run .t0 fun r => { r with state := .down }).trunk .t0).state = .down
      ∧ (pin live false).carrier .t0 ≠ live.carrier .t0 ∧ (live.trunk .t0).state = .up
      ∧ ((State.modTrunk live .t0 fun r => { r with state := .proving }).trunk .t0).state = .proving) := by decide +kernel

theorem test_witness_LeavingUpMovesOrLosesFrames :
    (let s := loaded .down true;
      (s.trunk .t0).state ≠ .up ∧ (s.trunk (Trunk.other .t0)).state = .up
        ∧ (∀ f ∈ (s.trunk .t0).queue, (s.chan f.chan).limits.route = .follow)
        ∧ (s.trunk .t1).queue.length + (s.trunk .t1).reserved + (s.trunk .t0).queue.length ≤ (s.trunk .t1).depth)
    ∧ ((loaded .proving false).trunk .t0).state ≠ .up ∧ ((loaded .proving false).trunk .t1).state ≠ .up
    ∧ (let s := { live with core := .outbound queued (some .t0) false };
      s.core = .outbound queued (some .t0) false)
    ∧ (let s := withChan ((loaded .down true).modTrunk .t0 fun r => { r with
          queue := [queued, { queued with chan := 2 }, { queued with chan := 2, marked := true }, { queued with chan := 3 }] })
        2 fun x => { x with limits.route := .t0Only }
      let s := s.modTrunk .t1 fun r => { r with depth := 1 };
      (s.trunk .t0).state ≠ .up ∧ (s.trunk .t1).state = .up ∧ (s.chan 2).limits.route ≠ .follow
        ∧ (s.leaveUp .t0).t1.queue = [{ queued with bound := some ⟨1, 7, 5, .t1⟩ }]
        ∧ (s.leaveUp .t0).portG.completions.map (·.result) = [.refused .linkLost, .refused .linkLost]) := by
  decide +kernel

theorem test_witness_TransmissionsStallsAndProving :
    (let s (n : Nat) : State :=
        (loaded .up false).modTrunk .t0 fun r => { r with transmitting := true, stall := some n, hold := true };
      ((s 20).trunk .t0).state = .up ∧ ((s 20).trunk .t0).transmitting = true ∧ ((s 20).trunk .t0).hold = true
        ∧ ((s 20).trunk .t0).stall = some 20 ∧ (s 20).settings.stallLimit = 20
        ∧ after (.stallLimitReached .t0) (s 19) = s 19 ∧ (after (.stallLimitReached .t0) (s 20)).t0.state = .proving)
    ∧ ((loaded .up false).trunk .t0).transmitting = false ∧ ((loaded .up false).trunk .t0).queue = queued :: []
    ∧ (loaded .up false).t0.state = .up ∧ (run.trunk .t0).queue = []
    ∧ queued.bound = some ⟨1, 7, 5, .t0⟩ ∧ queued.auth = some 1
    ∧ (let s := live.modTrunk .t1 fun r => { r with state := .proving, proving := some 100 };
      (s.trunk .t1).state = .proving ∧ (s.trunk .t1).proving = some 100 ∧ 100 ≤ s.uptime)
    ∧ (let s := (loaded .up false).modTrunk .t0 fun r => { r with transmitting := true };
      (s.trunk .t0).queue = queued :: [] ∧ (s.trunk .t0).transmitting = true ∧ (s.trunk .t0).hold = false
        ∧ queued.src = Port.src .g ∧ 0 < s.pool.held (Port.holder .g))
    ∧ (let s := (loaded .up false).modTrunk .t0 fun r => { r with transmitting := true, hold := true };
      (s.trunk .t0).transmitting = true ∧ (s.trunk .t0).hold = true ∧ (s.trunk .t0).queue = queued :: [])
    ∧ (let f : Frame := { frame .control .faultReport 0 16 with bound := some ⟨0, 1, 5, .t0⟩, auth := some 1 }
      let s := { live.modTrunk .t0 (fun r => { r with queue := [f], transmitting := true }) with pool.heldControl := 1 };
      (s.trunk .t0).queue = f :: [] ∧ f.src = .control ∧ 0 < s.pool.heldControl ∧ f.kind = .faultReport) := by
  decide +kernel

/-- R142: a start under hold gives nothing, a release all 1 + 10 + 16 + 16 symbols before the end marker; a release in
the middle goes on behind what was given. -/
theorem test_hold_and_release :
    (let s := after (.transmissionStart .t0) (after (.holdAsserted .t0) (loaded .up false))
      let t := after (.holdReleased .t0) s;
      s.t0.transmitting = true ∧ s.t0.out = [] ∧ s.draws = live.draws ∧ t.t0.out = queued.symbols ∧ t.t0.out.length = 43
        ∧ t.t0.stall = some 0)
    ∧ (let s := (loaded .up false).modTrunk .t0 fun r => { r with
          transmitting := true, hold := true, stall := some 7, out := queued.symbols.take 12 };
      (after (.holdReleased .t0) s).t0.out = queued.symbols ∧ (after (.holdReleased .t0) s).t0.stall = some 0) := by
  decide +kernel

/-- R142: a second hold keeps the 12 symbols of the first, whatever the free value is. -/
theorem test_second_hold_resumes :
    let s : State := (loaded .up false).modTrunk .t0 fun r => { r with
      transmitting := true, stall := some 7, out := queued.symbols, given := 12 }
    (after (.holdAsserted .t0) s).t0.out.take 12 = queued.symbols.take 12
      ∧ (after (.holdAsserted .t0) s).t0.hold = true ∧ s.t0.hold = false := by
  refine ⟨?_, rfl, rfl⟩
  show (queued.symbols.take (max 12 (Config.taken live.draws))).take 12 = _
  rw [List.take_take, Nat.min_eq_left (Nat.le_max_left _ _)]

/-- R142, R143: leaving UP cuts a transmission that sends, and leaves one that hold had stopped as it stands. -/
theorem test_leaving_up_cuts_the_sending :
    (let s (h : Bool) : State := (loaded .down true).modTrunk .t0 fun r => { r with
          transmitting := true, hold := h, out := queued.symbols.take 12 };
      ((s true).leaveUp .t0).t0.out = queued.symbols.take 12 ∧ ((s true).leaveUp .t0).draws = live.draws
        ∧ ((s false).leaveUp .t0).draws = live.draws + 1) := by decide +kernel

/-- A frame of channel 1 with sequence `q` under epoch `e`, as received. -/
def bytesOf (e q : Nat) : List Byte := headerBytes 1 .data e q 3 ++ [1, 2, 3] ++ List.replicate 16 0

theorem test_witness_PrecheckCountsOrAccepts : (run.trunk .t0).state = .off ∧ (live.trunk .t0).state ≠ .off
    ∧ parseFrame .t0 [1, 2, 3] = none
    ∧ (∀ q ∈ [0, 36, 37, 100, 101], parseFrame .t0 (bytesOf 7 q) = some ⟨.t0, 1, .data, 7, q, [1, 2, 3], 0⟩)
    ∧ live.matchSlot 1 8 = none ∧ live.matchSlot 1 7 = some 1 ∧ (live.slot 1).keyed = some ⟨7, 10, 3, 5, 100, 1⟩
    ∧ 36 + 64 ≤ 100 ∧ ¬ 37 + 64 ≤ 100 ∧ (1#64).getLsbD (100 - 100) = true ∧ (1#64).getLsbD (100 - 37) = false
    ∧ live.pool.heldInbound < live.pool.allocInbound ∧ 0 < live.pool.free
    ∧ (State.pool { live with pool.heldInbound := 24 }).allocInbound = 24 := by decide +kernel

theorem test_witness_WindowAcceptsEachNumberOnce :
    (let k : Keyed := ⟨7, 10, 3, 5, 100, 1⟩;
      k.judge 37 = .accept ∧ k.judge 163 = .accept ∧ k.judge 36 ≠ .accept ∧ k.judge 100 ≠ .accept
        ∧ (k.record 163).top = 163 ∧ ¬ (k.record 164).top < 100 + 64 ∧ (k.record 163).top < 100 + 64) := by decide

theorem test_witness_InboundJobStartMatchesOrDrops :
    (let s := receiving 7;
      s.coreFree = true ∧ s.arbitrate.2 = some .inbound ∧ s.arbitrate.1.inFifo = [⟨.t0, 1, .data, 7, 101, [1, 2, 3], 0⟩]
        ∧ s.arbitrate.1.matchSlot 1 7 = some 1 ∧ s.arbitrate.1.arb.total + cost 3 < 512)
    ∧ (let s := receiving 8;
      s.coreFree = true ∧ s.arbitrate.2 = some .inbound ∧ s.arbitrate.1.matchSlot 1 8 = none
        ∧ 0 < s.arbitrate.1.pool.heldInbound)
    ∧ 510 + cost 3 = 512 := by decide +kernel

/-- An inbound DATA frame of channel 1 whose tag is `t`. -/
def tagged (e : Nat) (t : Sixteen) : InFrame := ⟨.t0, 1, .data, e, 101, [1, 2, 3], t⟩

/-- The tag that passes under the test keys. -/
def goodTag (e : Nat) : Sixteen := frameTag 0x22 (tagged e 0).header [1, 2, 3]

/-- An exchange of channel 1 in CONFIRMING at its deadline, with a SETTLING slot that may carry a job. -/
def confirming (busy waits : Bool) : State :=
  let s := exchanging .confirming 100 (keyed .staged 1 8)
  { s with
    slots := s.slots.set 3 { keyed .settling 1 6 with inFlight := busy }
    exch := [{ exchange .confirming 100 with cutoverWaits := waits }] }

theorem test_witness_InboundJobEndDeliversOrDrops :
    (let s := { receiving 7 with inFifo := [], core := .inbound (tagged 7 (goodTag 7)) 1 };
      (s.slot 1).keyed = some ⟨7, 10, 3, 5, 100, 1⟩ ∧ (s.slot 1).wipePending = false ∧ s.exch = [] ∧ 0 < s.pool.heldInbound
        ∧ (s.slot 1).state = .active ∧ (s.slot 1).tagKey = 0x22 ∧ Keyed.judge ⟨7, 10, 3, 5, 100, 1⟩ 101 = .accept
        ∧ (s.chan 1).owner.deliverTo = some .g ∧ (s.port .g).enables.deliver = true ∧ (s.port .g).deliveries.length < 24
        ∧ s.settings.view .g = some ⟨1, 1, 16⟩ ∧ (s.chan 1).bucket < 15)
    ∧ (let s := exchanging .confirming 105 (keyed .staged 1 8);
      (s.slot 2).keyed = some ⟨8, 10, 3, 5, 100, 1⟩ ∧ (s.slot 2).state = .staged ∧ (s.slot 2).wipePending = false
        ∧ s.stagedSlot 1 = some 2 ∧ ∀ e ∈ s.exch, e.cutoverWaits = false)
    ∧ (Keyed.judge ⟨7, 10, 3, 5, 101, 1⟩ 101 = .repeated ∧ Keyed.judge ⟨7, 10, 3, 5, 165, 1⟩ 101 = .late)
    ∧ (State.slot { live with slots := live.slots.set 1 { keyed .active 1 7 with inFlight := true, wipePending := true } }
        1).wipePending = true
    ∧ (State.port { live with portG.enables := ⟨true, false, true⟩ } .g).enables.deliver = false
    ∧ 24 ≤ (State.port { live with portG.deliveries := List.replicate 24 ⟨0, [1]⟩ } .g).deliveries.length
    ∧ ((withChan live 1 fun x => { x with bucket := 15 }).chan 1).bucket = 15 ∧ (live.chan 1).renewal = .idle
    ∧ live.sched.waitList.length < 31 ∧ (exchanging .asking 108 reserved).chan 1 = { live.chan 1 with renewal := .exchanging }
    ∧ (∀ w : Bool, let s := { confirming true true with core := .inbound (tagged 6 (goodTag 6)) 3, pool.heldInbound := 1 }
      let s := s.modSlot 3 fun k => { k with wipePending := w };
      (s.slot 3).state = .settling ∧ (s.slot 3).chan = some 1 ∧ (s.slot 3).keyed = some ⟨6, 10, 3, 5, 100, 1⟩
        ∧ (s.slot 3).wipePending = w ∧ (s.slot 3).tagKey = 0x22 ∧ 0 < s.pool.heldInbound ∧ s.stagedSlot 1 = some 2
        ∧ (s.exch.find? fun x => x.cutoverWaits) = some { exchange .confirming 100 with cutoverWaits := true }
        ∧ (s.slot 2).keyed = some ⟨8, 10, 3, 5, 100, 1⟩ ∧ (∀ j : SlotId, j ≠ 3 → (s.slot j).inFlight = false)
        ∧ Keyed.judge ⟨6, 10, 3, 5, 100, 1⟩ 101 = .accept)
    := by decide +kernel

/-- The tag hypotheses of the same statement: one frame passes, the next does not, whatever the tag function is. -/
theorem test_witness_tags (e : Nat) : frameTag 0x22 (tagged e (goodTag e)).header (tagged e (goodTag e)).payload = goodTag e
    ∧ frameTag 0x22 (tagged e (goodTag e + 1)).header (tagged e (goodTag e + 1)).payload ≠ goodTag e + 1 := by
  refine ⟨rfl, ?_⟩
  change goodTag e ≠ goodTag e + 1
  generalize goodTag e = x
  bv_omega

theorem test_witness_SoftLimitEstimateAndProjection :
    (let l := Limits.control; 1 ≤ l.margin ∧ l.margin ≤ 32 ∧ 65536 ≤ l.hard)
    ∧ (0 ≤ 268435455 ∧ estimate 268435455 268435455 = 268435455 ∧ estimate 7 0 = 7 ∧ estimate 8 0 = 7)
    ∧ (708900 ≤ 1048576 ∧ 0 < 31800 ∧ projection 100 100 1 = 0 ∧ projection 100 99 16 = 1 ∧ projection 100 99 17 = 0) := by
  decide

theorem test_witness_UptimeStepEvaluatesEveryChannel : (live.chan 1).state = .live ∧ (live.chan 1).cur = some 1
    ∧ (live.slot 1).keyed = some ⟨7, 10, 3, 5, 100, 1⟩ ∧ (live.chan 1).renewal = .idle
    ∧ live.sched.waitList.length < 31 ∧ (live.chan 2).state ≠ .live ∧ (live.chan 2).state ≠ .frozen
    ∧ (let s := withChan live 1 fun x => { x with limits := ⟨65536, 8, 60, 0, 30, .follow⟩ };
      let aged (n : Nat) : State := { s with
        slots := s.slots.set 1 { keyed .active 1 7 with keyed := some ⟨7, 10, n, 5, 100, 1⟩ } };
      ((aged 58).evaluate 1).sched.waitList = [] ∧ ((aged 59).evaluate 1).sched.waitList = [⟨1, .age⟩])
    ∧ ((withChan live 1 fun x => { x with state := .frozen }).evaluate 1).sched.waitList = [⟨1, .hard⟩]
    ∧ (let s := withChan live 2 fun x => { x with state := .openWait };
      (s.chan 2).state = .openWait ∧ (s.chan 2).renewal = .idle ∧ s.sched.waitList.length < 31
        ∧ (s.retryOpen 2).sched.waitList = [⟨2, .openKey⟩])
    ∧ ((aheadWalk 30 true).take 2 = [31, 1] ∧ (aheadWalk 30 false).take 2 = [1, 2] ∧ (aheadWalk 31 true).head? = some 1)
    ∧ (let s (age : Nat) : State :=
        { live with slots := live.slots.set 1 { keyed .active 1 7 with keyed := some ⟨7, 10, age, 5, 100, 1⟩ } };
      (live.chan 1).limits.age = 86400 ∧ live.settings.aheadMax = 1 ∧ live.mode = .running
        ∧ (s 43199).aheadStep = s 43199 ∧ (s 43200).sched.waitList = [] ∧ ((s 43200).chan 0).state = .live
        ∧ aheadWalk (s 43200).sched.ahead (s 43200).settings.aheadRotating = [] ++ 1 :: (aheadWalk 0 true).drop 1
        ∧ (s 43200).curKeyed 1 = some ⟨7, 10, 43200, 5, 100, 1⟩ ∧ ((s 43200).slot 2).state = .empty
        ∧ (∀ j : SlotId, j < 2 → ((s 43200).slot j).state ≠ .empty)
        ∧ (s 43200).aheadStep.sched.ahead = 1 ∧ (s 43200).aheadStep.exch.length = 1) := by decide +kernel

theorem test_witness_SettleAndPauseDeadlines :
    (let s := { live with slots := live.slots.set 3 (keyed .settling 1 6) };
      (s.slot 3).state = .settling ∧ (s.slot 3).settle = some 90 ∧ (s.slot 3).chan = some 1 ∧ 90 ≤ s.uptime
        ∧ State.uptime { s with uptime := 89 } < 90)
    ∧ (let s := withChan live 1 fun x => { x with renewal := .paused, pause := some 100, pauseReason := some .wear };
      (s.chan 1).renewal = .paused ∧ (s.chan 1).pause = some 100 ∧ (s.chan 1).pauseReason = some .wear
        ∧ 100 ≤ s.uptime ∧ (s.chan 1).state = .live ∧ s.sched.waitList.length < 31 ∧ 31 ≤ (waiting 31).waitList.length)
    ∧ (let s (st : ChanState) (r : Reason) : State := withChan live 1 fun x =>
        { x with state := st, renewal := .paused, pause := some 100, pauseReason := some r };
      (after (.pauseDeadline 1) (s .frozen .ahead)).sched.waitList = [⟨1, .hard⟩]
        ∧ (after (.pauseDeadline 1) (s .openWait .port)).sched.waitList = [⟨1, .openKey⟩]
        ∧ ((after (.pauseDeadline 1) (s .live .ahead)).chan 1).renewal = .idle) := by decide +kernel

theorem test_witness_ExchangeStartTakesTheHead :
    (let s := withChan { live with sched := ⟨[⟨1, .wear⟩], 0, none⟩ } 1 fun x => { x with renewal := .listed }
      let crowded := { s with slots := Vector.replicate 48 (keyed .active 1 7) };
      s.mode = .running ∧ (s.chan 0).state = .live ∧ s.sched.waitList = ⟨1, .wear⟩ :: [] ∧ s.exch.length < 4
        ∧ (s.slot 2).state = .empty ∧ (∀ j : SlotId, j < 2 → (s.slot j).state ≠ .empty) ∧ s.pool.heldControl < 8
        ∧ 0 < s.pool.free ∧ s.SlotLaw ∧ ((after .exchangeStart s).exch.map (·.slot)) = [2]
        ∧ crowded.SlotLaw ∧ (∀ i : SlotId, (crowded.slot i).state ≠ .empty)
        ∧ FaultKind.keyStoreFull ∈ (after .exchangeStart crowded).fault.latches
        ∧ 4 ≤ (State.exch { s with exch := List.replicate 4 (exchange .asking 108) }).length) := by
  unfold State.SlotLaw Slot.Law; decide +kernel

/-- The LIVE part with channel 0 FROZEN and the given wait list. -/
def frozenZero (l : List WaitEntry) : State :=
  withChan { live with sched := ⟨l, 0, none⟩ } 0 fun x => { x with state := .frozen }

/-- The same statement with channel 0 FROZEN, without a candidate, and without a CONTROL buffer. -/
theorem test_witness_ExchangeStartOfChannelZero :
    (live.SlotLaw ∧ (frozenZero []).SlotLaw ∧ noBuffer.SlotLaw)
    ∧ live.mode = .running ∧ live.sched.waitList = [] ∧ (run.chan 0).state = .closed
    ∧ ((frozenZero []).chan 0).state = .frozen ∧ noBuffer.pool.heldControl = 8
    ∧ (after .exchangeStart (frozenZero [⟨1, .wear⟩])).exch = []
    ∧ (after .exchangeStart (frozenZero [⟨1, .wear⟩, ⟨0, .hard⟩])).exch.map (·.chan) = [0]
    ∧ (after .exchangeStart (frozenZero [⟨1, .wear⟩, ⟨0, .hard⟩])).sched.waitList = [⟨1, .wear⟩]
    ∧ (after .exchangeStart { noBuffer with sched := ⟨[⟨1, .wear⟩], 0, none⟩ }).exch.length = 1 := by
  have h : live.SlotLaw := by unfold State.SlotLaw Slot.Law; decide +kernel
  exact ⟨⟨h, h, h⟩, by decide +kernel⟩

theorem test_witness_EngineDecidesTheMessages :
    ((live.chan 0).state = .live ∧ live.exchOf 1 = none ∧ (live.curKeyed 1).map (·.epoch) = some 7)
    ∧ (let s := exchanging .asking 108 reserved;
      s.exchOf 1 = some (exchange .asking 108) ∧ (exchange .asking 108).newEpoch = none ∧ (s.slot 2).state = .reserved
        ∧ (s.slot 2).chan = some 1 ∧ (s.slot 2).inFlight = false
        ∧ (s.engine .turnGive (b1 1 ++ b2 8 ++ sixteenBytes 4)).derivs = [.turnover 1 2 8 3 4]
        ∧ (s.engine .turnGive (b1 1 ++ b2 9 ++ sixteenBytes 4)).derivs = [])
    ∧ (let s := withChan { live with boot := ⟨.helloWait, 1, some 108, some 65535⟩ } 0 fun x => { x with state := .booting };
      (s.chan 0).state = .booting ∧ s.boot.count = some 65535
        ∧ ((s.engine .helloAck (b2 65535)).chan 0).state = .live ∧ ((s.engine .helloAck (b2 4)).chan 0).state = .booting
        ∧ (s.chan 0).renewal = .idle ∧ s.sched.waitList.length < 31 ∧ s.exch = [] ∧ s.mode = .running
        ∧ (s.slot 2).state = .empty ∧ (∀ j : SlotId, j < 2 → (s.slot j).state ≠ .empty)
        ∧ ((s.engine .helloAck (b2 65535)).exch.map fun e => (e.chan, e.reason)) = [(0, .ordered)]
        ∧ (∀ e ∈ (waiting 31).waitList, e.chan ≠ 0)
        ∧ (let s := { s with slots := Vector.replicate 48 (keyed .active 1 7) };
          (∀ j : SlotId, (s.slot j).state ≠ .empty)
            ∧ (s.engine .helloAck (b2 65535)).sched.waitList = [⟨0, .ordered⟩]))
    ∧ (let s := exchanging .confirming 105 (keyed .staged 1 8)
      let s := { s with exch := [{ exchange .confirming 105 with newEpoch := some 8, head := some 4, proof := some 6 }] };
      s.exchOf 1 = some { exchange .confirming 105 with newEpoch := some 8, head := some 4, proof := some 6 }
        ∧ s.pool.heldControl < 8 ∧ 0 < s.pool.free
        ∧ (s.engine .turnGive (b1 1 ++ b2 8 ++ sixteenBytes 4)).srcControl.fifo.map (·.kind) = [.turnDone]
        ∧ (s.engine .turnGive (b1 1 ++ b2 8 ++ sixteenBytes 5)).srcControl.fifo = []
        ∧ (let s := { s with pool := noBuffer.pool }; s.engine .turnGive (b1 1 ++ b2 8 ++ sixteenBytes 4) = s))
    ∧ (let s := exchanging .asking 108 reserved;
      (∀ y ∈ s.exch, y.chan = 1 → y = exchange .asking 108)
        ∧ ((s.engine .turnRefuse [1, 1]).exch.map (·.state)) = [.backingOff]
        ∧ (exchanging .backingOff 108 reserved).engine .turnRefuse [1, 1] = exchanging .backingOff 108 reserved
        ∧ ((s.engine .turnRefuse [1, 2]).chan 1).renewal = .stopped)
    ∧ ((live.engine .turnOrder [2, 1, 0]).sched.waitList = [⟨1, .ordered⟩, ⟨0, .ordered⟩]
      ∧ (live.engine .turnOrder [0xFF]).sched.waitList = [⟨0, .ordered⟩, ⟨1, .ordered⟩]
      ∧ (live.engine .turnOrder [2, 32, 1]).sched.waitList = [⟨1, .ordered⟩]
      ∧ FaultKind.protocol ∈ (live.engine .turnOrder [2, 32, 1]).fault.latches
      ∧ (live.engine .turnOrder [2, 1]).sched.waitList = []) := by
  decide +kernel

theorem test_witness_AskingBacksOffOrFails :
    (let s := exchanging .asking 100 reserved;
      s.exchOf 1 = some (exchange .asking 100) ∧ (exchange .asking 100).deadline = some 100 ∧ 100 ≤ s.uptime
        ∧ (exchange .asking 100).attempt < s.settings.attempts ∧ (∀ y ∈ s.exch, y.chan = 1 → y = exchange .asking 100)
        ∧ (s.slot 2).inFlight = false ∧ (s.slot 2).state ≠ .empty ∧ State.uptime { s with uptime := 99 } < 100
        ∧ s.settings.attempts ≤ (Exchange.attempt { exchange .asking 100 with attempt := 4 }))
    ∧ (let s := exchanging .backingOff 100 reserved;
      s.exchOf 1 = some (exchange .backingOff 100) ∧ s.pool.heldControl < 8 ∧ 0 < s.pool.free
        ∧ (∀ y ∈ s.exch, y.chan = 1 → y = exchange .backingOff 100)
        ∧ (after (.backingOffDeadline 1) { s with pool := noBuffer.pool }).exch.map (·.state) = [.asking]) := by
  decide +kernel

theorem test_witness_TurnoverDerivationStagesTheKey :
    (let s := { exchanging .asking 108 reserved with core := .derives (.turnover 1 2 8 3 4) };
      s.core = .derives (.turnover 1 2 8 3 4) ∧ (s.slot 2).state = .reserved ∧ (s.slot 2).chan = some 1
        ∧ s.pool.heldControl < 8 ∧ 0 < s.pool.free
        ∧ (after .turnoverDerivationEnd { s with pool := noBuffer.pool }).srcControl.fifo = []
        ∧ ((after .turnoverDerivationEnd { s with pool := noBuffer.pool }).slot 2).state = .staged)
    ∧ (let s := { live with core := .derives (.turnover 1 2 8 3 4) };
      ¬ ((s.slot 2).state = .reserved ∧ (s.slot 2).chan = some 1)) := by decide +kernel

theorem test_witness_CutoverTurnsTheKeysOver :
    (let s := confirming false false;
      s.stagedSlot 1 = some 2 ∧ (s.slot 2).keyed = some ⟨8, 10, 3, 5, 100, 1⟩ ∧ s.slotOf 1 .active = some 1
        ∧ s.exchOf 1 = some (exchange .confirming 100) ∧ 100 ≤ s.uptime ∧ s.settlingBusy 1 = false)
    ∧ (confirming true false).settlingBusy 1 = true
    ∧ ((confirming false true).exch.find? fun x => x.cutoverWaits)
      = some { exchange .confirming 100 with cutoverWaits := true }
    ∧ (confirming false true).settlingBusy 1 = false ∧ (confirming true true).settlingBusy 1 = true
    ∧ (let s := withChan { confirming false false with slots := live.slots.set 1 .wiped |>.set 2 (keyed .staged 1 8) } 1
        fun x => { x with state := .openWait, cur := none };
      s.stagedSlot 1 = some 2 ∧ s.slotOf 1 .active = none
        ∧ ((after (.confirmingDeadline 1) s).chan 1).state = .live)
    ∧ (let lost : FaultRec := ⟨.noTrunk, none, none, none, 1, 1, 1, false, false, false⟩
      let s := withChan { live with
          slots := live.slots.set 2 (keyed .staged 0 2), exch := [{ exchange .confirming 100 with chan := 0 }]
          fault.queue := [lost] } 0 fun x => { x with state := .frozen, renewal := .exchanging, next := some 2 };
      s.stagedSlot 0 = some 2 ∧ (s.slot 2).keyed = some ⟨2, 10, 3, 5, 100, 1⟩ ∧ s.fault.report = none
        ∧ s.exchOf 0 = some { exchange .confirming 100 with chan := 0 } ∧ s.settlingBusy 0 = false
        ∧ s.pool.heldControl < 8 ∧ 0 < s.pool.free
        ∧ (after (.confirmingDeadline 0) s).fault.report = some ⟨0, 0⟩) := by decide +kernel

/-- R29, R38: a cutover that waits for a SETTLING slot's job is taken at that job's end. -/
theorem test_waiting_cutover_at_job_end :
    (let s := confirming true true;
      let job := { frame .g .data 1 16 with bound := some ⟨3, 6, 5, .t0⟩ };
      let t := after .outboundJobEnd { s with core := .outbound job (some .t0) false, t0 := { s.t0 with reserved := 1 } };
      (t.slot 3) = .wiped ∧ (t.slot 1).state = .settling ∧ (t.slot 2).state = .active ∧ t.exch = []
        ∧ t.t0.queue.length = 1) := by decide +kernel

theorem test_witness_HelloRetries :
    (let s (ph : Phase) (n : Nat) : State := { live with boot := ⟨ph, n, some 100, some 4⟩ };
      (s .helloWait 3).boot.deadline = some 100 ∧ 100 ≤ (s .helloWait 3).uptime ∧ (s .helloWait 3).boot.phase = .helloWait
        ∧ (s .helloWait 3).boot.attempt < live.settings.attempts ∧ live.settings.attempts ≤ (s .helloWait 4).boot.attempt
        ∧ (s .helloBackoff 2).boot.phase = .helloBackoff ∧ (s .helloSlow 4).boot.phase = .helloSlow
        ∧ live.pool.heldControl < 8 ∧ 0 < live.pool.free
        ∧ (after .helloBackoffDeadline { s .helloBackoff 2 with pool := noBuffer.pool }).boot.phase = .helloWait) := by
  decide +kernel

/-! ### Further witnesses: clauses beside the main ones -/

/-- ConsultationAndChoice, OutboundJobStartBindsAndCharges, InboundJobStartMatchesOrDrops: a free core with no requester
ready, with an outbound frame and with an inbound one, and a core at work. -/
theorem test_witness_choices : live.coreFree = true ∧ live.arbitrate.2 = none ∧ State.reset.coreFree = false
    ∧ (offering .g .data 1).arbitrate.2 = some (.outbound .g (frame .g .data 1 16))
    ∧ (receiving 7).arbitrate.2 = some .inbound
    ∧ (let s := { live with arb := { live.arb with spent := ⟨1, 2, 3, 4⟩, total := 10 } };
      s.rest.arb.spent = ⟨0, 0, 0, 0⟩ ∧ (after .outboundJobStart s).arb.total = 0
        ∧ (after .inboundJobStart s).arb.total = 0)
    ∧ (let s := (offering .g .data 1).modSrc .g fun r => { r with fifo := r.fifo ++ [{ frame .g .data 1 16 with sub := 1 }] };
      (after .outboundJobStart s).srcG.fifo.map (·.sub) = [1]) := by decide +kernel

/-- The bytes of a frame of `n` payload bytes whose header gives length `len`, channel `c` and kind code `k`. -/
def rawBytes (c k : Byte) (len : Nat) (n : Nat) : List Byte :=
  [c, k, 0, 7, 0, 0, 0, 5] ++ b2 len ++ List.replicate (n + 16) 0

/-- Table 7-4, tests 1 to 3: the byte count, L, the channel, the kind, and the kind on its channel. -/
theorem test_precheck_of_headers :
    (∀ b ∈ [rawBytes 1 0x01 3 4, rawBytes 1 0x01 0 0, rawBytes 1 0x01 2049 2049, rawBytes 32 0x01 3 3, rawBytes 0 0x25 3 3,
        rawBytes 0 0x01 3 3, rawBytes 1 0x24 3 3, []], parseFrame .t0 b = none)
    ∧ (parseFrame .t1 (rawBytes 31 0x01 2048 2048)).map (fun f => (f.chan, f.seq)) = some (31, 5)
    ∧ (parseFrame .t1 (rawBytes 0 0x31 1 1)).map (fun f => (f.kind, f.epoch)) = some (.closeNote, 7) := by decide +kernel

/-- LeavingUpMovesOrLosesFrames: NO_TRUNK where the active trunk falls to none, and nowhere else. -/
theorem test_witness_noTrunk : (loaded .down false).active = some .t0
    ∧ FaultKind.noTrunk ∈ ((loaded .down false).leaveUp .t0).fault.latches
    ∧ ((loaded .down true).leaveUp .t0).fault.latches = []
    ∧ (let s := { live with t0 := { live.t0 with state := .down } }; (s.trunk .t0).state ≠ .up ∧ (s.trunk .t0).queue = []
      ∧ s.active = some .t0 ∧ (s.trunk .t1).state ≠ .up) := by decide +kernel

/-- SetLineWritesTheLine, R178 and R180: an armed L2, an output function on and off, a line OUT and IN. -/
theorem test_line_levels :
    (let s := { live with lines := (((live.lines.set 2 ⟨true, true, true, false⟩).set 3 ⟨true, true, true, true⟩).set 5
          ⟨true, true, false, false⟩).set 7 ⟨false, true, false, true⟩ };
      (s.drive 2, s.pin 2, s.readBack 2) = (none, false, false) ∧ (s.drive 3, s.readBack 3) = (some false, true)
        ∧ (s.drive 5, s.pin 5, s.readBack 5) = (some true, true, true)
        ∧ (s.drive 7, s.pin 7, s.readBack 7) = (none, true, true))
    ∧ (let s := { live with lines := live.lines.set 0 ⟨true, false, true, true⟩ };
      s.readBack 0 = false ∧ s.carrier .t0 = false ∧ live.carrier .t0 = true) := by decide +kernel

/-- A part with a write of the given image or count in progress, for whose end a bootstrap waits. -/
def bootWaiting (w : Write) : State := { run with store := ⟨image 3, false, some w, false, true⟩ }

/-- WritesOfTheSettingsStore and ZeroizeWipesAndBootstrapsAgain: the bootstrap that waits, and the count 65,535. -/
theorem test_witness_bootstrapWaits :
    (after .settingsWriteEnd (bootWaiting (.settings (image 9) [] 0 1 false))).store.write = some (.count 10)
    ∧ (after .countWriteEnd (bootWaiting (.count 4))).derivs = [.bootstrap 5]
    ∧ (let s := bootWaiting (.count 65535); (after .countWriteEnd s).mode = .safe)
    ∧ (let s := bootWaiting (.count 4); s.Takes .m ∧ (after (.zeroize .m 1) s).store = s.store
      ∧ (after (.zeroize .m 1) s).derivs = [])
    ∧ (let s := { live with store.image := image 65535, portG.completions := [⟨1, 1, .sent, []⟩] };
      s.Takes .m ∧ s.store.write = none ∧ numAt s.store.image 40 2 = 65535 ∧ (after (.zeroize .m 1) s).mode = .safe
        ∧ (after (.zeroize .m 1) s).portG.completions = []
        ∧ (after (.zeroize .m 1) s).portM.completions = [⟨1, 0x1C, .done, [2]⟩]) := by unfold State.Takes; decide +kernel

/-- A control frame of channel 0 under the STAGED slot 2. -/
def stagedControl : InFrame := ⟨.t0, 0, .turnOrder, 8, 101, [1, 1], 0⟩

/-- InboundJobEndDeliversOrDrops, R65: that frame's tag pass is the cutover of channel 0, before it is handed on. -/
theorem test_witness_stagedControl :
    (let s := withChan { live with
          slots := live.slots.set 2 (keyed .staged 0 8), exch := [{ exchange .confirming 105 with chan := 0 }]
          core := .inbound { stagedControl with auth := frameTag 0x22 stagedControl.header [1, 1] } 2
          pool.heldInbound := 1 } 0 fun x => { x with renewal := .exchanging, next := some 2 };
      (s.slot 2).keyed = some ⟨8, 10, 3, 5, 100, 1⟩ ∧ (s.slot 2).state = .staged ∧ (s.slot 2).wipePending = false
        ∧ s.stagedSlot 0 = some 2 ∧ s.slotOf 0 .active = some 0 ∧ Keyed.judge ⟨8, 10, 3, 5, 100, 1⟩ 101 = .accept
        ∧ (s.chan 0).state = .live ∧ ∀ e ∈ s.exch, e.cutoverWaits = false) := by
  decide +kernel

/-- UptimeStepEvaluatesEveryChannel, R14: the entry of a LISTED and FROZEN channel moves to HARD, an URGENT one stays. -/
theorem test_witness_listedFrozen :
    (let s (r : Reason) : State := withChan { live with sched := ⟨[⟨5, .age⟩, ⟨1, r⟩], 0, none⟩ } 1 fun x =>
        { x with state := .frozen, renewal := .listed };
      (s .wear).entryOf 1 = some ⟨1, .wear⟩ ∧ ((s .wear).evaluate 1).sched.waitList = [⟨1, .hard⟩, ⟨5, .age⟩]
        ∧ ((s .port).evaluate 1).sched.waitList = [⟨5, .age⟩, ⟨1, .port⟩])
    ∧ ((withChan live 1 fun x => { x with renewal := .stopped }).evaluate 1).sched.waitList = [] := by decide +kernel

/-- EngineDecidesTheMessages, Table of R112: the cells that raise PROTOCOL, and the channel they name. -/
theorem test_witness_unfitMessages :
    (let booting := withChan live 0 fun x => { x with state := .booting }
      let named (s : State) (k : Kind) (l : List Byte) := (s.engine k l).fault.queue.map fun r => (r.kind, r.chan);
      named live .helloAck [0, 4] = [(.protocol, none)] ∧ named live .turnAsk [3] = [(.protocol, some 3)]
        ∧ named live .turnGive [3, 0] = [(.protocol, some 3)] ∧ named live .turnRefuse [32, 1] = [(.protocol, none)]
        ∧ named booting .turnRefuse [3, 1] = [(.protocol, some 3)] ∧ named booting .turnOrder [1, 1] = [(.protocol, none)]
        ∧ named booting .helloAck [0] = [(.protocol, none)]) := by decide +kernel

end Sys2Proof.Tests
end

/-! The soft limit (R2), the rate estimate (R93) and the projection (R94). -/

namespace Sys2Proof.Proofs
open Sys2Proof.Machine

/-! ### The soft limit (R2) -/

/-- A margin of at least 1 takes at least floor(H / 64) off the hard limit. -/
theorem div_le_mul_margin_div (l : Limits) (hm : 1 ≤ l.margin) : l.hard / 64 ≤ l.hard * l.margin / 64 :=
  Nat.div_le_div_right (Nat.le_mul_of_pos_right l.hard hm)

theorem soft_add_div_le_hard (l : Limits) (hm : 1 ≤ l.margin) : l.soft + l.hard / 64 ≤ l.hard := by
  have hcut := div_le_mul_margin_div l hm
  unfold Limits.soft softLimit
  omega

/-- H of at least 65,536 makes floor(H / 64) at least 1,024. -/
theorem soft_add_1024_le_hard (l : Limits) (hm : 1 ≤ l.margin) (hh : 65536 ≤ l.hard) : l.soft + 1024 ≤ l.hard := by
  have hsoft := soft_add_div_le_hard l hm
  omega

/-- The greatest margin, 32, takes half of the hard limit off. -/
theorem hard_le_two_mul_soft (l : Limits) (hm : l.margin ≤ 32) : l.hard ≤ 2 * l.soft := by
  have hcut : l.hard * l.margin ≤ l.hard * 32 := Nat.mul_le_mul_left l.hard hm
  unfold Limits.soft softLimit
  omega

/-! ### The estimate (R93) -/

theorem estimate_le_maxRate (e x : Nat) : estimate e x ≤ maxRate := Nat.min_le_right _ _

/-- Towards a sample at or above it the estimate rises by an eighth of the distance; the saturation leaves it alone. -/
theorem estimate_of_le {e x : Nat} (h : e ≤ x) (hx : x ≤ maxRate) : estimate e x = e + (x - e) / 8 := by
  have hstep : Int.tdiv ((x : Int) - e) 8 = ((x - e) / 8 : Nat) := by
    rw [Int.tdiv_eq_ediv_of_nonneg (by omega)]
    omega
  unfold estimate
  rw [hstep]
  omega

/-- Towards a sample at or below it the estimate falls by an eighth of the distance: truncation goes toward zero, so the
step is that of the distance and not the floor of a negative quotient. -/
theorem estimate_of_ge {e x : Nat} (h : x ≤ e) (he : e ≤ maxRate) : estimate e x = e - (e - x) / 8 := by
  have hstep : Int.tdiv ((x : Int) - e) 8 = -((e - x) / 8 : Nat) := by
    rw [← Int.neg_sub, Int.neg_tdiv, Int.tdiv_eq_ediv_of_nonneg (by omega)]
    omega
  unfold estimate
  rw [hstep]
  omega

theorem estimate_le_sample {e x : Nat} (h : e ≤ x) (hx : x ≤ maxRate) : estimate e x ≤ x := by
  rw [estimate_of_le h hx]
  omega

theorem sample_le_estimate {e x : Nat} (h : x ≤ e) (he : e ≤ maxRate) : x ≤ estimate e x := by
  rw [estimate_of_ge h he]
  omega

/-- An idle second. -/
theorem estimate_zero_sample {e : Nat} (he : e ≤ maxRate) : estimate e 0 = e - e / 8 :=
  estimate_of_ge (Nat.zero_le e) he

/-- The estimate sticks at 7 or less. -/
theorem estimate_zero_sample_of_le_seven {e : Nat} (he : e ≤ maxRate) (h : e ≤ 7) : estimate e 0 = e := by
  rw [estimate_zero_sample he]
  omega

/-! ### Who keeps and who zeroes the estimate (R93, R9, R17, R19) -/

@[simp] theorem cutOver_rate (ch : Chan) (i : SlotId) : (ch.cutOver i).rate = ch.rate := rfl

@[simp] theorem opened_rate (ch : Chan) (l : Limits) (f : LimitFields) : (ch.opened l f).rate = 0 := rfl

@[simp] theorem shut_rate (ch : Chan) : ch.shut.rate = 0 := rfl

@[simp] theorem booted_rate (ch : Chan) (l : Limits) (i : SlotId) : (ch.booted l i).rate = 0 := rfl

/-! ### The projection (R94) -/

@[simp] theorem projection_zero_rate (h w : Nat) : projection h w 0 = 65535 := rfl

theorem projection_of_pos (h w : Nat) {e : Nat} (he : 0 < e) : projection h w e = min ((h - w) * 16 / e) 65535 :=
  if_neg he.ne'

/-- P is 0 when fewer units remain below H than the estimate expects in one second. -/
theorem projection_eq_zero_iff (h w : Nat) {e : Nat} (he : 0 < e) : projection h w e = 0 ↔ (h - w) * 16 < e := by
  rw [projection_of_pos h w he, ← Nat.div_eq_zero_iff_lt he]
  omega

/-! ### The obligation -/

/-- Settles O52, part by part: the soft limit, the estimate by the side of the sample, the estimate's resets, and the
projection. The two numeric examples of R2 and the first busy second of R93 evaluate. -/
theorem softLimitEstimateAndProjection : Obligations.SoftLimitEstimateAndProjection := by
  refine ⟨fun l => ?soft, fun e x he hx => ?estimate, fun ch l f i => ?resets, fun h w e _ => ?projection⟩
  case soft =>
    exact ⟨rfl, hard_le_two_mul_soft l, soft_add_div_le_hard l, soft_add_1024_le_hard l,
      fun hh hm => by simp [Limits.soft, softLimit, hh, hm], fun hh hm => by simp [Limits.soft, softLimit, hh, hm]⟩
  case estimate =>
    exact ⟨fun h => ⟨estimate_of_le h hx, estimate_le_sample h hx⟩,
      fun h => ⟨estimate_of_ge h he, sample_le_estimate h he⟩, estimate_zero_sample he,
      estimate_zero_sample_of_le_seven he, by decide, estimate_le_maxRate e x⟩
  case resets => exact ⟨cutOver_rate ch i, opened_rate ch l f, shut_rate ch, booted_rate ch l i⟩
  case projection =>
    exact ⟨projection_zero_rate h w, fun he => ⟨projection_of_pos h w he, projection_eq_zero_iff h w he⟩⟩

end Sys2Proof.Proofs

/-! SET_PORT and the enables of the ports (R174): the command's answer, and that no row but SET_PORT and a start-up
writes an enable. Each operation of the model has one lemma: the enables it leaves. -/

namespace Sys2Proof.Proofs
open Sys2Proof.Machine

/-! ### The enables of a state -/

/-- The enables of the ports G, P and M. -/
def enablesOf (s : State) : Enables × Enables × Enables := (s.portG.enables, s.portP.enables, s.portM.enables)

theorem port_enables_of_eq {s t : State} (h : enablesOf t = enablesOf s) (q : Port) :
    (t.port q).enables = (s.port q).enables := by
  obtain ⟨hg, hp, hm⟩ : t.portG.enables = s.portG.enables ∧ t.portP.enables = s.portP.enables
      ∧ t.portM.enables = s.portM.enables := by simpa [enablesOf] using h
  cases q
  · exact hg
  · exact hp
  · exact hm

/-- A state given field by field, as an update `{ s with … }` is. -/
@[simp] theorem enablesOf_mk (mode uptime store settings chans slots srcG srcP srcM srcControl inFifo pool core derivs
    arb sched exch boot t0 t1 active fault portG portP portM lines draws pending) :
    enablesOf ⟨mode, uptime, store, settings, chans, slots, srcG, srcP, srcM, srcControl, inFifo, pool, core, derivs,
      arb, sched, exch, boot, t0, t1, active, fault, portG, portP, portM, lines, draws, pending⟩
      = (portG.enables, portP.enables, portM.enables) := rfl

@[simp] theorem enables_triple (s : State) : (s.portG.enables, s.portP.enables, s.portM.enables) = enablesOf s := rfl

theorem enablesOf_foldl {α : Type} (f : State → α → State) (hf : ∀ s a, enablesOf (f s a) = enablesOf s)
    (l : List α) (s : State) : enablesOf (l.foldl f s) = enablesOf s := by
  induction l generalizing s with
  | nil => rfl
  | cons a l ih => exact (ih (f s a)).trans (hf s a)

/-! ### Records of the state -/

/-- A write of a port record that keeps its enables. -/
@[simp] theorem enablesOf_modPort (s : State) (pt : Port) (f : PortRec → PortRec)
    (hf : ∀ r, (f r).enables = r.enables) : enablesOf (s.modPort pt f) = enablesOf s := by
  cases pt <;> simp [State.modPort, hf]

@[simp] theorem enablesOf_modTrunk (s : State) (t : Trunk) (f : TrunkRec → TrunkRec) :
    enablesOf (s.modTrunk t f) = enablesOf s := by cases t <;> rfl

@[simp] theorem enablesOf_modSrc (s : State) (o : OutSrc) (f : Source → Source) :
    enablesOf (s.modSrc o f) = enablesOf s := by cases o <;> rfl

@[simp] theorem enablesOf_modChan (s : State) (c : ChanId) (f : Chan → Chan) :
    enablesOf (s.modChan c f) = enablesOf s := rfl

@[simp] theorem enablesOf_modSlot (s : State) (i : SlotId) (f : Slot → Slot) :
    enablesOf (s.modSlot i f) = enablesOf s := rfl

@[simp] theorem enablesOf_modLine (s : State) (i : Fin 8) (f : Line → Line) :
    enablesOf (s.modLine i f) = enablesOf s := rfl

@[simp] theorem enablesOf_modExch (s : State) (c : ChanId) (f : Exchange → Exchange) :
    enablesOf (s.modExch c f) = enablesOf s := rfl

@[simp] theorem enablesOf_dropExch (s : State) (c : ChanId) : enablesOf (s.dropExch c) = enablesOf s := rfl

@[simp] theorem enablesOf_unlist (s : State) (c : ChanId) : enablesOf (s.unlist c) = enablesOf s := rfl

@[simp] theorem enablesOf_giveBuf (s : State) (h : Holder) : enablesOf (s.giveBuf h) = enablesOf s := rfl

theorem enablesOf_takeBuf {s t : State} {h : Holder} (e : s.takeBuf h = some t) : enablesOf t = enablesOf s := by
  obtain ⟨-, -, rfl⟩ := s.takeBuf_eq t h e
  rfl

/-! ### Attention, completions and the bus -/

@[simp] theorem enablesOf_latchChannel (s : State) (pt : Port) : enablesOf (s.latchChannel pt) = enablesOf s :=
  enablesOf_modPort s pt _ fun _ => rfl

@[simp] theorem enablesOf_tellChannel (s : State) (c : ChanId) : enablesOf (s.tellChannel c) = enablesOf s :=
  enablesOf_latchChannel s _

@[simp] theorem enablesOf_complete (s : State) (pt : Port) (c : Completion) (outstanding marked : Bool) :
    enablesOf (s.complete pt c outstanding marked) = enablesOf s :=
  enablesOf_modPort s pt _ fun _ => by cases outstanding <;> cases marked <;> rfl

@[simp] theorem enablesOf_finish (s : State) (pt : Port) (tag : Byte) (kind : Nat) (data : List Byte) :
    enablesOf (s.finish pt tag kind data) = enablesOf s := enablesOf_complete s pt _ _ _

@[simp] theorem enablesOf_refuse (s : State) (pt : Port) (tag : Byte) (kind : Nat) (c : Cause) (data : List Byte) :
    enablesOf (s.refuse pt tag kind c data) = enablesOf s := enablesOf_complete s pt _ _ _

@[simp] theorem enablesOf_answer (s : State) (pt : Port) (bytes : List Byte) :
    enablesOf (s.answer pt bytes) = enablesOf s := enablesOf_modPort s pt _ fun _ => rfl

/-- A command keeps the enables when its decision does. -/
theorem enablesOf_command (s : State) (pt : Port) (decide : State → State)
    (h : enablesOf (decide s) = enablesOf s) : enablesOf (s.command pt decide) = enablesOf s := by
  unfold State.command
  split
  · simp
  · simpa using h

/-! ### Faults, control messages and outcomes -/

theorem enablesOf_of_faultStep {s t : State} (h : FaultStep s t) : enablesOf t = enablesOf s := by
  obtain ⟨_, _, _, _, rfl, -, -⟩ := h
  rfl

@[simp] theorem enablesOf_build (s : State) (k : Kind) (p : List Byte) : enablesOf (s.build k p) = enablesOf s :=
  enablesOf_of_faultStep (s.build_step k p)

@[simp] theorem enablesOf_reportTest (s : State) (b : Bool) : enablesOf (s.reportTest b) = enablesOf s :=
  enablesOf_of_faultStep (s.reportTest_step b)

@[simp] theorem enablesOf_reportOutcome (s : State) (sent : Bool) : enablesOf (s.reportOutcome sent) = enablesOf s :=
  enablesOf_of_faultStep (s.reportOutcome_step sent)

@[simp] theorem enablesOf_raise (s : State) (k : FaultKind) (c : Option ChanId) (t : Option Trunk) (pt : Option Port) :
    enablesOf (s.raise k c t pt) = enablesOf s := enablesOf_of_faultStep (s.raise_step k c t pt)

@[simp] theorem enablesOf_outcome (s : State) (f : Frame) (res : Result) :
    enablesOf (s.outcome f res) = enablesOf s := by
  unfold State.outcome
  cases f.src.port with
  | some pt => simp
  | none => by_cases h : f.kind = .faultReport <;> simp [h]

@[simp] theorem enablesOf_countDrop (s : State) (t : Trunk) (d : Drop) : enablesOf (s.countDrop t d) = enablesOf s :=
  enablesOf_modTrunk s t _

/-! ### Key slots -/

@[simp] theorem enablesOf_wipe (s : State) (i : SlotId) : enablesOf (s.wipe i) = enablesOf s := by
  obtain ⟨_, _, _, h, -⟩ := s.wipe_step i
  rw [h]
  rfl

@[simp] theorem enablesOf_wipeState (s : State) (c : ChanId) (st : SlotState) :
    enablesOf (s.wipeState c st) = enablesOf s :=
  enablesOf_foldl _ (fun _ _ => by split <;> simp) _ _

@[simp] theorem enablesOf_wipeChannel (s : State) (c : ChanId) : enablesOf (s.wipeChannel c) = enablesOf s :=
  enablesOf_foldl _ (fun _ _ => by split <;> simp) _ _

@[simp] theorem enablesOf_wipeAll (s : State) : enablesOf s.wipeAll = enablesOf s :=
  enablesOf_foldl _ enablesOf_wipe _ _

theorem enablesOf_reserve {s t : State} {c : ChanId} {i : SlotId} (e : s.reserve c = some (t, i)) :
    enablesOf t = enablesOf s := by
  unfold State.reserve at e
  split at e
  · obtain ⟨_, -, h⟩ := Option.map_eq_some_iff.1 e
    cases h
    rfl
  · cases e

@[simp] theorem enablesOf_releaseSlot (s : State) (i : SlotId) : enablesOf (s.releaseSlot i) = enablesOf s := by
  unfold State.releaseSlot
  dsimp only
  split <;> simp

/-! ### Requests, exchanges and cutovers -/

@[simp] theorem enablesOf_setRenewal (s : State) (c : ChanId) (r : Renewal) :
    enablesOf (s.setRenewal c r) = enablesOf s := by simp [State.setRenewal]

@[simp] theorem enablesOf_freeze (s : State) (c : ChanId) : enablesOf (s.freeze c) = enablesOf s := by
  unfold State.freeze
  split <;> simp

@[simp] theorem enablesOf_join (s : State) (c : ChanId) (r : Reason) (b : Bool) :
    enablesOf (s.join c r b).1 = enablesOf s := by
  unfold State.join
  split <;> simp

@[simp] theorem enablesOf_relist (s : State) (c : ChanId) (r : Reason) : enablesOf (s.relist c r).1 = enablesOf s := by
  unfold State.relist
  cases s.entryOf c with
  | none => rfl
  | some e => dsimp only; split <;> simp

@[simp] theorem enablesOf_request (s : State) (c : ChanId) (r : Reason) (p b : Bool) :
    enablesOf (s.request c r p b).1 = enablesOf s := by
  unfold State.request
  dsimp only
  repeat' split
  all_goals simp

@[simp] theorem enablesOf_buildAsk (s : State) (c : ChanId) (r : Reason) (n : Sixteen) :
    enablesOf (s.buildAsk c r n) = enablesOf s := enablesOf_build s _ _

@[simp] theorem enablesOf_startExchange (s : State) (c : ChanId) (r : Reason) (i : SlotId) :
    enablesOf (s.startExchange c r i) = enablesOf s := by simp [State.startExchange]

@[simp] theorem enablesOf_keyStoreFull (s : State) (c : ChanId) : enablesOf (s.keyStoreFull c) = enablesOf s := by
  unfold State.keyStoreFull
  split <;> simp

@[simp] theorem enablesOf_startOne (s : State) : enablesOf s.startOne.1 = enablesOf s := by
  unfold State.startOne
  cases s.candidate with
  | none => rfl
  | some e =>
    dsimp only
    split
    · split
      case h_1 => simp
      case h_2 t i h => simp [enablesOf_reserve h]
    · rfl

@[simp] theorem enablesOf_startTest (n : Nat) (s : State) : enablesOf (State.startTest n s) = enablesOf s := by
  induction n generalizing s with
  | zero => rfl
  | succ n ih =>
    have h := enablesOf_startOne s
    unfold State.startTest
    split
    case h_1 t e => rw [e] at h; exact (ih t).trans h
    case h_2 t e => rw [e] at h; exact h

@[simp] theorem enablesOf_cutover (s : State) (c : ChanId) : enablesOf (s.cutover c) = enablesOf s := by
  unfold State.cutover
  cases s.stagedSlot c with
  | none => rfl
  | some new =>
    dsimp only
    split <;> split <;> simp

@[simp] theorem enablesOf_takeWaiting (s : State) : enablesOf s.takeWaiting = enablesOf s := by
  unfold State.takeWaiting
  split
  · rfl
  · split <;> simp

/-! ### Closing a channel -/

@[simp] theorem enablesOf_discard (s : State) (pick : Frame → Bool) (res : Result) :
    enablesOf (s.discard pick res) = enablesOf s :=
  enablesOf_foldl _ (fun t f => enablesOf_outcome t f res) _ _

@[simp] theorem enablesOf_dropInbound (s : State) (pick : ChanId → Bool) :
    enablesOf (s.dropInbound pick) = enablesOf s :=
  enablesOf_foldl _ (fun t _ => enablesOf_giveBuf t _) _ _

@[simp] theorem enablesOf_close (s : State) (c : ChanId) (note : Bool) : enablesOf (s.close c note) = enablesOf s := by
  unfold State.close
  dsimp only
  split <;> simp

@[simp] theorem enablesOf_closeOpen (s : State) (c : ChanId) (note : Bool) :
    enablesOf (s.closeOpen c note) = enablesOf s := by
  unfold State.closeOpen
  split <;> simp

@[simp] theorem enablesOf_endExchange (s : State) (c : ChanId) : enablesOf (s.endExchange c) = enablesOf s := by
  unfold State.endExchange
  split <;> simp

/-! ### Trunks -/

@[simp] theorem enablesOf_refreshActive (s : State) : enablesOf s.refreshActive = enablesOf s := by
  unfold State.refreshActive
  dsimp only
  split <;> simp

@[simp] theorem enablesOf_enqueue (s : State) (t : Trunk) (f : Frame) : enablesOf (s.enqueue t f) = enablesOf s :=
  enablesOf_modTrunk s t _

@[simp] theorem enablesOf_moveOrLose (s : State) (f : Frame) : enablesOf (s.moveOrLose f) = enablesOf s := by
  unfold State.moveOrLose
  split
  · split <;> simp
  · simp

@[simp] theorem enablesOf_cut (s : State) (t : Trunk) : enablesOf (s.cut t) = enablesOf s := by
  rcases s.cut_cases t with ⟨-, h⟩ | ⟨-, h⟩ <;> simp [h]

@[simp] theorem enablesOf_leaveUp (s : State) (t : Trunk) : enablesOf (s.leaveUp t) = enablesOf s := by
  simp [State.leaveUp, enablesOf_foldl _ enablesOf_moveOrLose]

@[simp] theorem enablesOf_enterByCarrier (s : State) (t : Trunk) : enablesOf (s.enterByCarrier t) = enablesOf s :=
  enablesOf_modTrunk s t _

@[simp] theorem enablesOf_carrierRise (s : State) (t : Trunk) : enablesOf (s.carrierRise t) = enablesOf s :=
  enablesOf_modTrunk s t _

@[simp] theorem enablesOf_carrierFall (s : State) (t : Trunk) : enablesOf (s.carrierFall t) = enablesOf s := by
  unfold State.carrierFall
  split <;> simp

@[simp] theorem enablesOf_carrierEvent (s : State) (t : Trunk) (b : Bool) :
    enablesOf (s.carrierEvent t b) = enablesOf s := by
  unfold State.carrierEvent
  split
  · rfl
  · split <;> simp

@[simp] theorem enablesOf_carrierEvents (s before : State) : enablesOf (s.carrierEvents before) = enablesOf s := by
  simp [State.carrierEvents]

@[simp] theorem enablesOf_proven (s : State) (t : Trunk) : enablesOf (s.proven t) = enablesOf s := by
  simp [State.proven]

@[simp] theorem enablesOf_stallOut (s : State) (t : Trunk) : enablesOf (s.stallOut t) = enablesOf s := by
  simp [State.stallOut]

@[simp] theorem enablesOf_applyEnable (s : State) (t : Trunk) (enable : Bool) :
    enablesOf (s.applyEnable t enable) = enablesOf s := by
  unfold State.applyEnable
  dsimp only
  repeat' split
  all_goals simp

@[simp] theorem enablesOf_receive (s : State) (t : Trunk) (bytes : List Byte) :
    enablesOf (s.receive t bytes) = enablesOf s := by
  unfold State.receive
  split
  · simp
  · split
    · simp
    · split
      · simp
      next e => simp [enablesOf_takeBuf e]

/-! ### Consultations -/

@[simp] theorem enablesOf_testFrame (s : State) (f : Frame) : enablesOf (s.testFrame f).1 = enablesOf s := by
  unfold State.testFrame
  split <;> simp

@[simp] theorem enablesOf_testHeld (l : List Frame) (s : State) (b : Option Frame) :
    enablesOf (State.testHeld l s b).1 = enablesOf s := by
  induction l generalizing s b with
  | nil => rfl
  | cons f l ih =>
    have h := enablesOf_testFrame s f
    unfold State.testHeld
    split
    all_goals
      next t e => rw [e] at h; exact (ih t _).trans h

@[simp] theorem enablesOf_holdHead (s : State) (o : OutSrc) (f : Frame) : enablesOf (s.holdHead o f) = enablesOf s :=
  enablesOf_modSrc s o _

@[simp] theorem enablesOf_scanFifo (o : OutSrc) (l : List Frame) (s : State) :
    enablesOf (State.scanFifo o l s).1 = enablesOf s := by
  induction l generalizing s with
  | nil => rfl
  | cons f l ih =>
    have h := enablesOf_testFrame s f
    unfold State.scanFifo
    split
    · simp [ih]
    · split
      case h_1 t e => rw [e] at h; exact h
      case h_2 t e => rw [e] at h; simpa [ih] using h

@[simp] theorem enablesOf_consult (s : State) (o : OutSrc) : enablesOf (s.consult o).1 = enablesOf s := by
  have h := enablesOf_testHeld ((s.src o).firsts o) s none
  unfold State.consult
  split
  case h_1 t f e => rw [e] at h; exact h
  case h_2 t e => rw [e] at h; simpa using h

@[simp] theorem enablesOf_arbitrate (s : State) : enablesOf s.arbitrate.1 = enablesOf s := by
  simp [s.arbitrate_fst, State.offers]

@[simp] theorem enablesOf_rest (s : State) : enablesOf s.rest = enablesOf s := by
  have h := enablesOf_arbitrate s
  unfold State.rest
  split
  · split
    case h_1 t e => rw [e] at h; simpa using h
    case h_2 => rfl
  · rfl

/-! ### The life of the part -/

@[simp] theorem enablesOf_tellClosing (s : State) : enablesOf s.tellClosing = enablesOf s :=
  enablesOf_foldl _ (fun _ _ => by split <;> simp) _ _

@[simp] theorem enablesOf_quiesce (s : State) : enablesOf s.quiesce = enablesOf s := by simp [State.quiesce]

@[simp] theorem PortRec.atSafe_enables (r : PortRec) : r.atSafe.enables = r.enables := rfl

@[simp] theorem enablesOf_enterSafe (s : State) : enablesOf s.enterSafe = enablesOf s := by simp [State.enterSafe]

@[simp] theorem enablesOf_refuseFrame (s : State) (f : Frame) : enablesOf (s.refuseFrame f) = enablesOf s := by
  unfold State.refuseFrame
  split <;> simp

@[simp] theorem enablesOf_linesIn (s : State) : enablesOf s.linesIn = enablesOf s := rfl

@[simp] theorem PortRec.noDeliveries_enables (r : PortRec) : r.noDeliveries.enables = r.enables := rfl

@[simp] theorem enablesOf_tamperNow (s : State) : enablesOf s.tamperNow = enablesOf s := by
  unfold State.tamperNow
  split
  · simp
  · simp [enablesOf_foldl _ enablesOf_refuseFrame]

@[simp] theorem enablesOf_beginBootstrap (s : State) : enablesOf s.beginBootstrap = enablesOf s := by
  rcases s.beginBootstrap_cases with ⟨-, h⟩ | ⟨-, -, h⟩ | ⟨-, -, h⟩ <;> simp [h]

@[simp] theorem enablesOf_afterWrite (s : State) : enablesOf s.afterWrite = enablesOf s := by
  unfold State.afterWrite
  split <;> simp

@[simp] theorem enablesOf_enterRunning (s : State) : enablesOf s.enterRunning = enablesOf s := by
  unfold State.enterRunning
  dsimp only
  repeat' split
  all_goals simp

@[simp] theorem enablesOf_selfCheckEnds (s : State) (ok : Bool) : enablesOf (s.selfCheckEnds ok) = enablesOf s := by
  unfold State.selfCheckEnds
  dsimp only
  repeat' split
  all_goals simp

@[simp] theorem enablesOf_resetLines (s : State) : enablesOf s.resetLines = enablesOf s := by simp [State.resetLines]

@[simp] theorem enablesOf_zeroizeNow (s : State) : enablesOf s.zeroizeNow = enablesOf s := by
  simp [State.zeroizeNow, enablesOf_foldl _ fun t c => enablesOf_closeOpen t c false]

@[simp] theorem enablesOf_settingsWritten (s : State) (image : List Byte) (kept : List Nat) (result : Nat) (tag : Byte)
    (marked : Bool) : enablesOf (s.settingsWritten image kept result tag marked) = enablesOf s := by
  simp [State.settingsWritten]

/-! ### The decisions of the commands -/

@[simp] theorem enablesOf_send (s : State) (pt : Port) (tag : Byte) (loc : Nat) (payload : List Byte) :
    enablesOf (s.send pt tag loc payload) = enablesOf s := by
  unfold State.send
  split
  · simp
  · split
    · simp
    next t e =>
      simp [State.accept, enablesOf_takeBuf e]

@[simp] theorem enablesOf_open (s : State) (pt : Port) (tag : Byte) (n : Nat) (f : LimitFields) :
    enablesOf (s.open' pt tag n f) = enablesOf s := by
  unfold State.open'
  split <;> simp

@[simp] theorem enablesOf_closeCommand (s : State) (pt : Port) (tag : Byte) (n : Nat) :
    enablesOf (s.closeCommand pt tag n) = enablesOf s := by
  unfold State.closeCommand
  split <;> simp

@[simp] theorem enablesOf_setLimits (s : State) (pt : Port) (tag : Byte) (n : Nat) (f : LimitFields) :
    enablesOf (s.setLimits pt tag n f) = enablesOf s := by
  unfold State.setLimits
  split <;> simp

@[simp] theorem enablesOf_renew (s : State) (pt : Port) (tag : Byte) (n : Nat) :
    enablesOf (s.renew pt tag n) = enablesOf s := by
  unfold State.renew
  split
  · simp
  next c _ =>
    have h := enablesOf_request s c .port false false
    split
    all_goals
      next e => rw [e] at h; simpa using h

@[simp] theorem enablesOf_abortPending (s : State) (c : ChanId) : enablesOf (s.abortPending c) = enablesOf s := by
  unfold State.abortPending
  dsimp only
  split <;> simp

@[simp] theorem enablesOf_abort (s : State) (pt : Port) (tag : Byte) (n : Nat) :
    enablesOf (s.abort pt tag n) = enablesOf s := by
  unfold State.abort
  split
  · simp
  · dsimp only; split <;> simp

@[simp] theorem enablesOf_setAllocations (s : State) (pt : Port) (tag : Byte) (f : AllocFields) :
    enablesOf (s.setAllocations pt tag f) = enablesOf s := by
  unfold State.setAllocations
  split
  · simp
  · dsimp only; split <;> simp

@[simp] theorem enablesOf_setShares (s : State) (pt : Port) (tag : Byte) (f : ShareFields) :
    enablesOf (s.setShares pt tag f) = enablesOf s := by
  unfold State.setShares
  split
  · simp
  · dsimp only; split <;> simp

@[simp] theorem enablesOf_setTrunk (s : State) (pt : Port) (tag : Byte) (t : Trunk) (enable : Bool) :
    enablesOf (s.setTrunk pt tag t enable) = enablesOf s := by
  unfold State.setTrunk
  split
  · simp
  · split <;> simp

@[simp] theorem enablesOf_clearLatches (s : State) (pt : Port) (tag : Byte) (kinds : List FaultKind) :
    enablesOf (s.clearLatches pt tag kinds) = enablesOf s := by
  unfold State.clearLatches
  split <;> simp

@[simp] theorem enablesOf_setFaultMask (s : State) (pt : Port) (tag : Byte) (kinds : List FaultKind) :
    enablesOf (s.setFaultMask pt tag kinds) = enablesOf s := by
  unfold State.setFaultMask
  split <;> simp

@[simp] theorem enablesOf_takeFault (s : State) (pt : Port) (tag : Byte) :
    enablesOf (s.takeFault pt tag) = enablesOf s := by
  unfold State.takeFault
  split
  · simp
  · split <;> simp

@[simp] theorem enablesOf_writeLine (s : State) (i : Fin 8) (dirOut latch fn : Option Bool) :
    enablesOf (s.writeLine i dirOut latch fn) = enablesOf s := by
  unfold State.writeLine
  dsimp only
  split <;> simp

@[simp] theorem enablesOf_setLine (s : State) (pt : Port) (tag : Byte) (n : Nat) (dirOut latch fn : Option Bool) :
    enablesOf (s.setLine pt tag n dirOut latch fn) = enablesOf s := by
  unfold State.setLine
  split <;> simp

@[simp] theorem enablesOf_writeSettings (s : State) (pt : Port) (tag : Byte) (image : List Byte) :
    enablesOf (s.writeSettings pt tag image) = enablesOf s := by
  unfold State.writeSettings
  split
  · simp
  · split
    · simp
    · simp

@[simp] theorem enablesOf_zeroize (s : State) (pt : Port) (tag : Byte) :
    enablesOf (s.zeroize pt tag) = enablesOf s := by
  unfold State.zeroize
  split <;> simp

@[simp] theorem enablesOf_status (s : State) (pt : Port) (tag : Byte) (kind : Nat) (data : List Byte) :
    enablesOf (s.status pt tag kind data) = enablesOf s := by
  unfold State.status
  split <;> simp

@[simp] theorem enablesOf_channelStatus (s : State) (pt : Port) (tag : Byte) (n : Nat) :
    enablesOf (s.channelStatus pt tag n) = enablesOf s := by
  unfold State.channelStatus
  split
  · simp
  · split <;> simp

@[simp] theorem enablesOf_keyStoreStatus (s : State) (pt : Port) (tag : Byte) (n : Nat) :
    enablesOf (s.keyStoreStatus pt tag n) = enablesOf s := by
  unfold State.keyStoreStatus
  split
  · simp
  · split <;> simp

@[simp] theorem enablesOf_trunkStatus (s : State) (pt : Port) (tag : Byte) (clear : Bool) :
    enablesOf (s.trunkStatus pt tag clear) = enablesOf s := by
  unfold State.trunkStatus
  split
  · simp
  · cases clear <;> simp

@[simp] theorem enablesOf_portStatus (s : State) (pt : Port) (tag : Byte) (named : Port) (clear : Bool) :
    enablesOf (s.portStatus pt tag named clear) = enablesOf s := by
  unfold State.portStatus
  split
  · simp
  · cases clear <;> simp

/-- A RESTART that port G or P writes is refused (R187). -/
theorem enablesOf_restart (s : State) {pt : Port} (tag : Byte) (h : pt ≠ .m) :
    enablesOf (s.restart pt tag) = enablesOf s := by
  simp [State.restart, h]

/-! ### The turnover engine -/

@[simp] theorem enablesOf_protocol (s : State) (c : Option ChanId) : enablesOf (s.protocol c) = enablesOf s :=
  enablesOf_raise s _ _ _ _

@[simp] theorem enablesOf_failExchange (s : State) (e : Exchange) : enablesOf (s.failExchange e) = enablesOf s := by
  simp [State.failExchange]

@[simp] theorem enablesOf_askingEnds (s : State) (e : Exchange) : enablesOf (s.askingEnds e) = enablesOf s := by
  unfold State.askingEnds
  split <;> simp

@[simp] theorem enablesOf_askAgain (s : State) (e : Exchange) : enablesOf (s.askAgain e) = enablesOf s := by
  simp [State.askAgain]

@[simp] theorem enablesOf_confirmEnds (s : State) (c : ChanId) : enablesOf (s.confirmEnds c) = enablesOf s := by
  unfold State.confirmEnds
  split <;> simp

@[simp] theorem enablesOf_buildDone (s : State) (c : ChanId) (epoch : Nat) (proof : Sixteen) :
    enablesOf (s.buildDone c epoch proof) = enablesOf s := enablesOf_build s _ _

@[simp] theorem enablesOf_takeGive (s : State) (c : ChanId) (e : Exchange) (epoch : Nat) (head : Sixteen) :
    enablesOf (s.takeGive c e epoch head) = enablesOf s := by
  unfold State.takeGive
  split <;> simp

@[simp] theorem enablesOf_turnGive (s : State) (c : ChanId) (epoch : Nat) (head : Sixteen) :
    enablesOf (s.turnGive c epoch head) = enablesOf s := by
  unfold State.turnGive
  cases s.exchOf c with
  | none => simp
  | some e =>
    dsimp only
    split <;> split <;> simp

@[simp] theorem enablesOf_denied (s : State) (c : ChanId) : enablesOf (s.denied c) = enablesOf s := by
  simp [State.denied]

@[simp] theorem enablesOf_turnRefuse (s : State) (c : ChanId) (busy : Bool) :
    enablesOf (s.turnRefuse c busy) = enablesOf s := by
  unfold State.turnRefuse
  cases s.exchOf c with
  | none => simp
  | some e =>
    dsimp only
    split
    · cases busy <;> simp
    · cases busy <;> simp
    · simp

@[simp] theorem enablesOf_order (s : State) (l : List ChanId) : enablesOf (s.order l) = enablesOf s :=
  enablesOf_foldl _ (fun t c => enablesOf_request t c _ _ _) _ _

@[simp] theorem enablesOf_turnOrder (s : State) (payload : List Byte) :
    enablesOf (s.turnOrder payload) = enablesOf s := by
  unfold State.turnOrder
  dsimp only
  split
  · simp
  · split
    · split <;> simp
    · simp

@[simp] theorem enablesOf_buildHello (s : State) : enablesOf s.buildHello = enablesOf s := enablesOf_build s _ _

@[simp] theorem enablesOf_acknowledged (s : State) : enablesOf s.acknowledged = enablesOf s := by
  simp [State.acknowledged]

@[simp] theorem enablesOf_helloAck (s : State) (payload : List Byte) :
    enablesOf (s.helloAck payload) = enablesOf s := by
  unfold State.helloAck
  split
  · simp
  · split <;> simp

theorem enablesOf_forChan (s : State) (payload : List Byte) (len : Nat) (f : ChanId → State)
    (hf : ∀ c, enablesOf (f c) = enablesOf s) : enablesOf (s.forChan payload len f) = enablesOf s := by
  unfold State.forChan
  split
  · simp
  · split
    · exact hf _
    · simp

@[simp] theorem enablesOf_unfit (s : State) (k : Kind) (payload : List Byte) :
    enablesOf (s.unfit k payload) = enablesOf s := enablesOf_protocol s _

@[simp] theorem enablesOf_engine (s : State) (k : Kind) (payload : List Byte) :
    enablesOf (s.engine k payload) = enablesOf s := by
  have hgive := enablesOf_forChan s payload 19 _ fun c =>
    enablesOf_turnGive s c (numAt payload 1 2) (ofSixteen (payload.drop 3))
  have hrefuse := enablesOf_forChan s payload 2
    (fun c => if byteAt payload 1 = 1 then s.turnRefuse c true
      else if byteAt payload 1 = 2 then s.turnRefuse c false else s.protocol (some c))
    (fun c => by split <;> [skip; split] <;> simp)
  unfold State.engine
  split
  · simp
  · exact hgive
  · exact hgive
  · exact hrefuse
  · exact hrefuse
  all_goals simp

@[simp] theorem enablesOf_helloWaitEnds (s : State) : enablesOf s.helloWaitEnds = enablesOf s := by
  unfold State.helloWaitEnds
  split <;> simp

@[simp] theorem enablesOf_helloAgain (s : State) (phase : Phase) (deadline : Nat) :
    enablesOf (s.helloAgain phase deadline) = enablesOf s := by simp [State.helloAgain]

@[simp] theorem enablesOf_staged (s : State) (c : ChanId) (i : SlotId) (epoch : Nat) (store head : Sixteen) :
    enablesOf (s.staged c i epoch store head) = enablesOf s := by simp [State.staged]

@[simp] theorem enablesOf_bootstrapped (s : State) (i : SlotId) (count : Nat) :
    enablesOf (s.bootstrapped i count) = enablesOf s := by simp [State.bootstrapped]

/-! ### Cipher jobs -/

@[simp] theorem enablesOf_beginOut (s : State) (f : Frame) (i : SlotId) (k : Keyed) (t : Trunk) :
    enablesOf (s.beginOut f i k t) = enablesOf s := by simp [State.beginOut]

@[simp] theorem enablesOf_bounce (s : State) (f : Frame) : enablesOf (s.bounce f) = enablesOf s := by
  unfold State.bounce
  dsimp only
  split <;> simp

@[simp] theorem enablesOf_bindOut (s : State) (f : Frame) (r : Option Requester) :
    enablesOf (s.bindOut f r) = enablesOf s := by
  unfold State.bindOut
  split
  · cases r <;> simp
  · simp

@[simp] theorem enablesOf_beginIn (s : State) : enablesOf s.beginIn = enablesOf s := by
  unfold State.beginIn
  split
  · rfl
  · dsimp only; split <;> simp

@[simp] theorem enablesOf_release (s : State) (place : Option Trunk) : enablesOf (s.release place) = enablesOf s := by
  cases place <;> simp [State.release]

@[simp] theorem enablesOf_placeOut (s : State) (f : Frame) (place : Option Trunk) (discard : Bool) :
    enablesOf (s.placeOut f place discard) = enablesOf s := by
  cases discard <;> cases place <;> simp [State.placeOut]

@[simp] theorem enablesOf_tagFailure (s : State) (c : ChanId) : enablesOf (s.tagFailure c) = enablesOf s := by
  unfold State.tagFailure
  dsimp only
  split <;> simp

@[simp] theorem enablesOf_overrun (s : State) (pt : Port) (c : ChanId) : enablesOf (s.overrun pt c) = enablesOf s := by
  simp [State.overrun]

@[simp] theorem enablesOf_deliver (s : State) (c : ChanId) (payload : List Byte) :
    enablesOf (s.deliver c payload) = enablesOf s := by
  unfold State.deliver
  split
  · simp
  · split
    · simp
    · split <;> simp

@[simp] theorem enablesOf_handOff (s : State) (f : InFrame) (payload : List Byte) :
    enablesOf (s.handOff f payload) = enablesOf s := by
  unfold State.handOff
  split <;> simp

@[simp] theorem enablesOf_dropIn (s : State) (f : InFrame) (d : Drop) : enablesOf (s.dropIn f d) = enablesOf s := by
  simp [State.dropIn]

@[simp] theorem enablesOf_endJob (s : State) (i : SlotId) : enablesOf (s.endJob i) = enablesOf s := by
  simp [State.endJob]

@[simp] theorem enablesOf_passed (s : State) (f : InFrame) (i : SlotId) (k : Keyed) :
    enablesOf (s.passed f i k) = enablesOf s := by
  unfold State.passed
  cases k.judge f.seq with
  | accept => dsimp only; split <;> simp
  | late => simp
  | repeated => simp

@[simp] theorem enablesOf_inEnds (s : State) (f : InFrame) (i : SlotId) : enablesOf (s.inEnds f i) = enablesOf s := by
  unfold State.inEnds
  split
  · split <;> simp
  · simp

/-! ### The uptime step and the deadlines -/

@[simp] theorem enablesOf_triggers (s : State) (c : ChanId) : enablesOf (s.triggers c) = enablesOf s := by
  unfold State.triggers
  dsimp only
  split
  · split <;> simp
  · split <;> simp
  · rfl

@[simp] theorem enablesOf_evaluate (s : State) (c : ChanId) : enablesOf (s.evaluate c) = enablesOf s := by
  unfold State.evaluate
  split
  · dsimp only; split <;> simp
  · rfl

@[simp] theorem enablesOf_retryOpen (s : State) (c : ChanId) : enablesOf (s.retryOpen c) = enablesOf s := by
  unfold State.retryOpen
  split <;> simp

@[simp] theorem enablesOf_noteAhead (s : State) (c : ChanId) : enablesOf (s.noteAhead c) = enablesOf s := by
  unfold State.noteAhead
  split <;> simp

@[simp] theorem enablesOf_aheadStarts (l : List ChanId) (n : Nat) (s : State) :
    enablesOf (State.aheadStarts l n s) = enablesOf s := by
  induction l generalizing n s with
  | nil => cases n <;> rfl
  | cons c l ih =>
    cases n with
    | zero => rfl
    | succ n =>
      unfold State.aheadStarts
      split
      · split
        · rfl
        next t i e => simp [ih, enablesOf_reserve e]
      · exact ih _ _

@[simp] theorem enablesOf_aheadStep (s : State) : enablesOf s.aheadStep = enablesOf s := by
  unfold State.aheadStep
  split <;> simp

@[simp] theorem enablesOf_everySecond (s : State) : enablesOf s.everySecond = enablesOf s := by
  simp [State.everySecond, enablesOf_foldl _ enablesOf_evaluate, enablesOf_foldl _ enablesOf_retryOpen]

@[simp] theorem enablesOf_expire (s : State) (f : Frame) : enablesOf (s.expire f) = enablesOf s := by
  simp [State.expire]

@[simp] theorem enablesOf_settleEnds (s : State) (i : SlotId) : enablesOf (s.settleEnds i) = enablesOf s := by
  unfold State.settleEnds
  dsimp only
  split <;> simp

@[simp] theorem enablesOf_unpause (s : State) (c : ChanId) : enablesOf (s.unpause c) = enablesOf s := by
  simp [State.unpause]

@[simp] theorem enablesOf_pauseEnds (s : State) (c : ChanId) : enablesOf (s.pauseEnds c) = enablesOf s := by
  unfold State.pauseEnds
  dsimp only
  repeat' split
  all_goals simp

@[simp] theorem enablesOf_reportEnds (s : State) : enablesOf s.reportEnds = enablesOf s := by simp [State.reportEnds]

@[simp] theorem enablesOf_carrierPin (s : State) (t : Trunk) (level : Bool) :
    enablesOf (s.carrierPin t level) = enablesOf s := by simp [State.carrierPin]

@[simp] theorem enablesOf_markAll (s : State) (pt : Port) : enablesOf (s.markAll pt) = enablesOf s := by
  simp [State.markAll]

/-! ### Every row but SET_PORT and a start-up keeps the enables -/

/-- Where a row goes on from `s`, the enables are those of `s`. -/
def KeepsEnables (s : State) (o : Host.Outcome State Fault Refusal) : Prop :=
  ∀ t, o = .next t → enablesOf t = enablesOf s

@[simp] theorem keepsEnables_next (s t : State) : KeepsEnables s (.next t) ↔ enablesOf t = enablesOf s :=
  ⟨fun h => h t rfl, fun h u e => by cases e; exact h⟩

/-- The rows that write enables: SET_PORT, and those that can take a start-up (R186, R187). -/
def writesEnables : Instr → Bool
  | .setPort .. | .powerOnReset | .deferredRestart | .restart .m _ => true
  | _ => false

/-- A command row keeps the enables when its decision does. -/
theorem keepsEnables_command (s : State) (pt : Port) (decide : State → State)
    (h : enablesOf (decide s) = enablesOf s) : KeepsEnables s (.next (s.command pt decide)) :=
  (keepsEnables_next _ _).2 (enablesOf_command s pt decide h)

/-- An event row that acts under a guard, and changes nothing without it. -/
theorem keepsEnables_guarded {s t : State} {p : Prop} [Decidable p] (h : enablesOf t = enablesOf s) :
    KeepsEnables s (if p then .next t else .next s) := by
  split
  · exact (keepsEnables_next _ _).2 h
  · exact (keepsEnables_next _ _).2 rfl

theorem keepsEnables_readCompletion (s : State) (pt : Port) : KeepsEnables s (execReadCompletion pt s) := by
  unfold execReadCompletion
  split <;> simp

theorem keepsEnables_readDelivery (s : State) (pt : Port) : KeepsEnables s (execReadDelivery pt s) := by
  unfold execReadDelivery
  split <;> simp

theorem keepsEnables_readAttention (s : State) (pt : Port) (clear : Byte) :
    KeepsEnables s (execReadAttention pt clear s) := by
  unfold execReadAttention
  split <;> simp

theorem enablesOf_returned (n : Nat) (h : Holder) (s : State) :
    enablesOf (Nat.repeat (fun s : State => s.giveBuf h) n s) = enablesOf s := by
  induction n with
  | zero => rfl
  | succ n ih => exact ih

theorem keepsEnables_portReset (s : State) (pt : Port) : KeepsEnables s (execPortReset pt s) := by
  have hreset (u : State) : enablesOf (u.modPort pt PortRec.atReset) = enablesOf u :=
    enablesOf_modPort u pt _ fun _ => rfl
  simp [execPortReset, hreset, enablesOf_returned]

theorem keepsEnables_tamper (s : State) (held : Bool) : KeepsEnables s (execTamper held s) := by
  unfold execTamper
  dsimp only
  split <;> simp

theorem keepsEnables_holdExpiry (s : State) (o : OutSrc) (sub : Nat) : KeepsEnables s (execHoldExpiry o sub s) := by
  unfold execHoldExpiry
  split
  · exact keepsEnables_guarded (by simp)
  · simp

theorem keepsEnables_askingDeadline (s : State) (c : ChanId) : KeepsEnables s (execAskingDeadline c s) := by
  unfold execAskingDeadline
  split
  · exact keepsEnables_guarded (by simp)
  · simp

theorem keepsEnables_backingOffDeadline (s : State) (c : ChanId) : KeepsEnables s (execBackingOffDeadline c s) := by
  unfold execBackingOffDeadline
  split
  · exact keepsEnables_guarded (by simp)
  · simp

theorem keepsEnables_confirmingDeadline (s : State) (c : ChanId) : KeepsEnables s (execConfirmingDeadline c s) := by
  unfold execConfirmingDeadline
  split
  · exact keepsEnables_guarded (by simp)
  · simp

theorem keepsEnables_provingDeadline (s : State) (t : Trunk) : KeepsEnables s (execProvingDeadline t s) := by
  unfold execProvingDeadline
  split
  · exact keepsEnables_guarded (by simp)
  · simp

theorem keepsEnables_frameReceived (s : State) (t : Trunk) (bytes : List Byte) :
    KeepsEnables s (execFrameReceived t bytes s) := by
  unfold execFrameReceived
  split <;> simp

theorem keepsEnables_partialFrameDiscarded (s : State) (t : Trunk) :
    KeepsEnables s (execPartialFrameDiscarded t s) := by
  unfold execPartialFrameDiscarded
  split <;> simp

theorem keepsEnables_transmissionStart (s : State) (t : Trunk) : KeepsEnables s (execTransmissionStart t s) := by
  unfold execTransmissionStart
  split <;> simp

theorem keepsEnables_transmissionEnd (s : State) (t : Trunk) : KeepsEnables s (execTransmissionEnd t s) := by
  unfold execTransmissionEnd
  split <;> simp

theorem keepsEnables_outboundJobStart (s : State) : KeepsEnables s (execOutboundJobStart s) := by
  have h := enablesOf_arbitrate s
  unfold execOutboundJobStart
  split
  · split
    case h_1 e => rw [e] at h; simpa using h
    case h_2 e => rw [e] at h; simpa using h
    case h_3 e => rw [e] at h; simpa using h
    case h_4 => simp
  · simp

theorem keepsEnables_inboundJobStart (s : State) : KeepsEnables s (execInboundJobStart s) := by
  have h := enablesOf_arbitrate s
  unfold execInboundJobStart
  split
  · split
    case h_1 e => rw [e] at h; simpa using h
    case h_2 e => rw [e] at h; simpa using h
    case h_3 => simp
  · simp

theorem keepsEnables_outboundJobEnd (s : State) : KeepsEnables s (execOutboundJobEnd s) := by
  unfold execOutboundJobEnd
  split
  · split <;> simp
  · simp

theorem keepsEnables_inboundJobEnd (s : State) : KeepsEnables s (execInboundJobEnd s) := by
  unfold execInboundJobEnd
  split <;> simp

theorem keepsEnables_derivationStart (s : State) : KeepsEnables s (execDerivationStart s) := by
  unfold execDerivationStart
  split
  · exact keepsEnables_guarded (by simp)
  · simp

theorem keepsEnables_turnoverDerivationEnd (s : State) : KeepsEnables s (execTurnoverDerivationEnd s) := by
  unfold execTurnoverDerivationEnd
  split
  · dsimp only; split <;> simp
  · simp

theorem keepsEnables_bootstrapDerivationEnd (s : State) : KeepsEnables s (execBootstrapDerivationEnd s) := by
  unfold execBootstrapDerivationEnd
  split
  · dsimp only; split <;> simp
  · simp

theorem keepsEnables_settingsWriteEnd (s : State) : KeepsEnables s (execSettingsWriteEnd s) := by
  unfold execSettingsWriteEnd
  split <;> simp

theorem keepsEnables_countWriteEnd (s : State) : KeepsEnables s (execCountWriteEnd s) := by
  unfold execCountWriteEnd
  split <;> simp

/-- The rows that write no enable, by the lemma of each: a command by that of its decision, an event by its own. -/
theorem keepsEnables_exec (c : Instr) (s : State) (h : writesEnables c = false) : KeepsEnables s (exec c s) := by
  cases c
  case setPort | powerOnReset | deferredRestart => cases h
  case restart pt tag => exact keepsEnables_command s pt _ (enablesOf_restart s tag (by rintro rfl; cases h))
  case send => exact keepsEnables_command s _ _ (enablesOf_send ..)
  case openChannel => exact keepsEnables_command s _ _ (enablesOf_open ..)
  case closeChannel => exact keepsEnables_command s _ _ (enablesOf_closeCommand ..)
  case setLimits => exact keepsEnables_command s _ _ (enablesOf_setLimits ..)
  case renew => exact keepsEnables_command s _ _ (enablesOf_renew ..)
  case abortRenewal => exact keepsEnables_command s _ _ (enablesOf_abort ..)
  case setAllocations => exact keepsEnables_command s _ _ (enablesOf_setAllocations ..)
  case setShares => exact keepsEnables_command s _ _ (enablesOf_setShares ..)
  case setTrunk => exact keepsEnables_command s _ _ (enablesOf_setTrunk ..)
  case clearLatches => exact keepsEnables_command s _ _ (enablesOf_clearLatches ..)
  case setFaultMask => exact keepsEnables_command s _ _ (enablesOf_setFaultMask ..)
  case takeFault => exact keepsEnables_command s _ _ (enablesOf_takeFault ..)
  case setLine => exact keepsEnables_command s _ _ (enablesOf_setLine ..)
  case writeSettings => exact keepsEnables_command s _ _ (enablesOf_writeSettings ..)
  case zeroize => exact keepsEnables_command s _ _ (enablesOf_zeroize ..)
  case undefinedCommand => exact keepsEnables_command s _ _ (enablesOf_refuse ..)
  case channelStatus => exact keepsEnables_command s _ _ (enablesOf_channelStatus ..)
  case keyStoreStatus => exact keepsEnables_command s _ _ (enablesOf_keyStoreStatus ..)
  case trunkStatus => exact keepsEnables_command s _ _ (enablesOf_trunkStatus ..)
  case portStatus => exact keepsEnables_command s _ _ (enablesOf_portStatus ..)
  case poolStatus | arbiterStatus | waitListStatus | exchangeStatus | faultStatus | readLines | partStatus =>
    exact keepsEnables_command s _ _ (enablesOf_status ..)
  case readCompletion => exact keepsEnables_readCompletion s _
  case readDelivery => exact keepsEnables_readDelivery s _
  case readAttention => exact keepsEnables_readAttention s _ _
  case undefinedTransaction => exact (keepsEnables_next _ _).2 (enablesOf_answer ..)
  case transactionCutShort => exact (keepsEnables_next _ _).2 rfl
  case portReset => exact keepsEnables_portReset s _
  case portResetRelease => exact (keepsEnables_next _ _).2 (enablesOf_modPort _ _ _ fun _ => rfl)
  case tamper => exact keepsEnables_tamper s _
  case carrierRising => exact (keepsEnables_next _ _).2 (enablesOf_carrierPin ..)
  case carrierFalling => exact (keepsEnables_next _ _).2 (by simp)
  case holdAsserted => exact (keepsEnables_next _ _).2 (by simp)
  case holdReleased => exact (keepsEnables_next _ _).2 (enablesOf_modTrunk ..)
  case frameReceived => exact keepsEnables_frameReceived s _ _
  case partialFrameDiscarded => exact keepsEnables_partialFrameDiscarded s _
  case uptimeStep => exact (keepsEnables_next _ _).2 (by simp)
  case holdExpiry => exact keepsEnables_holdExpiry s _ _
  case settleDeadline => exact keepsEnables_guarded (enablesOf_settleEnds ..)
  case pauseDeadline => exact keepsEnables_guarded (enablesOf_pauseEnds ..)
  case askingDeadline => exact keepsEnables_askingDeadline s _
  case backingOffDeadline => exact keepsEnables_backingOffDeadline s _
  case confirmingDeadline => exact keepsEnables_confirmingDeadline s _
  case helloWaitDeadline => exact keepsEnables_guarded (enablesOf_helloWaitEnds ..)
  case helloBackoffDeadline => exact keepsEnables_guarded (by simp)
  case helloSlowDeadline => exact keepsEnables_guarded (by simp)
  case provingDeadline => exact keepsEnables_provingDeadline s _
  case reportDeadline => exact keepsEnables_guarded (by simp)
  case stallLimitReached => exact keepsEnables_guarded (by simp)
  case outboundJobStart => exact keepsEnables_outboundJobStart s
  case inboundJobStart => exact keepsEnables_inboundJobStart s
  case outboundJobEnd => exact keepsEnables_outboundJobEnd s
  case inboundJobEnd => exact keepsEnables_inboundJobEnd s
  case derivationStart => exact keepsEnables_derivationStart s
  case turnoverDerivationEnd => exact keepsEnables_turnoverDerivationEnd s
  case bootstrapDerivationEnd => exact keepsEnables_bootstrapDerivationEnd s
  case selfCheckEnd => exact keepsEnables_guarded (enablesOf_selfCheckEnds ..)
  case settingsWriteEnd => exact keepsEnables_settingsWriteEnd s
  case countWriteEnd => exact keepsEnables_countWriteEnd s
  case waitingCutover => exact (keepsEnables_next _ _).2 (by simp)
  case transmissionStart => exact keepsEnables_transmissionStart s _
  case transmissionEnd => exact keepsEnables_transmissionEnd s _
  case exchangeStart => exact (keepsEnables_next _ _).2 (by simp)

/-! ### SET_PORT itself -/

/-- A port that takes a command does not answer BUSY (R169). -/
theorem not_busy_of_takes {s : State} {pt : Port} (h : s.Takes pt) : s.busy pt = false := by
  obtain ⟨hmode, hreset, hroom⟩ := h
  have : ¬ 16 ≤ (s.port pt).outstanding + (s.port pt).completions.length := by omega
  simp [State.busy, hmode, hreset, this]

/-- A taken command whose decision completes it at once (R169, R170), whatever else the decision has changed. -/
theorem command_of_completes {s u : State} {pt : Port} (h : s.Takes pt) (decide : State → State) (tag : Byte)
    (kind : Nat) (res : Result) (data : List Byte) (hd : decide s = u.complete pt ⟨tag, kind, res, data⟩ false false) :
    s.command pt decide = u.completedAt pt tag kind res data := by
  rw [State.command, not_busy_of_takes h, hd]
  cases pt <;> rfl

/-- A refused SET_PORT (R174). -/
theorem setPort_refused {s : State} {pt named : Port} {k : Cause} (h : s.Takes pt) (hk : s.portCheck pt named = some k)
    (tag : Byte) (submit deliver attention : Option Bool) :
    exec (.setPort pt tag named submit deliver attention) s = .next (s.completedAt pt tag 0x15 (.refused k) []) :=
  congrArg _ (command_of_completes h _ _ _ _ _ (by simp only [State.setPort, hk]; rfl))

/-- An accepted SET_PORT (R174): the named port's enables, and the completion at the writing port. -/
theorem setPort_done {s : State} {pt named : Port} (h : s.Takes pt) (hk : s.portCheck pt named = none) (tag : Byte)
    (submit deliver attention : Option Bool) :
    let e := (s.port named).enables.replaced submit deliver attention
    exec (.setPort pt tag named submit deliver attention) s
      = .next ((s.modPort named fun r => { r with enables := e }).completedAt pt tag 0x15 .done e.bytes) :=
  congrArg _ (command_of_completes h _ _ _ _ _ (by simp only [State.setPort, hk]; rfl))

theorem bytes_of_enables (e : Enables) :
    e.bytes = [if e.submit then 1 else 0, if e.deliver then 1 else 0, if e.attention then 1 else 0] := by
  obtain ⟨submit, deliver, attention⟩ := e
  cases submit <;> cases deliver <;> cases attention <;> rfl

/-- SET_PORT writes no enable but those of the port it names. -/
theorem setPort_other (s : State) (pt named q : Port) (tag : Byte) (submit deliver attention : Option Bool)
    (hq : q ≠ named) :
    ((s.setPort pt tag named submit deliver attention).port q).enables = (s.port q).enables := by
  unfold State.setPort
  split
  · exact port_enables_of_eq (enablesOf_refuse ..) q
  · rw [port_enables_of_eq (enablesOf_finish ..) q, State.port_modPort, if_neg hq]

/-- Whoever's enables differ after SET_PORT is the port it names. -/
theorem eq_named_of_setPort {s t : State} {pt named q : Port} {tag : Byte} {submit deliver attention : Option Bool}
    (hstep : exec (.setPort pt tag named submit deliver attention) s = .next t)
    (hne : (t.port q).enables ≠ (s.port q).enables) : q = named := by
  by_contra hq
  refine hne ?_
  cases hstep
  unfold State.command
  split
  · exact port_enables_of_eq (enablesOf_answer ..) q
  · rw [port_enables_of_eq (enablesOf_answer ..) q, setPort_other s pt named q tag _ _ _ hq]

/-- The attention level (R172) by the latches as a whole. -/
theorem level_iff (r : PortRec) :
    r.level = true ↔ r.enables.attention = true ∧ r.latches ≠ ⟨false, false, false, false⟩ := by
  obtain ⟨_, _, _, _, ⟨completion, delivery, channel, fault⟩, _, _, _, _⟩ := r
  simp only [PortRec.level, Bool.and_eq_true, Bool.or_eq_true, ne_eq, Latches.mk.injEq]
  cases completion <;> cases delivery <;> cases channel <;> cases fault <;> simp

/-! ### The obligation -/

/-- Settles O37: the answer of SET_PORT by its tests, the rows that write an enable, and the attention level. -/
theorem setPortWritesTheEnables : Obligations.SetPortWritesTheEnables := by
  refine ⟨fun s pt named tag su de att h => ⟨fun k hk => setPort_refused h hk tag su de att, fun hk => ?done⟩,
    fun c s t q hstep hne => ?frame, level_iff⟩
  case done =>
    rw [setPort_done h hk, bytes_of_enables]
    rfl
  case frame =>
    by_cases hw : writesEnables c = false
    · exact absurd (port_enables_of_eq (keepsEnables_exec c s hw t hstep) q) hne
    · unfold writesEnables at hw
      split at hw
      case h_1 => cases eq_named_of_setPort hstep hne; exact .inl ⟨_, _, _, _, _, rfl⟩
      case h_2 => exact .inr (.inl rfl)
      case h_3 => exact .inr (.inr (.inl rfl))
      case h_4 => exact .inr (.inr (.inr ⟨_, rfl⟩))
      case h_5 => exact absurd rfl hw

end Sys2Proof.Proofs

/-! What a step of the model keeps: two relations between the state before an operation and the state after it, from
which the six laws, the queue, and the frames of mode, uptime, settings and image are read off. -/

namespace Sys2Proof.Proofs
open Sys2Proof.Machine

/-! ### The relations -/

/-- The frames whose buffers INBOUND holds (R71, R76): in the inbound FIFO, the core and the delivery queues. -/
def inboundFrames (s : State) : Nat :=
  s.inFifo.length + s.core.inboundCount
    + (s.portG.deliveries.length + s.portP.deliveries.length + s.portM.deliveries.length)

theorem inboundLaw_iff (s : State) : s.InboundLaw ↔ s.pool.heldInbound = inboundFrames s := Iff.rfl

/-- The modes that R185 keeps without keys, channels and work. -/
def InQuietMode (s : State) : Prop := s.mode = .safe ∨ s.mode = .lockdown

/-- An operation leads from `s` to `t`. `a` and `b` count the INBOUND buffers in hand before and after: those of a frame
that has left the FIFO or the core and has not been disposed of. -/
structure Evolves (a b : Nat) (s t : State) : Prop where
  mode : t.mode = s.mode
  uptime : t.uptime = s.uptime
  settings : t.settings = s.settings
  pending : t.pending = s.pending
  image : t.store.image = s.store.image
  pool : t.pool.free + t.pool.totalHeld = s.pool.free + s.pool.totalHeld
  inbound : ∀ k, s.pool.heldInbound = inboundFrames s + a + k → t.pool.heldInbound = inboundFrames t + b + k
  deliveries : (∀ pt, (s.port pt).deliveries.length ≤ 24) → ∀ pt, (t.port pt).deliveries.length ≤ 24
  exch : s.exch.length ≤ 4 → t.exch.length ≤ 4
  waitList : s.sched.waitList.length ≤ 31 → t.sched.waitList.length ≤ 31
  faults : s.fault.queue.length ≤ 32 → t.fault.queue.length ≤ 32
  slots : s.SlotLaw → t.SlotLaw
  quiet : s.QuietLaw → t.QuietLaw

theorem Evolves.refl (a : Nat) (s : State) : Evolves a a s s :=
  ⟨rfl, rfl, rfl, rfl, rfl, rfl, fun _ h => h, id, id, id, id, id, id⟩

theorem Evolves.trans {a b c : Nat} {s t u : State} (h : Evolves a b s t) (k : Evolves b c t u) : Evolves a c s u where
  mode := k.mode.trans h.mode
  uptime := k.uptime.trans h.uptime
  settings := k.settings.trans h.settings
  pending := k.pending.trans h.pending
  image := k.image.trans h.image
  pool := k.pool.trans h.pool
  inbound n e := k.inbound n (h.inbound n e)
  deliveries x := k.deliveries (h.deliveries x)
  exch x := k.exch (h.exch x)
  waitList x := k.waitList (h.waitList x)
  faults x := k.faults (h.faults x)
  slots x := k.slots (h.slots x)
  quiet x := k.quiet (h.quiet x)

/-- What the trunk law reads of one trunk. -/
def trunkGist (r : TrunkRec) : Bool × TrunkState × Nat × Nat × Bool × Nat :=
  (r.enable, r.state, r.queue.length, r.reserved, r.transmitting, r.depth)

/-- What the trunk law reads of a state. -/
def trunkView (s : State) :=
  (trunkGist s.t0, trunkGist s.t1, s.active, s.core.place, s.mode)

theorem trunkLaw_of_view {s t : State} (h : trunkView t = trunkView s) (hs : s.TrunkLaw) : t.TrunkLaw := by
  simp only [trunkView, trunkGist, Prod.mk.injEq] at h
  obtain ⟨⟨e0, s0, q0, r0, x0, d0⟩, ⟨e1, s1, q1, r1, x1, d1⟩, ha, hc, hm⟩ := h
  simp only [State.TrunkLaw, State.QueueLaw, State.trunk, ← List.length_eq_zero_iff] at hs ⊢
  rw [e0, s0, q0, r0, x0, d0, e1, s1, q1, r1, x1, d1, ha, hc, hm]
  exact hs

/-- An operation that touches neither what the trunk law reads nor an INBOUND buffer in hand. -/
structure Local (s t : State) : Prop where
  evolves : ∀ n, Evolves n n s t
  trunks : trunkView t = trunkView s

theorem Local.refl (s : State) : Local s s := ⟨fun n => .refl n s, rfl⟩

theorem Local.trans {s t u : State} (h : Local s t) (k : Local t u) : Local s u :=
  ⟨fun n => (h.evolves n).trans (k.evolves n), k.trunks.trans h.trunks⟩

/-- Composition with the last operation written first, so that its form gives the state before it. -/
theorem Local.after {s t u : State} (k : Local t u) (h : Local s t) : Local s u := h.trans k

theorem Evolves.after {a b c : Nat} {s t u : State} (k : Evolves b c t u) (h : Evolves a b s t) : Evolves a c s u :=
  h.trans k

theorem Local.foldl {α : Type} {f : State → α → State} (h : ∀ s a, Local s (f s a)) (l : List α) (s : State) :
    Local s (l.foldl f s) := by
  induction l generalizing s with
  | nil => exact .refl s
  | cons a l ih => exact (h s a).trans (ih _)

theorem Evolves.foldl {α : Type} {n : Nat} {f : State → α → State} (h : ∀ s a, Evolves n n s (f s a)) (l : List α)
    (s : State) : Evolves n n s (l.foldl f s) := by
  induction l generalizing s with
  | nil => exact .refl n s
  | cons a l ih => exact (h s a).trans (ih _)

/-! ### Writes of single parts -/

/-- All that the two relations read but the channels, the slots, the lists with a bound, and the pool. -/
def lawView (s : State) :=
  (s.mode, s.uptime, s.settings, s.pending, s.store.image, s.inFifo, s.core, s.derivs,
    (s.portG.deliveries, s.portP.deliveries, s.portM.deliveries), trunkView s)

/-- A write of the remaining parts: each bounded list within its bound, the pool with its total and INBOUND's holding. -/
theorem Local.of_view {s t : State} (h : lawView t = lawView s) (hsl : t.slots = s.slots) (hch : t.chans = s.chans)
    (hpool : t.pool.free + t.pool.totalHeld = s.pool.free + s.pool.totalHeld)
    (hin : t.pool.heldInbound = s.pool.heldInbound) (hexch : s.exch.length ≤ 4 → t.exch.length ≤ 4)
    (hwait : s.sched.waitList.length ≤ 31 → t.sched.waitList.length ≤ 31)
    (hq : s.fault.queue.length ≤ 32 → t.fault.queue.length ≤ 32) : Local s t := by
  simp only [lawView, Prod.mk.injEq] at h
  obtain ⟨hm, hu, hse, hp, hi, hf, hc, hd, ⟨hg, hpp, hpm⟩, ht⟩ := h
  refine ⟨fun n => ⟨hm, hu, hse, hp, hi, hpool, fun k e => ?_, fun x pt => ?_, hexch, hwait, hq, fun x i => ?_,
    fun x y => ?_⟩, ht⟩
  · rw [hin, e]; simp only [inboundFrames, hf, hc, hg, hpp, hpm]
  · have := x pt; cases pt <;> simpa only [State.port, hg, hpp, hpm] using this
  · have := x i; simpa only [State.slot, hsl] using this
  · have := x (by rwa [hm] at y); simpa only [State.slot, State.chan, hsl, hch, hc, hd] using this

/-- A write that the laws do not read at all. -/
theorem Local.of_same {s t : State} (h : lawView t = lawView s) (hsl : t.slots = s.slots) (hch : t.chans = s.chans)
    (hpool : t.pool = s.pool) (hexch : t.exch = s.exch) (hwait : t.sched.waitList = s.sched.waitList)
    (hq : t.fault.queue = s.fault.queue) : Local s t :=
  .of_view h hsl hch (by rw [hpool]) (by rw [hpool]) (by rw [hexch]; exact id) (by rw [hwait]; exact id)
    (by rw [hq]; exact id)

theorem Local.modPort (s : State) (pt : Port) (f : PortRec → PortRec) (hf : ∀ r, (f r).deliveries = r.deliveries) :
    Local s (s.modPort pt f) := by
  cases pt <;> exact .of_same (by simp [lawView, State.modPort, hf, trunkView]) rfl rfl rfl rfl rfl rfl

theorem Local.modSrc (s : State) (o : OutSrc) (f : Source → Source) : Local s (s.modSrc o f) := by
  cases o <;> exact .of_same rfl rfl rfl rfl rfl rfl rfl

theorem Local.modLine (s : State) (i : Fin 8) (f : Line → Line) : Local s (s.modLine i f) :=
  .of_same rfl rfl rfl rfl rfl rfl rfl

/-- A write of a trunk that the trunk law does not read. -/
theorem Local.modTrunk (s : State) (t : Trunk) (f : TrunkRec → TrunkRec)
    (hf : trunkGist (f (s.trunk t)) = trunkGist (s.trunk t)) : Local s (s.modTrunk t f) := by
  cases t
  · exact .of_same (by simpa [lawView, trunkView, State.modTrunk, State.trunk] using hf) rfl rfl rfl rfl rfl rfl
  · exact .of_same (by simpa [lawView, trunkView, State.modTrunk, State.trunk] using hf) rfl rfl rfl rfl rfl rfl

theorem Local.fault (s : State) (u : FaultUnit) (h : s.fault.queue.length ≤ 32 → u.queue.length ≤ 32) :
    Local s { s with fault := u } := .of_view rfl rfl rfl rfl rfl id id h

theorem Local.sched (s : State) (d : Scheduler) (h : s.sched.waitList.length ≤ 31 → d.waitList.length ≤ 31) :
    Local s { s with sched := d } := .of_view rfl rfl rfl rfl rfl id h id

theorem Local.exch (s : State) (l : List Exchange) (h : s.exch.length ≤ 4 → l.length ≤ 4) :
    Local s { s with exch := l } := .of_view rfl rfl rfl rfl rfl h id id

theorem Local.boot (s : State) (b : Boot) : Local s { s with boot := b } := .of_same rfl rfl rfl rfl rfl rfl rfl

theorem Local.draws (s : State) (n : Nat) : Local s { s with draws := n } := .of_same rfl rfl rfl rfl rfl rfl rfl

theorem Local.arb (s : State) (a : Arbiter) : Local s { s with arb := a } := .of_same rfl rfl rfl rfl rfl rfl rfl

theorem Local.lines (s : State) (l : Vector Line 8) : Local s { s with lines := l } :=
  .of_same rfl rfl rfl rfl rfl rfl rfl

/-- A write of the store that leaves the image alone. -/
theorem Local.store (s : State) (x : Store) (h : x.image = s.store.image) : Local s { s with store := x } :=
  .of_same (by simp [lawView, h, trunkView]) rfl rfl rfl rfl rfl rfl

/-- A write of a channel that, in SAFE and LOCKDOWN, does not open a CLOSED one. -/
theorem Local.modChan (s : State) (c : ChanId) (f : Chan → Chan)
    (hf : s.QuietLaw → InQuietMode s → (s.chan c).state = .closed → (f (s.chan c)).state = .closed) : Local s (s.modChan c f) := by
  refine ⟨fun n => ⟨rfl, rfl, rfl, rfl, rfl, rfl, fun _ h => h, id, id, id, id, id, fun x y => ?_⟩, rfl⟩
  obtain ⟨hs, hc, hk, hd⟩ := x y
  refine ⟨hs, fun d => ?_, hk, hd⟩
  rw [State.chan_modChan]
  split
  case isTrue h => subst h; exact hf x y (hc d)
  case isFalse => exact hc d

theorem Local.modChan_of_state (s : State) (c : ChanId) (f : Chan → Chan) (hf : ∀ x, (f x).state = x.state) :
    Local s (s.modChan c f) := .modChan s c f fun _ _ h => (hf _).trans h

/-- A write of a slot that keeps its law and, in SAFE and LOCKDOWN, does not fill an EMPTY one. -/
theorem Local.modSlot (s : State) (i : SlotId) (f : Slot → Slot) (hlaw : (s.slot i).Law → (f (s.slot i)).Law)
    (hq : s.QuietLaw → InQuietMode s → (s.slot i).state = .empty → (f (s.slot i)).state = .empty) :
    Local s (s.modSlot i f) := by
  refine ⟨fun n => ⟨rfl, rfl, rfl, rfl, rfl, rfl, fun _ h => h, id, id, id, id, fun x j => ?_, fun x y => ?_⟩, rfl⟩
  · rw [State.slot_modSlot]
    split
    case isTrue h => subst h; exact hlaw (x j)
    case isFalse => exact x j
  · obtain ⟨hs, hc, hk, hd⟩ := x y
    refine ⟨fun j => ?_, hc, hk, hd⟩
    rw [State.slot_modSlot]
    split
    case isTrue h => subst h; exact hq x y (hs j)
    case isFalse => exact hs j

/-- The core's work is written, with the place it holds and the INBOUND frames in it as they were. -/
theorem Local.work (s : State) (k : Core) (l : List Derivation) (hplace : k.place = s.core.place)
    (hcount : k.inboundCount = s.core.inboundCount)
    (hq : s.QuietLaw → InQuietMode s → s.core = .idle → s.derivs = [] → k = .idle ∧ l = []) :
    Local s { s with core := k, derivs := l } := by
  refine ⟨fun n => ⟨rfl, rfl, rfl, rfl, rfl, rfl, fun m h => ?_, id, id, id, id, id, fun x y => ?_⟩, ?_⟩
  · simpa only [inboundFrames, hcount] using h
  · obtain ⟨hs, hc, hki, hd⟩ := x y
    exact ⟨hs, hc, hq x y hki hd⟩
  · simp only [trunkView, hplace]

/-- The core leaves a derivation. -/
theorem Local.underived (s : State) {d : Derivation} (h : s.core = .derives d) : Local s { s with core := .idle } :=
  .work s .idle s.derivs (by rw [h]; rfl) (by rw [h]; rfl) fun _ _ _ hd => ⟨rfl, hd⟩

/-! ### The pool -/

theorem Pool.take_heldInbound {p q : Pool} {h : Holder} (e : p.take h = some q) (hne : h ≠ .inbound) :
    q.heldInbound = p.heldInbound := by
  unfold Pool.take at e
  split at e
  · cases e; cases h <;> first | rfl | exact absurd rfl hne
  · cases e

theorem Pool.give_heldInbound (p : Pool) {h : Holder} (hne : h ≠ .inbound) :
    (p.give h).heldInbound = p.heldInbound := by
  unfold Pool.give
  split
  · cases h <;> first | rfl | exact absurd rfl hne
  · rfl

theorem Pool.give_inbound (p : Pool) : (p.give .inbound).heldInbound = p.heldInbound - 1 := by
  unfold Pool.give
  split
  · rfl
  · next h => simp only [Pool.held] at h; omega

theorem OutSrc.holder_ne_inbound (o : OutSrc) : o.holder ≠ .inbound := by cases o <;> decide

theorem Port.holder_ne_inbound (pt : Port) : pt.holder ≠ .inbound := by cases pt <;> decide

theorem Local.takeBuf {s t : State} {h : Holder} (e : s.takeBuf h = some t) (hne : h ≠ .inbound) : Local s t := by
  unfold State.takeBuf at e
  obtain ⟨q, hq, rfl⟩ := Option.map_eq_some_iff.1 e
  exact .of_view rfl rfl rfl (Pool.take_total _ _ _ hq) (Pool.take_heldInbound hq hne) id id id

theorem Local.giveBuf (s : State) {h : Holder} (hne : h ≠ .inbound) : Local s (s.giveBuf h) :=
  .of_view rfl rfl rfl (Pool.give_total _ _) (Pool.give_heldInbound _ hne) id id id

/-- The buffer of the INBOUND frame in hand returns. -/
theorem Evolves.giveInbound (n : Nat) (s : State) : Evolves (n + 1) n s (s.giveBuf .inbound) where
  mode := rfl
  uptime := rfl
  settings := rfl
  pending := rfl
  image := rfl
  pool := Pool.give_total _ _
  inbound k h := by
    show (s.pool.give .inbound).heldInbound = inboundFrames s + n + k
    rw [Pool.give_inbound]; omega
  deliveries := id
  exch := id
  waitList := id
  faults := id
  slots := id
  quiet := id

theorem trunkView_giveBuf (s : State) (h : Holder) : trunkView (s.giveBuf h) = trunkView s := rfl

/-! ### Attention, completions and the bus -/

theorem Local.latchChannel (s : State) (pt : Port) : Local s (s.latchChannel pt) := .modPort _ _ _ fun _ => rfl

theorem Local.latchFault (s : State) : Local s s.latchFault := .modPort _ _ _ fun _ => rfl

theorem Local.tellChannel (s : State) (c : ChanId) : Local s (s.tellChannel c) := Local.latchChannel s _

theorem Local.complete (s : State) (pt : Port) (c : Completion) (outstanding marked : Bool) :
    Local s (s.complete pt c outstanding marked) :=
  .modPort _ _ _ fun _ => by cases outstanding <;> cases marked <;> rfl

theorem Local.finish (s : State) (pt : Port) (tag : Byte) (kind : Nat) (data : List Byte) :
    Local s (s.finish pt tag kind data) := Local.complete s _ _ _ _

theorem Local.refuse (s : State) (pt : Port) (tag : Byte) (kind : Nat) (c : Cause) (data : List Byte) :
    Local s (s.refuse pt tag kind c data) := Local.complete s _ _ _ _

theorem Local.answer (s : State) (pt : Port) (bytes : List Byte) : Local s (s.answer pt bytes) :=
  .modPort _ _ _ fun _ => rfl

theorem Local.countDrop (s : State) (t : Trunk) (d : Drop) : Local s (s.countDrop t d) := .modTrunk _ _ _ rfl

/-! ### Faults and control messages -/

theorem Local.build? {s t : State} {k : Kind} {p : List Byte} (e : s.build? k p = some t) : Local s t := by
  unfold State.build? at e
  obtain ⟨u, hu, rfl⟩ := Option.map_eq_some_iff.1 e
  exact (Local.takeBuf hu (by decide)).trans (.modSrc _ _ _)

theorem Local.build (s : State) (k : Kind) (p : List Byte) : Local s (s.build k p) := by
  unfold State.build
  cases h : s.build? k p with
  | none => exact .refl s
  | some t => exact Local.build? h

theorem Local.buildReport (s : State) : Local s s.buildReport := by
  unfold State.buildReport
  split
  · exact .refl s
  next t h =>
    have hf : t.fault = s.fault := by obtain ⟨_, _, rfl, -⟩ := s.build?_step t _ _ h; rfl
    exact (Local.build? h).trans (.fault _ _ fun x => by simpa [hf, markReport_length] using x)

theorem Local.reportTest (s : State) (b : Bool) : Local s (s.reportTest b) := by
  unfold State.reportTest
  split
  · exact Local.buildReport s
  · exact .refl s

theorem Local.reportOutcome (s : State) (sent : Bool) : Local s (s.reportOutcome sent) := by
  unfold State.reportOutcome
  split
  · exact .refl s
  · refine .trans (.fault s _ fun x => ?_) (Local.reportTest _ false)
    cases sent
    · simpa using x
    · exact (List.length_filter_le _ _).trans (by simpa using x)

theorem Local.appendRecord (s : State) (r : FaultRec) : Local s (s.appendRecord r) := by
  unfold State.appendRecord
  dsimp only
  split
  · exact .fault s _ id
  next u h =>
    have hroom : s.fault.queue.length ≤ 32 → (u.queue ++ [r]).length ≤ 32 := by
      intro hq
      split at h
      · cases h; simp; omega
      · have := FaultUnit.makeRoom_length _ _ _ h; simp; omega
    have happend : Local s (State.latchFault { s with fault := { u with queue := u.queue ++ [r] } }) :=
      (Local.fault s _ hroom).trans (Local.latchFault _)
    split
    · exact happend.trans (Local.reportTest _ _)
    · exact happend

theorem FaultUnit.latched_queue (u : FaultUnit) (k : FaultKind) : (u.latched k).queue = u.queue := by
  unfold FaultUnit.latched
  split <;> rfl

theorem Local.raise (s : State) (k : FaultKind) (c : Option ChanId) (t : Option Trunk) (pt : Option Port) :
    Local s (s.raise k c t pt) := by
  have hlatch : Local s { s with fault := s.fault.latched k } :=
    .fault s _ fun x => by rwa [FaultUnit.latched_queue]
  unfold State.raise
  dsimp only
  split
  · exact hlatch
  · split
    · exact hlatch.trans (.fault _ _ fun x => by simpa [FaultUnit.coalesce] using x)
    · exact hlatch.trans (Local.appendRecord _ _)

theorem Local.outcome (s : State) (f : Frame) (res : Result) : Local s (s.outcome f res) := by
  have hgive := Local.giveBuf s (OutSrc.holder_ne_inbound f.src)
  unfold State.outcome
  dsimp only
  split
  · exact hgive.trans (Local.complete _ _ _ _ _)
  · split
    · exact hgive.trans (Local.reportOutcome _ _)
    · exact hgive

end Sys2Proof.Proofs

/-! The relations of the operations on key slots, requests, exchanges, cutovers, closes, trunks and consultations. -/

namespace Sys2Proof.Proofs
open Sys2Proof.Machine

/-! ### The law of one slot -/

theorem Slot.wiped_law : Slot.wiped.Law := by simp [Slot.Law, Slot.wiped]

theorem Slot.reserved_law (c : ChanId) : ({ Slot.wiped with state := .reserved, chan := some c } : Slot).Law := by
  simp [Slot.Law, Slot.wiped]

theorem Slot.keyedAs_staged_law (c : ChanId) (keys : BitVec 512) (epoch : Nat) :
    (Slot.keyedAs .staged c keys epoch).Law := by simp [Slot.Law, Slot.keyedAs]

theorem Slot.keyedAs_active_law (c : ChanId) (keys : BitVec 512) (epoch : Nat) :
    (Slot.keyedAs .active c keys epoch).Law := by simp [Slot.Law, Slot.keyedAs]

/-- A pending wipe is ordered only while the slot carries a job. -/
theorem Slot.wipePending_law {k : Slot} (hne : k.state ≠ .empty) (hfly : k.inFlight = true) (h : k.Law) :
    ({ k with wipePending := true } : Slot).Law := by
  obtain ⟨_, hchan, hkeyed, hsettle, hres⟩ := h
  refine ⟨fun e => absurd e hne, hchan, hkeyed, hsettle, fun e => ?_⟩
  obtain ⟨-, -, hno, -⟩ := hres e
  rw [hfly] at hno; cases hno

theorem Slot.released_law {k : Slot} (h : k.Law) : ({ k with inFlight := false } : Slot).Law := by
  obtain ⟨hempty, hchan, hkeyed, hsettle, hres⟩ := h
  refine ⟨fun e => ?_, hchan, hkeyed, hsettle, fun e => ?_⟩
  · have := hempty e; rw [this]; rfl
  · obtain ⟨h1, h2, -, h4⟩ := hres e; exact ⟨h1, h2, rfl, h4⟩

theorem Slot.inFlight_law {k : Slot} (hst : k.state.receives = true) (h : k.Law) :
    ({ k with inFlight := true } : Slot).Law := by
  obtain ⟨-, hchan, hkeyed, hsettle, -⟩ := h
  refine ⟨fun e => ?_, hchan, hkeyed, hsettle, fun e => ?_⟩
  all_goals simp only at e; rw [e] at hst; cases hst

theorem Slot.charged_law {k : Slot} (u : Nat) (hst : k.state = .active) (h : k.Law) : (k.charged u).Law := by
  obtain ⟨-, hchan, hkeyed, hsettle, -⟩ := h
  refine ⟨fun e => ?_, hchan, by simpa [Slot.charged] using hkeyed, hsettle, fun e => ?_⟩
  all_goals simp only [Slot.charged, hst] at e; cases e

theorem Slot.mapKeyed_law {k : Slot} (f : Keyed → Keyed) (h : k.Law) :
    ({ k with keyed := k.keyed.map f } : Slot).Law := by
  obtain ⟨hempty, hchan, hkeyed, hsettle, hres⟩ := h
  refine ⟨fun e => ?_, hchan, by simpa using hkeyed, hsettle, hres⟩
  have := hempty e; rw [this]; rfl

theorem Slot.aged_law {k : Slot} (h : k.Law) : k.aged.Law := Slot.mapKeyed_law _ h

theorem Slot.recorded_law {k : Slot} {y : Keyed} (z : Keyed) (hy : k.keyed = some y) (h : k.Law) :
    ({ k with keyed := some z } : Slot).Law := by
  have := Slot.mapKeyed_law (fun _ => z) h
  rwa [hy] at this

theorem Slot.settled_law {k : Slot} (n : Nat) (hst : k.state = .active) (h : k.Law) : (k.settled n).Law := by
  obtain ⟨-, hchan, hkeyed, -, -⟩ := h
  refine ⟨nofun, ?_, ?_, by simp [Slot.settled], nofun⟩
  · simpa [Slot.settled, hst] using hchan
  · simpa [Slot.settled, hst] using hkeyed

theorem Slot.activated_law {k : Slot} (hst : k.state = .staged) (h : k.Law) : k.activated.Law := by
  obtain ⟨-, hchan, hkeyed, hsettle, -⟩ := h
  refine ⟨nofun, ?_, ?_, ?_, nofun⟩
  · simpa [Slot.activated, hst] using hchan
  · simpa [Slot.activated, hst] using hkeyed
  · simpa [Slot.activated, hst] using hsettle

/-! ### Wipes -/

/-- What a wipe order makes of a slot (R36). -/
def wipeOrdered (k : Slot) : Slot :=
  if k.state = .empty then k else if k.inFlight then { k with wipePending := true } else .wiped

theorem slot_wipe (s : State) (i j : SlotId) :
    (s.wipe i).slot j = if j = i then wipeOrdered (s.slot i) else s.slot j := by
  have habandon (u : State) : (u.abandonInto i).slot j = u.slot j := rfl
  unfold State.wipe wipeOrdered
  dsimp only
  by_cases hempty : (s.slot i).state = .empty
  · rw [if_pos hempty, if_pos hempty]
    split
    case isTrue h => rw [h]
    case isFalse => rfl
  · rw [if_neg hempty, if_neg hempty]
    by_cases hfly : (s.slot i).inFlight = true
    · rw [if_pos hfly, if_pos hfly, State.slot_modSlot]
      split
      case isTrue h => rw [h]
      case isFalse => rfl
    · rw [if_neg hfly, if_neg hfly, habandon, State.slot_modSlot]

theorem Local.abandonInto (s : State) (i : SlotId) : Local s (s.abandonInto i) := by
  have hcore : (s.abandonInto i).core = s.core ∨ ∃ d, s.core = .derives d ∧ (s.abandonInto i).core = .idle := by
    unfold State.abandonInto
    cases s.core with
    | derives d => by_cases hd : d.into i = true <;> simp [hd]
    | _ => exact .inl rfl
  refine .work s _ _ ?_ ?_ fun _ _ hidle hd => ⟨?_, by rw [hd]; rfl⟩
  all_goals rcases hcore with h | ⟨d, hs, h⟩
  · exact congrArg _ h
  · show (s.abandonInto i).core.place = s.core.place
    rw [h, hs]; rfl
  · exact congrArg _ h
  · show (s.abandonInto i).core.inboundCount = s.core.inboundCount
    rw [h, hs]; rfl
  · exact h.trans hidle
  · exact h

theorem Local.wipe (s : State) (i : SlotId) : Local s (s.wipe i) := by
  unfold State.wipe
  dsimp only
  split
  case isTrue => exact .refl s
  case isFalse hne =>
    split
    case isTrue hfly => exact .modSlot s i _ (Slot.wipePending_law hne hfly) fun _ _ => id
    case isFalse => exact (Local.modSlot s i _ (fun _ => Slot.wiped_law) fun _ _ _ => rfl).trans (.abandonInto _ i)

theorem Local.wipeIf (p : State → SlotId → Prop) [∀ s i, Decidable (p s i)] (s : State) (i : SlotId) :
    Local s (if p s i then s.wipe i else s) := by
  split
  · exact .wipe s i
  · exact .refl s

theorem Local.wipeState (s : State) (c : ChanId) (st : SlotState) : Local s (s.wipeState c st) :=
  .foldl (fun t i => .wipeIf (fun t i => (t.slot i).state = st ∧ (t.slot i).chan = some c) t i) _ s

theorem Local.wipeChannel (s : State) (c : ChanId) : Local s (s.wipeChannel c) :=
  .foldl (fun t i => .wipeIf (fun t i => (t.slot i).chan = some c) t i) _ s

theorem Local.wipeAll (s : State) : Local s s.wipeAll := .foldl Local.wipe _ s

/-- Wiping the slots of one state leaves a slot in another state alone. -/
theorem slot_wipeState_of_ne {s : State} {c : ChanId} {st : SlotState} {j : SlotId} (h : (s.slot j).state ≠ st) :
    (s.wipeState c st).slot j = s.slot j := by
  unfold State.wipeState
  generalize allSlots = l
  induction l generalizing s with
  | nil => rfl
  | cons i l ih =>
    have hstep : (if (s.slot i).state = st ∧ (s.slot i).chan = some c then s.wipe i else s).slot j = s.slot j := by
      split
      case isTrue hi =>
        rw [slot_wipe, if_neg]
        rintro rfl; exact h hi.1
      case isFalse => rfl
    rw [List.foldl_cons, ih (by rw [hstep]; exact h), hstep]

theorem Local.reserve {s t : State} {c : ChanId} {i : SlotId} (e : s.reserve c = some (t, i)) :
    Local s t ∧ t.exch = s.exch ∧ t.mode = .running := by
  unfold State.reserve at e
  split at e
  case isTrue hrun =>
    obtain ⟨j, -, hj⟩ := Option.map_eq_some_iff.1 e
    cases hj
    refine ⟨.modSlot s _ _ (fun _ => Slot.reserved_law c) fun _ hq => ?_, rfl, hrun⟩
    rcases hq with hq | hq <;> rw [hrun] at hq <;> cases hq
  case isFalse => cases e

theorem Local.releaseSlot (s : State) (i : SlotId) : Local s (s.releaseSlot i) := by
  have hclear : Local s (s.modSlot i fun k => { k with inFlight := false }) :=
    .modSlot s i _ Slot.released_law fun _ _ => id
  unfold State.releaseSlot
  dsimp only
  split
  · exact hclear.trans (.wipe _ _)
  · exact hclear

/-! ### Requests and freezing -/

theorem Local.setRenewal (s : State) (c : ChanId) (r : Renewal) : Local s (s.setRenewal c r) :=
  .after (.tellChannel _ c) (.modChan_of_state s c _ fun _ => rfl)

theorem Local.unlist (s : State) (c : ChanId) : Local s (s.unlist c) :=
  .sched s _ fun h => (List.length_filter_le _ _).trans h

theorem Local.join (s : State) (c : ChanId) (r : Reason) (b : Bool) : Local s (s.join c r b).1 := by
  unfold State.join
  split
  case isTrue h =>
    refine .after (.after (.tellChannel _ c) (.modChan_of_state _ c _ fun _ => rfl)) (.sched s _ fun _ => ?_)
    simp only [placeEntry_length]; omega
  case isFalse => exact .refl s

theorem entryOf_filter_length_lt {s : State} {c : ChanId} {e : WaitEntry} (h : s.entryOf c = some e) :
    (s.sched.waitList.filter fun x => x.chan != c).length < s.sched.waitList.length := by
  refine List.length_filter_lt_length_iff_exists.2 ⟨e, List.mem_of_find?_eq_some h, ?_⟩
  have := List.find?_some h
  simp_all

theorem Local.relist (s : State) (c : ChanId) (r : Reason) : Local s (s.relist c r).1 := by
  unfold State.relist
  split
  · exact .refl s
  next e he =>
    split
    · refine .after (.tellChannel _ c) (.sched s { s.sched with waitList := _ } fun h => ?_)
      have := entryOf_filter_length_lt he
      simp only [State.unlist, placeEntry_length]
      omega
    · exact .refl s

theorem Local.request (s : State) (c : ChanId) (r : Reason) (p b : Bool) : Local s (s.request c r p b).1 := by
  unfold State.request
  dsimp only
  generalize (if (s.chan c).state = .openWait then Reason.openKey else r) = r
  split
  case h_1 | h_2 | h_3 => exact .refl s
  case h_4 => exact .relist s c _
  case h_5 => exact .join s c _ b
  case h_6 | h_7 =>
    split
    · exact .join s c _ b
    · exact .refl s

theorem Local.freeze (s : State) (c : ChanId) : Local s (s.freeze c) := by
  unfold State.freeze
  split
  case isTrue hlive =>
    refine .after (.after (.tellChannel _ c) (.raise _ _ _ _ _)) (.modChan s c _ fun _ _ hclosed => ?_)
    rw [hlive] at hclosed; cases hclosed
  case isFalse => exact .refl s

/-! ### Exchanges -/

theorem Local.modExch (s : State) (c : ChanId) (f : Exchange → Exchange) : Local s (s.modExch c f) :=
  .exch s _ fun h => by simpa using h

theorem Local.dropExch (s : State) (c : ChanId) : Local s (s.dropExch c) :=
  .exch s _ fun h => (List.length_filter_le _ _).trans h

theorem Local.buildAsk (s : State) (c : ChanId) (r : Reason) (n : Sixteen) : Local s (s.buildAsk c r n) := .build s _ _

theorem Local.buildDone (s : State) (c : ChanId) (epoch : Nat) (proof : Sixteen) : Local s (s.buildDone c epoch proof) :=
  .build s _ _

theorem Local.buildHello (s : State) : Local s s.buildHello := .build s _ _

/-- An exchange starts where the table has a place (R105, R107). -/
theorem Local.startExchange (s : State) (c : ChanId) (r : Reason) (i : SlotId) (h : s.exch.length < 4) :
    Local s (s.startExchange c r i) := by
  unfold State.startExchange
  dsimp only
  refine .after (.after (.buildAsk _ c r _) (.setRenewal _ c _)) ?_
  refine .after (.exch { s with draws := s.draws + 1 } _ fun _ => ?_) (.draws s _)
  simpa using h

theorem Local.keyStoreFull (s : State) (c : ChanId) : Local s (s.keyStoreFull c) := by
  unfold State.keyStoreFull
  split
  · exact .refl s
  · exact .after (.raise _ _ _ _ _) (.sched s _ id)

theorem Local.startOne (s : State) : Local s s.startOne.1 := by
  unfold State.startOne
  split
  · exact .refl s
  next e _ =>
    split
    case isTrue hroom =>
      split
      case h_1 => exact .keyStoreFull s _
      case h_2 t i he =>
        obtain ⟨ht, hexch, -⟩ := Local.reserve he
        exact .after (.startExchange _ _ _ _ (by simpa [State.unlist, hexch] using hroom)) (ht.trans (.unlist t _))
    case isFalse => exact .refl s

theorem Local.startTest (n : Nat) (s : State) : Local s (State.startTest n s) := by
  induction n generalizing s with
  | zero => exact .refl s
  | succ n ih =>
    have h := Local.startOne s
    unfold State.startTest
    split
    case h_1 t e => rw [e] at h; exact h.trans (ih t)
    case h_2 t e => rw [e] at h; exact h

theorem state_of_slotOf {s : State} {c : ChanId} {st : SlotState} {i : SlotId} (h : s.slotOf c st = some i) :
    (s.slot i).state = st ∧ (s.slot i).chan = some c := by
  have := List.find?_some h
  simpa using this

theorem state_of_stagedSlot {s : State} {c : ChanId} {i : SlotId} (h : s.stagedSlot c = some i) :
    (s.slot i).state = .staged ∧ (s.slot i).chan = some c ∧ (s.slot i).wipePending = false := by
  obtain ⟨hi, hp⟩ := Option.filter_eq_some_iff.1 h
  obtain ⟨hst, hch⟩ := state_of_slotOf hi
  exact ⟨hst, hch, by simpa using hp⟩

/-- The ACTIVE slot of a channel, if any, begins to settle (R28 item 2). -/
def settleActive (s : State) (c : ChanId) : State :=
  match s.slotOf c .active with
  | some old => s.modSlot old fun k => k.settled (s.uptime + s.settings.settle)
  | none => s

/-- What a cutover onto the slot `new` leaves before the report test (R28, R3). -/
def turnedOver (s : State) (c : ChanId) (new : SlotId) : State :=
  ((((settleActive (s.wipeState c .settling) c).modSlot new Slot.activated).modChan c fun ch => ch.cutOver new).tellChannel
    c).dropExch c

/-- A cutover (R28): refused without a STAGED slot; a channel 0 that leaves FROZEN makes the report test (R162). -/
theorem cutover_eq (s : State) (c : ChanId) :
    (s.stagedSlot c = none ∧ s.cutover c = s) ∨ ∃ new, s.stagedSlot c = some new
      ∧ s.cutover c = if (c = 0 && (s.chan c).state == .frozen) = true then (turnedOver s c new).reportTest false
        else turnedOver s c new := by
  unfold State.cutover
  cases h : s.stagedSlot c with
  | none => exact .inl ⟨rfl, rfl⟩
  | some new =>
    refine .inr ⟨new, rfl, ?_⟩
    unfold turnedOver settleActive
    cases hold : (s.wipeState c .settling).slotOf c .active <;> simp only [hold]

/-- The settling of the ACTIVE slot leaves every slot in another state alone. -/
theorem slot_settleActive_of_ne {s : State} {c : ChanId} {j : SlotId} (h : (s.slot j).state ≠ .active) :
    (settleActive s c).slot j = s.slot j := by
  unfold settleActive
  split
  next old hold =>
    obtain ⟨hact, -⟩ := state_of_slotOf hold
    rw [State.slot_modSlot, if_neg]
    rintro rfl; exact h hact
  next => rfl

theorem Local.settleActive (s : State) (c : ChanId) : Local s (settleActive s c) := by
  unfold Proofs.settleActive
  split
  next old hold =>
    obtain ⟨hact, -⟩ := state_of_slotOf hold
    exact .modSlot _ _ _ (Slot.settled_law _ hact) fun _ _ h => by rw [hact] at h; cases h
  next => exact .refl s

theorem cutOver_closed {ch : Chan} (i : SlotId) (h : ch.state = .closed) : (ch.cutOver i).state = .closed := by
  simp [Chan.cutOver, h]

theorem Local.turnedOver {s : State} {c : ChanId} {new : SlotId} (h : (s.slot new).state = .staged) :
    Local s (turnedOver s c new) := by
  have hwiped : ((s.wipeState c .settling).slot new).state = .staged := by
    rw [slot_wipeState_of_ne (by rw [h]; decide), h]
  have hstaged : ((Proofs.settleActive (s.wipeState c .settling) c).slot new).state = .staged := by
    rw [slot_settleActive_of_ne (by rw [hwiped]; decide), hwiped]
  refine .after (.after (.dropExch _ c) (.tellChannel _ c)) (.after (.modChan _ c _ fun _ _ hc => ?_) (.after (.modSlot _ _ _
    (Slot.activated_law hstaged) fun _ _ he => ?_) (.after (.settleActive _ c) (.wipeState s c _))))
  · exact cutOver_closed new hc
  · rw [hstaged] at he; cases he

theorem Local.cutover (s : State) (c : ChanId) : Local s (s.cutover c) := by
  rcases cutover_eq s c with ⟨-, e⟩ | ⟨new, hnew, e⟩
  · rw [e]; exact .refl s
  · obtain ⟨hst, -, -⟩ := state_of_stagedSlot hnew
    rw [e]
    split
    · exact .after (.reportTest _ _) (.turnedOver hst)
    · exact .turnedOver hst

theorem Local.takeWaiting (s : State) : Local s s.takeWaiting := by
  unfold State.takeWaiting
  split
  · exact .refl s
  · split
    · exact .refl s
    · exact .cutover s _

theorem Local.endExchange (s : State) (c : ChanId) : Local s (s.endExchange c) := by
  unfold State.endExchange
  split
  · exact .refl s
  · exact .after (.modChan_of_state _ c _ fun _ => rfl) (.after (.wipe _ _) (.dropExch s c))

/-! ### Consultations -/

theorem Local.testFrame (s : State) (f : Frame) : Local s (s.testFrame f).1 := by
  unfold State.testFrame
  split
  · exact .freeze s _
  · exact .refl s

theorem Local.testHeld (l : List Frame) (s : State) (b : Option Frame) : Local s (State.testHeld l s b).1 := by
  induction l generalizing s b with
  | nil => exact .refl s
  | cons f l ih =>
    have h := Local.testFrame s f
    unfold State.testHeld
    split
    all_goals
      next t e => rw [e] at h; exact h.trans (ih t _)

theorem Local.holdHead (s : State) (o : OutSrc) (f : Frame) : Local s (s.holdHead o f) := .modSrc s o _

theorem Local.scanFifo (o : OutSrc) (l : List Frame) (s : State) : Local s (State.scanFifo o l s).1 := by
  induction l generalizing s with
  | nil => exact .refl s
  | cons f l ih =>
    have h := Local.testFrame s f
    unfold State.scanFifo
    split
    · exact (Local.holdHead s o f).trans (ih _)
    · split
      case h_1 t e => rw [e] at h; exact h
      case h_2 t e => rw [e] at h; exact h.trans ((Local.holdHead t o f).trans (ih _))

theorem Local.consult (s : State) (o : OutSrc) : Local s (s.consult o).1 := by
  have h := Local.testHeld ((s.src o).firsts o) s none
  unfold State.consult
  split
  case h_1 t f e => rw [e] at h; exact h
  case h_2 t e => rw [e] at h; exact h.trans (.scanFifo o _ t)

theorem Local.offers (s : State) : Local s s.offers.1 := by
  have e : s.offers.1 = ((((s.consult .control).1.consult .p).1.consult .g).1.consult .m).1 := by rw [State.offers]
  rw [e]
  exact .after (.after (.after (.consult _ .m) (.consult _ .g)) (.consult _ .p)) (.consult s .control)

theorem Local.arbitrate (s : State) : Local s s.arbitrate.1 := by
  rw [s.arbitrate_fst]
  exact .offers s

theorem Local.rest (s : State) : Local s s.rest := by
  have h := Local.arbitrate s
  unfold State.rest
  split
  · split
    case h_1 t e => rw [e] at h; exact h.trans (.arb t _)
    case h_2 => exact .refl s
  · exact .refl s

/-! ### Writes of the trunks and of the core's job -/

theorem Evolves.modTrunk (n : Nat) (s : State) (t : Trunk) (f : TrunkRec → TrunkRec) :
    Evolves n n s (s.modTrunk t f) := by
  cases t <;> exact ⟨rfl, rfl, rfl, rfl, rfl, rfl, fun _ h => h, id, id, id, id, id, id⟩

/-- The core's job is written; an idle core stays idle, and the number of its INBOUND frames stays. -/
theorem Evolves.core (n : Nat) (s : State) (k : Core) (hcount : k.inboundCount = s.core.inboundCount)
    (hidle : s.core = .idle → k = .idle) : Evolves n n s { s with core := k } := by
  refine ⟨rfl, rfl, rfl, rfl, rfl, rfl, fun m h => ?_, id, id, id, id, id, fun x y => ?_⟩
  · simpa only [inboundFrames, hcount] using h
  · obtain ⟨hs, hc, hk, hd⟩ := x y
    exact ⟨hs, hc, hidle hk, hd⟩

theorem Evolves.active (n : Nat) (s : State) (a : Option Trunk) : Evolves n n s { s with active := a } :=
  ⟨rfl, rfl, rfl, rfl, rfl, rfl, fun _ h => h, id, id, id, id, id, id⟩

theorem Evolves.refreshActive (n : Nat) (s : State) : Evolves n n s s.refreshActive := by
  unfold State.refreshActive
  dsimp only
  split
  · exact (Evolves.active n s _).trans ((Local.raise _ _ _ _ _).evolves n)
  · exact .active n s _

theorem Evolves.enqueue (n : Nat) (s : State) (t : Trunk) (f : Frame) : Evolves n n s (s.enqueue t f) := .modTrunk n s t _

theorem Evolves.moveOrLose (n : Nat) (s : State) (f : Frame) : Evolves n n s (s.moveOrLose f) := by
  have hlose := (Local.outcome s f (.refused .linkLost)).evolves n
  unfold State.moveOrLose
  split
  · split
    · exact .enqueue n s _ f
    · exact hlose
  · exact hlose

theorem Local.cut (s : State) (t : Trunk) : Local s (s.cut t) := by
  rcases s.cut_cases t with ⟨-, h⟩ | ⟨-, h⟩
  · rw [h]; exact (Local.modTrunk s t _ rfl).trans (.draws _ _)
  · rw [h]; exact .refl s

theorem Core.unplaced_inboundCount (k : Core) (t : Trunk) : (k.unplaced t).inboundCount = k.inboundCount := by
  cases k <;> rfl

theorem Evolves.leaveUp (n : Nat) (s : State) (t : Trunk) : Evolves n n s (s.leaveUp t) := by
  unfold State.leaveUp
  dsimp only
  refine .trans (.trans (.trans (.trans ((Local.cut s t).evolves n) (.modTrunk n _ t _))
    (.core n _ _ (Core.unplaced_inboundCount _ _) fun h => ?_)) (.refreshActive n _)) (.foldl (.moveOrLose n) _ _)
  rw [h]; rfl

theorem Evolves.enterByCarrier (n : Nat) (s : State) (t : Trunk) : Evolves n n s (s.enterByCarrier t) := by
  unfold State.enterByCarrier
  exact .modTrunk n s t _

theorem Evolves.carrierRise (n : Nat) (s : State) (t : Trunk) : Evolves n n s (s.carrierRise t) := .modTrunk n s t _

theorem Evolves.carrierFall (n : Nat) (s : State) (t : Trunk) : Evolves n n s (s.carrierFall t) := by
  unfold State.carrierFall
  split
  · exact (Evolves.modTrunk n s t _).trans ((Local.raise _ _ _ _ _).evolves n)
  · exact ((Evolves.modTrunk n s t _).trans ((Local.raise _ _ _ _ _).evolves n)).trans (.leaveUp n _ t)
  · exact .refl n s

theorem Evolves.carrierEvent (n : Nat) (s : State) (t : Trunk) (b : Bool) : Evolves n n s (s.carrierEvent t b) := by
  unfold State.carrierEvent
  split
  · exact .refl n s
  · split
    · exact .carrierRise n s t
    · exact .carrierFall n s t

theorem Evolves.carrierEvents (n : Nat) (s before : State) : Evolves n n s (s.carrierEvents before) :=
  (Evolves.carrierEvent n s _ _).trans (.carrierEvent n _ _ _)

theorem Evolves.proven (n : Nat) (s : State) (t : Trunk) : Evolves n n s (s.proven t) :=
  (Evolves.modTrunk n s t _).trans (.refreshActive n _)

theorem Evolves.stallOut (n : Nat) (s : State) (t : Trunk) : Evolves n n s (s.stallOut t) :=
  (((Evolves.modTrunk n s t _).trans ((Local.raise _ _ _ _ _).evolves n)).trans (.enterByCarrier n _ t)).trans
    (.leaveUp n _ t)

theorem Evolves.applyEnable (n : Nat) (s : State) (t : Trunk) (enable : Bool) :
    Evolves n n s (s.applyEnable t enable) := by
  unfold State.applyEnable
  dsimp only
  split
  · exact .refl n s
  · split
    · exact (Evolves.modTrunk n s t _).trans (.enterByCarrier n _ t)
    · split
      · exact (Evolves.modTrunk n s t _).trans (.leaveUp n _ t)
      · exact .modTrunk n s t _

/-! ### Discards and closes -/

theorem Evolves.discard (n : Nat) (s : State) (pick : Frame → Bool) (res : Result) :
    Evolves n n s (s.discard pick res) := by
  unfold State.discard
  dsimp only
  refine .trans ?_ (.foldl (fun t f => (Local.outcome t f res).evolves n) _ _)
  exact ⟨rfl, rfl, rfl, rfl, rfl, rfl, fun _ h => h, id, id, id, id, id, id⟩

/-- Each of a list of INBOUND buffers returns. -/
theorem Evolves.giveInbounds {α : Type} (n : Nat) (l : List α) (s : State) :
    Evolves (n + l.length) n s (l.foldl (fun s _ => s.giveBuf .inbound) s) := by
  induction l generalizing s with
  | nil => exact .refl n s
  | cons a l ih => exact (Evolves.giveInbound (n + l.length) s).trans (ih _)

/-- Frames leave the inbound FIFO, their buffers in hand. -/
theorem Evolves.inFifo (n m : Nat) (s : State) (l : List InFrame) (h : s.inFifo.length = l.length + m) :
    Evolves n (n + m) s { s with inFifo := l } := by
  refine ⟨rfl, rfl, rfl, rfl, rfl, rfl, fun k e => ?_, id, id, id, id, id, id⟩
  simp only [inboundFrames, h] at e ⊢
  omega

theorem Local.dropInbound (s : State) (pick : ChanId → Bool) : Local s (s.dropInbound pick) := by
  refine ⟨fun n => (Evolves.inFifo n _ s _ ?_).trans (.giveInbounds n (s.inFifo.filter fun f => pick f.chan) _), ?_⟩
  · have := List.length_eq_length_filter_add (l := s.inFifo) fun f => pick f.chan
    omega
  · unfold State.dropInbound
    generalize s.inFifo.filter (fun f => pick f.chan) = l
    generalize hu : ({ s with inFifo := s.inFifo.filter fun f => !pick f.chan } : State) = u
    have : trunkView u = trunkView s := by rw [← hu]; rfl
    rw [← this]
    clear this hu
    induction l generalizing u with
    | nil => rfl
    | cons _ l ih => exact ih _

theorem Core.discarding_inboundCount (k : Core) (p : ChanId → Bool) : (k.discarding p).inboundCount = k.inboundCount := by
  cases k <;> rfl

theorem Core.discarding_place (k : Core) (p : ChanId → Bool) : (k.discarding p).place = k.place := by cases k <;> rfl

/-- The marks of a close on the core's job. -/
theorem Local.discarding (s : State) (p : ChanId → Bool) : Local s { s with core := s.core.discarding p } := by
  refine ⟨fun n => .core n s _ (Core.discarding_inboundCount _ _) fun h => by rw [h]; rfl, ?_⟩
  simp only [trunkView, Core.discarding_place]

/-- A close up to the discard of the channel's waiting frames. -/
theorem Local.closing (s : State) (c : ChanId) :
    Local s (((((s.modChan c Chan.shut).tellChannel c).unlist c).dropExch c).wipeChannel c) :=
  ((((Local.modChan s c _ fun _ _ _ => rfl).trans (.tellChannel _ c)).trans (.unlist _ c)).trans (.dropExch _ c)).trans
    (.wipeChannel _ c)

theorem Local.closeNote (s : State) (c : ChanId) (b : Bool) :
    Local s (if b = true then s.build .closeNote (closeNotePayload c.val) else s) := by
  split
  · exact .build s _ _
  · exact .refl s

theorem Evolves.close (n : Nat) (s : State) (c : ChanId) (note : Bool) : Evolves n n s (s.close c note) :=
  ((((Local.closing s c).trans (.discarding _ _)).evolves n).trans (.discard n _ _ _)).trans
    (((Local.dropInbound _ _).trans (.closeNote _ c _)).evolves n)

end Sys2Proof.Proofs

/-! What the trunks' operations keep of the trunk law, and the relation of the operations of every mode. -/

namespace Sys2Proof.Proofs
open Sys2Proof.Machine

/-! ### Operations that keep the trunk law -/

/-- An operation that leads from `s` to `t` with INBOUND buffers in hand as `Evolves` counts them, and keeps the trunk law. -/
structure Advances (a b : Nat) (s t : State) : Prop where
  evolves : Evolves a b s t
  trunkLaw : s.TrunkLaw → t.TrunkLaw

theorem Advances.trans {a b c : Nat} {s t u : State} (h : Advances a b s t) (k : Advances b c t u) : Advances a c s u :=
  ⟨h.evolves.trans k.evolves, fun x => k.trunkLaw (h.trunkLaw x)⟩

theorem Advances.after {a b c : Nat} {s t u : State} (k : Advances b c t u) (h : Advances a b s t) : Advances a c s u :=
  h.trans k

theorem Advances.refl (n : Nat) (s : State) : Advances n n s s := ⟨.refl n s, id⟩

theorem Local.advances {s t : State} (h : Local s t) {n : Nat} : Advances n n s t :=
  ⟨h.evolves n, trunkLaw_of_view h.trunks⟩

theorem Advances.foldl {α : Type} {n : Nat} {f : State → α → State} (h : ∀ s a, Advances n n s (f s a)) (l : List α)
    (s : State) : Advances n n s (l.foldl f s) := by
  induction l generalizing s with
  | nil => exact .refl n s
  | cons a l ih => exact (h s a).trans (ih _)

/-- An operation that the trunk law does not see. -/
theorem Advances.of_view {a b : Nat} {s t : State} (h : Evolves a b s t) (hv : trunkView t = trunkView s) :
    Advances a b s t := ⟨h, trunkLaw_of_view hv⟩

/-! ### The trunk law, trunk by trunk -/

theorem trunkLaw_iff (s : State) : s.TrunkLaw ↔ (∀ k, s.QueueLaw k) ∧ s.active = s.upTrunk :=
  ⟨fun ⟨h0, h1, ha⟩ => ⟨fun k => by cases k <;> assumption, ha⟩, fun ⟨h, ha⟩ => ⟨h .t0, h .t1, ha⟩⟩

theorem upTrunk_of_states {s t : State} (h : ∀ k, (t.trunk k).state = (s.trunk k).state) : t.upTrunk = s.upTrunk := by
  have h0 : t.t0.state = s.t0.state := h .t0
  have h1 : t.t1.state = s.t1.state := h .t1
  rw [State.upTrunk, State.upTrunk, h0, h1]

/-- The active trunk is UP. -/
theorem up_of_active {s : State} {a : Trunk} (h : s.TrunkLaw) (ha : s.active = some a) : (s.trunk a).state = .up := by
  have hact := ((trunkLaw_iff s).1 h).2
  rw [ha] at hact
  unfold State.upTrunk at hact
  split at hact
  case isTrue h0 => cases hact; exact h0
  case isFalse =>
    split at hact
    case isTrue h1 => cases hact; exact h1
    case isFalse => cases hact

/-- A trunk that is not OFF is enabled, and the part is in RUNNING. -/
theorem running_of_not_off {s : State} {k : Trunk} (h : s.QueueLaw k) (hk : (s.trunk k).state ≠ .off) :
    s.mode = .running ∧ (s.trunk k).enable = true := by
  obtain ⟨-, -, -, henable, hmode⟩ := h
  refine ⟨by_contra fun c => hk (hmode c), ?_⟩
  cases he : (s.trunk k).enable with
  | false => exact absurd (henable he) hk
  | true => rfl

/-- One trunk is written, with the core's place, the mode and the states' view of the active trunk as they were. -/
theorem trunkLaw_modTrunk {s : State} {k : Trunk} {f : TrunkRec → TrunkRec} (h : s.TrunkLaw)
    (hup : ((f (s.trunk k)).state = .up ↔ (s.trunk k).state = .up)) (hk : (s.modTrunk k f).QueueLaw k) :
    (s.modTrunk k f).TrunkLaw := by
  obtain ⟨hq, hact⟩ := (trunkLaw_iff s).1 h
  refine (trunkLaw_iff _).2 ⟨fun j => ?_, ?_⟩
  · by_cases hj : j = k
    · subst hj; exact hk
    · have := hq j
      simpa only [State.QueueLaw, State.trunk_modTrunk, if_neg hj, State.modTrunk_core, State.modTrunk_mode] using this
  · rw [State.modTrunk_active, hact]
    cases k
    · exact (if_congr hup rfl rfl).symm
    · exact (if_congr Iff.rfl rfl (if_congr hup rfl rfl)).symm

theorem trunkLaw_refreshActive {s : State} (h : ∀ k, s.QueueLaw k) : s.refreshActive.TrunkLaw := by
  have hset : ({ s with active := s.upTrunk } : State).TrunkLaw := ⟨h .t0, h .t1, rfl⟩
  unfold State.refreshActive
  dsimp only
  split
  · exact (Local.raise _ _ _ _ _).advances (n := 0) |>.trunkLaw hset
  · exact hset

theorem trunkLaw_enqueue {s : State} {a : Trunk} (f : Frame) (h : s.TrunkLaw) (hup : (s.trunk a).state = .up)
    (hfree : (s.trunk a).placeFree = true) : (s.enqueue a f).TrunkLaw := by
  refine trunkLaw_modTrunk h Iff.rfl ?_
  obtain ⟨-, -, hplace, henable, hmode⟩ := ((trunkLaw_iff s).1 h).1 a
  have hroom : (s.trunk a).queue.length + (s.trunk a).reserved < (s.trunk a).depth := by
    simpa [TrunkRec.placeFree] using hfree
  simp only [State.QueueLaw, State.trunk_modTrunk, if_true, State.modTrunk_core, State.modTrunk_mode, List.length_append,
    List.length_singleton]
  exact ⟨by omega, fun hno => absurd hup hno, hplace, henable, hmode⟩

theorem Advances.moveOrLose (n : Nat) (s : State) (f : Frame) : Advances n n s (s.moveOrLose f) := by
  refine ⟨.moveOrLose n s f, fun h => ?_⟩
  have hlose : (s.outcome f (.refused .linkLost)).TrunkLaw := (Local.outcome s f _).advances (n := n) |>.trunkLaw h
  unfold State.moveOrLose
  split
  next a ha =>
    split
    case isTrue hc => exact trunkLaw_enqueue f h (up_of_active h ha) hc.2
    case isFalse => exact hlose
  next => exact hlose

/-- A trunk that has just left UP: only its enable and the mode still matter, and the other trunk stands. -/
def HasLeftUp (s : State) (t : Trunk) : Prop :=
  s.QueueLaw t.other ∧ (s.trunk t).state ≠ .up ∧ ((s.trunk t).enable = false → (s.trunk t).state = .off)
    ∧ (s.mode ≠ .running → (s.trunk t).state = .off)

theorem hasLeftUp_of_view {s u : State} {t : Trunk} (hv : trunkView u = trunkView s) (h : HasLeftUp s t) :
    HasLeftUp u t := by
  simp only [trunkView, trunkGist, Prod.mk.injEq] at hv
  obtain ⟨⟨e0, s0, q0, r0, x0, d0⟩, ⟨e1, s1, q1, r1, x1, d1⟩, ha, hc, hm⟩ := hv
  cases t <;>
  · simp only [HasLeftUp, State.QueueLaw, Trunk.other, State.trunk, ← List.length_eq_zero_iff] at h ⊢
    rw [e0, s0, e1, s1, hm, hc]
    first | rw [q1, r1, x1, d1] | rw [q0, r0, x0, d0]
    exact h

theorem Core.unplaced_place (k : Core) (t : Trunk) :
    (k.unplaced t).place = if k.place = some t then none else k.place := by
  cases k <;> rfl

/-- The reservation and the queue of a trunk that has left UP are cleared. -/
theorem queueLaw_emptied {s : State} {t : Trunk} (h : HasLeftUp s t) (k : Trunk) :
    State.QueueLaw { s.modTrunk t TrunkRec.emptied with core := s.core.unplaced t } k := by
  obtain ⟨hother, hstate, henable, hmode⟩ := h
  by_cases hk : k = t
  · subst hk
    cases k <;>
    · simp only [State.QueueLaw, State.trunk, State.modTrunk, Core.unplaced_place, TrunkRec.emptied, List.length_nil] at *
      refine ⟨by omega, fun _ => ⟨trivial, trivial, trivial⟩, ?_, henable, hmode⟩
      split <;> simp_all
  · have : k = t.other := by cases k <;> cases t <;> first | rfl | exact absurd rfl hk
    subst this
    cases t <;>
    · simp only [State.QueueLaw, State.trunk, State.modTrunk, Core.unplaced_place, Trunk.other] at *
      obtain ⟨h1, h2, h3, h4, h5⟩ := hother
      refine ⟨h1, h2, ?_, h4, h5⟩
      rw [h3]
      cases s.core.place with
      | none => simp
      | some p => cases p <;> simp

theorem trunkLaw_leaveUp {s : State} {t : Trunk} (h : HasLeftUp s t) : (s.leaveUp t).TrunkLaw := by
  have hcut : HasLeftUp (s.cut t) t := hasLeftUp_of_view (Local.cut s t).trunks h
  have hcore : ((s.cut t).modTrunk t TrunkRec.emptied).core = (s.cut t).core := State.modTrunk_core _ _ _
  unfold State.leaveUp
  dsimp only
  rw [hcore]
  exact (Advances.foldl (Advances.moveOrLose 0) _ _).trunkLaw (trunkLaw_refreshActive (queueLaw_emptied hcut))

/-! ### Carrier, proving, stall and enable -/

/-- A trunk that enters PROVING or DOWN from UP, with other fields that the law does not need. -/
theorem hasLeftUp_modTrunk {s : State} {t : Trunk} {f : TrunkRec → TrunkRec} (h : s.QueueLaw t.other)
    (hstate : (f (s.trunk t)).state ≠ .up)
    (henable : (f (s.trunk t)).enable = false → (f (s.trunk t)).state = .off)
    (hmode : s.mode ≠ .running → (f (s.trunk t)).state = .off) : HasLeftUp (s.modTrunk t f) t := by
  have hne : t.other ≠ t := by cases t <;> decide
  refine ⟨?_, ?_, ?_, ?_⟩
  · simpa only [State.QueueLaw, State.trunk_modTrunk, if_neg hne, State.modTrunk_core, State.modTrunk_mode] using h
  all_goals rw [State.trunk_modTrunk, if_pos rfl]
  · exact hstate
  · exact henable
  · rwa [State.modTrunk_mode]

/-- A trunk that is not UP moves to another state that is not UP, where it may. -/
theorem trunkLaw_modTrunk_idle {s : State} {t : Trunk} {f : TrunkRec → TrunkRec} (h : s.TrunkLaw)
    (hno : (s.trunk t).state ≠ .up) (hstate : (f (s.trunk t)).state ≠ .up)
    (hsame : (f (s.trunk t)).queue = (s.trunk t).queue ∧ (f (s.trunk t)).reserved = (s.trunk t).reserved
      ∧ (f (s.trunk t)).transmitting = (s.trunk t).transmitting)
    (henable : (f (s.trunk t)).enable = false → (f (s.trunk t)).state = .off)
    (hmode : s.mode ≠ .running → (f (s.trunk t)).state = .off) : (s.modTrunk t f).TrunkLaw := by
  obtain ⟨hq, hr, hx⟩ := hsame
  refine trunkLaw_modTrunk h ⟨fun e => absurd e hstate, fun e => absurd e hno⟩ ?_
  obtain ⟨-, hout, hplace, -, -⟩ := ((trunkLaw_iff s).1 h).1 t
  obtain ⟨hq0, hr0, hx0⟩ := hout hno
  simp only [State.QueueLaw, State.trunk_modTrunk, if_true, State.modTrunk_core, State.modTrunk_mode, hq, hr, hx, hq0,
    hr0, hx0, List.length_nil]
  exact ⟨by omega, fun _ => ⟨trivial, trivial, trivial⟩, hr0.symm.trans hplace, henable, hmode⟩

/-- What entering by carrier makes of a trunk's record. -/
def byCarrier (present : Bool) (now : Nat) (r : TrunkRec) : TrunkRec :=
  if present then { r with state := .proving, proving := some (now + r.provingInterval) }
  else { r with state := .down, proving := none }

theorem enterByCarrier_eq (s : State) (t : Trunk) :
    s.enterByCarrier t = s.modTrunk t (byCarrier (s.carrier t) s.uptime) := rfl

theorem byCarrier_state (p : Bool) (now : Nat) (r : TrunkRec) :
    (byCarrier p now r).state ≠ .up ∧ (byCarrier p now r).enable = r.enable ∧ (byCarrier p now r).queue = r.queue
      ∧ (byCarrier p now r).reserved = r.reserved ∧ (byCarrier p now r).transmitting = r.transmitting := by
  cases p <;> simp [byCarrier]

/-- An enabled trunk that is not UP enters PROVING or DOWN in RUNNING. -/
theorem trunkLaw_enterByCarrier {s : State} {t : Trunk} (h : s.TrunkLaw) (hno : (s.trunk t).state ≠ .up)
    (henable : (s.trunk t).enable = true) (hrun : s.mode = .running) : (s.enterByCarrier t).TrunkLaw := by
  obtain ⟨hup, hen, hq, hr, hx⟩ := byCarrier_state (s.carrier t) s.uptime (s.trunk t)
  rw [enterByCarrier_eq]
  refine trunkLaw_modTrunk_idle h hno hup ⟨hq, hr, hx⟩ (fun e => ?_) fun e => absurd hrun e
  rw [hen, henable] at e; cases e

theorem Advances.carrierRise (n : Nat) (s : State) (t : Trunk) : Advances n n s (s.carrierRise t) := by
  refine ⟨.carrierRise n s t, fun h => ?_⟩
  by_cases hd : (s.trunk t).state = .down
  · obtain ⟨hrun, hen⟩ := running_of_not_off (((trunkLaw_iff s).1 h).1 t) (by rw [hd]; decide)
    refine trunkLaw_modTrunk_idle h (by rw [hd]; decide) ?_ ?_ ?_ fun e => absurd hrun e
    all_goals rw [if_pos hd]
    · nofun
    · exact ⟨rfl, rfl, rfl⟩
    · intro e; rw [hen] at e; cases e
  · have hsame : trunkView (s.carrierRise t) = trunkView s := by
      refine (Local.modTrunk s t _ ?_).trunks
      rw [if_neg hd]
    exact trunkLaw_of_view hsame h

theorem Advances.carrierFall (n : Nat) (s : State) (t : Trunk) : Advances n n s (s.carrierFall t) := by
  refine ⟨.carrierFall n s t, fun h => ?_⟩
  obtain ⟨hq, -⟩ := (trunkLaw_iff s).1 h
  unfold State.carrierFall
  split
  next hst =>
    obtain ⟨hrun, hen⟩ := running_of_not_off (hq t) (by rw [hst]; decide)
    refine (Local.raise _ _ _ _ _).advances (n := n) |>.trunkLaw (trunkLaw_modTrunk_idle h ?_ ?_ ⟨rfl, rfl, rfl⟩ ?_ ?_)
    · rw [hst]; decide
    · nofun
    · intro e; rw [show (s.trunk t).enable = false from e] at hen; cases hen
    · exact fun e => absurd hrun e
  next hst =>
    obtain ⟨hrun, hen⟩ := running_of_not_off (hq t) (by rw [hst]; decide)
    refine trunkLaw_leaveUp (hasLeftUp_of_view (Local.raise _ _ _ _ _).trunks (hasLeftUp_modTrunk (hq _) ?_ ?_ ?_))
    · nofun
    · intro e; rw [show (s.trunk t).enable = false from e] at hen; cases hen
    · exact fun e => absurd hrun e
  next => exact h

theorem Advances.carrierEvent (n : Nat) (s : State) (t : Trunk) (b : Bool) : Advances n n s (s.carrierEvent t b) := by
  unfold State.carrierEvent
  split
  · exact .refl n s
  · split
    · exact .carrierRise n s t
    · exact .carrierFall n s t

theorem Advances.carrierEvents (n : Nat) (s before : State) : Advances n n s (s.carrierEvents before) :=
  (Advances.carrierEvent n s _ _).trans (.carrierEvent n _ _ _)

theorem Advances.proven (n : Nat) {s : State} {t : Trunk} (hst : (s.trunk t).state = .proving) :
    Advances n n s (s.proven t) := by
  refine ⟨.proven n s t, fun h => trunkLaw_refreshActive fun k => ?_⟩
  obtain ⟨hq, -⟩ := (trunkLaw_iff s).1 h
  obtain ⟨hrun, hen⟩ := running_of_not_off (hq t) (by rw [hst]; decide)
  by_cases hk : k = t
  · subst hk
    obtain ⟨-, hout, hplace, -, -⟩ := hq k
    obtain ⟨hq0, hr0, hx0⟩ := hout (by rw [hst]; decide)
    simp only [State.QueueLaw, State.trunk_modTrunk, if_true, State.modTrunk_core, State.modTrunk_mode, hq0, hr0, hx0,
      List.length_nil]
    refine ⟨by omega, fun e => absurd rfl e, hr0.symm.trans hplace, fun e => ?_, fun e => absurd hrun e⟩
    rw [hen] at e; cases e
  · simpa only [State.QueueLaw, State.trunk_modTrunk, if_neg hk, State.modTrunk_core, State.modTrunk_mode] using hq k

theorem Advances.stallOut (n : Nat) {s : State} {t : Trunk} (hst : (s.trunk t).state = .up) :
    Advances n n s (s.stallOut t) := by
  refine ⟨.stallOut n s t, fun h => ?_⟩
  obtain ⟨hq, -⟩ := (trunkLaw_iff s).1 h
  obtain ⟨hrun, hen⟩ := running_of_not_off (hq t) (by rw [hst]; decide)
  unfold State.stallOut
  dsimp only
  generalize hu : s.modTrunk t (fun r => { r with transmitting := false, stall := none }) = u
  have hraise : ∀ v, v = u.raise .trunkStall none (some t) →
      v.mode = .running ∧ (v.trunk t).enable = true ∧ v.QueueLaw t.other := by
    intro v hv
    have hview := (Local.raise u .trunkStall none (some t) none).trunks
    rw [← hv] at hview
    have hne : t.other ≠ t := by cases t <;> decide
    have hother : u.QueueLaw t.other := by
      rw [← hu]
      simpa only [State.QueueLaw, State.trunk_modTrunk, if_neg hne, State.modTrunk_core, State.modTrunk_mode] using hq _
    have hget : trunkGist (u.trunk t) = (true, .up, (s.trunk t).queue.length, (s.trunk t).reserved, false,
        (s.trunk t).depth) := by
      rw [← hu]; simp [trunkGist, hen, hst]
    have hmode : u.mode = .running := by rw [← hu, State.modTrunk_mode, hrun]
    simp only [trunkView, trunkGist, Prod.mk.injEq] at hview hget
    obtain ⟨⟨e0, s0, q0, r0, x0, d0⟩, ⟨e1, s1, q1, r1, x1, d1⟩, ha, hc, hm⟩ := hview
    cases t <;>
    · simp only [State.QueueLaw, Trunk.other, State.trunk, ← List.length_eq_zero_iff] at hother hget ⊢
      rw [hm, hc]
      first | rw [e0, e1, s1, q1, r1, x1, d1] | rw [e1, e0, s0, q0, r0, x0, d0]
      exact ⟨hmode, hget.1, hother⟩
  obtain ⟨hvm, hve, hvo⟩ := hraise _ rfl
  obtain ⟨hup, hen', -⟩ := byCarrier_state ((u.raise .trunkStall none (some t)).carrier t)
    (u.raise .trunkStall none (some t)).uptime ((u.raise .trunkStall none (some t)).trunk t)
  rw [enterByCarrier_eq]
  refine trunkLaw_leaveUp (hasLeftUp_modTrunk hvo hup (fun e => ?_) fun e => absurd hvm e)
  rw [hen', hve] at e; cases e

theorem Advances.applyEnable (n : Nat) {s : State} (t : Trunk) (enable : Bool) (hrun : s.mode = .running) :
    Advances n n s (s.applyEnable t enable) := by
  refine ⟨.applyEnable n s t enable, fun h => ?_⟩
  obtain ⟨hq, -⟩ := (trunkLaw_iff s).1 h
  unfold State.applyEnable
  dsimp only
  split
  · exact h
  next hne =>
    split
    next hon =>
      have hdis : (s.trunk t).enable = false := by cases he : (s.trunk t).enable <;> simp_all
      obtain ⟨-, -, -, henable, -⟩ := hq t
      have hoff := henable hdis
      refine trunkLaw_enterByCarrier (trunkLaw_modTrunk_idle h ?_ ?_ ⟨rfl, rfl, rfl⟩ ?_ ?_) ?_ ?_ ?_
      · rw [hoff]; decide
      · show (s.trunk t).state ≠ .up; rw [hoff]; decide
      · intro e; cases e
      · exact fun e => absurd hrun e
      · rw [State.trunk_modTrunk, if_pos rfl]; show (s.trunk t).state ≠ .up; rw [hoff]; decide
      · rw [State.trunk_modTrunk, if_pos rfl]
      · rw [State.modTrunk_mode, hrun]
    next =>
      split
      next =>
        exact trunkLaw_leaveUp (hasLeftUp_modTrunk (hq _) nofun (fun _ => rfl) fun _ => rfl)
      next hup =>
        exact trunkLaw_modTrunk_idle h (by simpa using hup) nofun ⟨rfl, rfl, rfl⟩ (fun _ => rfl) fun _ => rfl

/-! ### Transmissions, discards and marks -/

/-- Both queues may lose frames while all else that the law reads stays. -/
theorem trunkLaw_of_shorter {s t : State} (h : s.TrunkLaw) (hact : t.active = s.active) (hmode : t.mode = s.mode)
    (hplace : t.core.place = s.core.place)
    (hk : ∀ k, (t.trunk k).enable = (s.trunk k).enable ∧ (t.trunk k).state = (s.trunk k).state
      ∧ (t.trunk k).reserved = (s.trunk k).reserved ∧ (t.trunk k).transmitting = (s.trunk k).transmitting
      ∧ (t.trunk k).depth = (s.trunk k).depth ∧ (t.trunk k).queue.length ≤ (s.trunk k).queue.length) : t.TrunkLaw := by
  obtain ⟨hq, ha⟩ := (trunkLaw_iff s).1 h
  refine (trunkLaw_iff t).2 ⟨fun k => ?_, ?_⟩
  · obtain ⟨he, hs, hr, hx, hd, hl⟩ := hk k
    obtain ⟨h1, h2, h3, h4, h5⟩ := hq k
    simp only [State.QueueLaw, he, hs, hr, hx, hd, hplace, hmode]
    refine ⟨by omega, fun e => ?_, h3, h4, h5⟩
    obtain ⟨hq0, hr0, hx0⟩ := h2 e
    rw [hq0] at hl
    exact ⟨List.length_eq_zero_iff.1 (by simpa using hl), hr0, hx0⟩
  · rw [hact, ha, upTrunk_of_states fun k => (hk k).2.1]

theorem TrunkRec.without_length_le (r : TrunkRec) (pick : Frame → Bool) :
    (r.without pick).queue.length ≤ r.queue.length := by
  simp only [TrunkRec.without, TrunkRec.loose]
  split
  · have := List.length_filter_le (fun f => !pick f) (r.queue.drop 1)
    simp only [List.length_append, List.length_take, List.length_drop] at this ⊢
    omega
  · simpa using List.length_filter_le (fun f => !pick f) r.queue

theorem Advances.discard (n : Nat) (s : State) (pick : Frame → Bool) (res : Result) :
    Advances n n s (s.discard pick res) := by
  refine ⟨.discard n s pick res, fun h => ?_⟩
  unfold State.discard
  dsimp only
  refine (Advances.foldl (n := n) (fun t f => (Local.outcome t f res).advances) _ _).trunkLaw
    (trunkLaw_of_shorter h rfl rfl rfl fun k => ?_)
  cases k <;> exact ⟨rfl, rfl, rfl, rfl, rfl, TrunkRec.without_length_le _ _⟩

theorem Advances.close (n : Nat) (s : State) (c : ChanId) (note : Bool) : Advances n n s (s.close c note) :=
  (((Local.closing s c).trans (.discarding _ _)).advances.trans (.discard n _ _ _)).trans
    ((Local.dropInbound _ _).trans (.closeNote _ c _)).advances

theorem Advances.begin (n : Nat) {s : State} {t : Trunk} (f : Frame) (hup : (s.trunk t).state = .up) :
    Advances n n s (s.modTrunk t fun r => r.begin f) := by
  refine ⟨.modTrunk n s t _, fun h => trunkLaw_modTrunk h Iff.rfl ?_⟩
  obtain ⟨h1, -, h3, h4, h5⟩ := ((trunkLaw_iff s).1 h).1 t
  simp only [State.QueueLaw, State.trunk_modTrunk, if_true, State.modTrunk_core, State.modTrunk_mode,
    TrunkRec.begin_queue, TrunkRec.begin_reserved, TrunkRec.begin_depth, TrunkRec.begin_state, TrunkRec.begin_enable]
  exact ⟨h1, fun e => absurd hup e, h3, h4, h5⟩

theorem Advances.finishTransmission (n : Nat) {s : State} {t : Trunk} {f : Frame} {rest : List Frame}
    (hq : (s.trunk t).queue = f :: rest) : Advances n n s (s.modTrunk t fun r => r.finish f rest) := by
  refine ⟨.modTrunk n s t _, fun h => trunkLaw_modTrunk h Iff.rfl ?_⟩
  obtain ⟨h1, h2, h3, h4, h5⟩ := ((trunkLaw_iff s).1 h).1 t
  rw [hq] at h1 h2
  simp only [State.QueueLaw, State.trunk_modTrunk, if_true, State.modTrunk_core, State.modTrunk_mode,
    TrunkRec.finish_queue, TrunkRec.finish_reserved, TrunkRec.finish_depth, TrunkRec.finish_state,
    TrunkRec.finish_enable, TrunkRec.finish_transmitting, List.length_cons] at h1 ⊢
  refine ⟨by omega, fun e => ?_, h3, h4, h5⟩
  obtain ⟨hnil, -⟩ := h2 e
  cases hnil

theorem Core.marking_facts (k : Core) (o : OutSrc) :
    (k.marking o).place = k.place ∧ (k.marking o).inboundCount = k.inboundCount ∧ (k = .idle → k.marking o = .idle) := by
  cases k <;> exact ⟨rfl, rfl, fun h => by cases h <;> rfl⟩

theorem Local.markAll (s : State) (pt : Port) : Local s (s.markAll pt) := by
  have hmark (u : State) (st : Store) (hst : st.image = u.store.image) :
      Local u { u with
        t0 := u.t0.marking pt.src, t1 := u.t1.marking pt.src, core := u.core.marking pt.src, store := st } := by
    obtain ⟨hplace, hcount, hidle⟩ := Core.marking_facts u.core pt.src
    have hcore : Local u { u with core := u.core.marking pt.src } :=
      ⟨fun n => .core n u _ hcount hidle, by simp only [trunkView, hplace]⟩
    refine hcore.trans (.of_same ?_ rfl rfl rfl rfl rfl rfl)
    simp only [lawView, trunkView, trunkGist, TrunkRec.marking, List.length_map, hst]
  unfold State.markAll
  exact .after (hmark _ _ (by split <;> rfl)) (.modSrc s pt.src fun r => r.marking pt.src)

end Sys2Proof.Proofs

/-! Every row but the start-ups, the entries into SAFE and LOCKDOWN, the writes of the image and the uptime step advances
the state with every law kept and mode, uptime, settings, image and queue unchanged. -/

namespace Sys2Proof.Proofs
open Sys2Proof.Machine

/-! ### Commands at a port -/

theorem State.onlyM_eq_none {s : State} {pt : Port} (h : s.onlyM pt = none) : pt = .m ∧ s.mode = .running := by
  unfold State.onlyM at h
  split at h
  · cases h
  next hpt =>
    split at h
    · cases h
    next hmode => exact ⟨by simpa using hpt, by simpa using hmode⟩

/-- A command advances the state when its decision does, once the port is not busy. -/
theorem Advances.command {n : Nat} {s : State} {pt : Port} {decide : State → State}
    (h : s.busy pt = false → Advances n n s (decide s)) : Advances n n s (s.command pt decide) := by
  unfold State.command
  split
  case isTrue => exact (Local.answer s pt _).advances
  case isFalse hb => exact (h (by simpa using hb)).trans (Local.answer _ pt _).advances

theorem Local.status (s : State) (pt : Port) (tag : Byte) (kind : Nat) (data : List Byte) :
    Local s (s.status pt tag kind data) := by
  unfold State.status
  split
  · exact .finish s _ _ _ _
  · exact .refuse s _ _ _ _ _

theorem Local.accept (s : State) (pt : Port) (tag : Byte) (c : ChanId) (loc : Nat) (payload : List Byte) :
    Local s (s.accept pt tag c loc payload) := by
  unfold State.accept
  exact .after (.modPort _ pt _ fun _ => by rfl) (.modSrc s _ _)

theorem Local.send (s : State) (pt : Port) (tag : Byte) (loc : Nat) (payload : List Byte) :
    Local s (s.send pt tag loc payload) := by
  unfold State.send
  split
  · exact .refuse s _ _ _ _ _
  · split
    · exact .refuse s _ _ _ _ _
    next t ht =>
      exact .after (.rest _) (.after (.accept _ _ _ _ _ _) (.takeBuf ht (Port.holder_ne_inbound pt)))

theorem Local.channelStatus (s : State) (pt : Port) (tag : Byte) (n : Nat) : Local s (s.channelStatus pt tag n) := by
  unfold State.channelStatus
  split
  · exact .refuse s _ _ _ _ _
  · split
    · exact .refuse s _ _ _ _ _
    · exact .finish s _ _ _ _

theorem Local.keyStoreStatus (s : State) (pt : Port) (tag : Byte) (n : Nat) : Local s (s.keyStoreStatus pt tag n) := by
  unfold State.keyStoreStatus
  split
  · exact .refuse s _ _ _ _ _
  · split
    · exact .finish s _ _ _ _
    · exact .refuse s _ _ _ _ _

theorem Local.trunkStatus (s : State) (pt : Port) (tag : Byte) (clear : Bool) : Local s (s.trunkStatus pt tag clear) := by
  have hclear : Local s { s with t0 := { s.t0 with counters := .zero }, t1 := { s.t1 with counters := .zero } } :=
    .of_same rfl rfl rfl rfl rfl rfl rfl
  unfold State.trunkStatus
  split
  · exact .refuse s _ _ _ _ _
  · cases clear
    · exact .finish s _ _ _ _
    · exact hclear.trans (.finish _ _ _ _ _)

theorem Local.portStatus (s : State) (pt : Port) (tag : Byte) (named : Port) (clear : Bool) :
    Local s (s.portStatus pt tag named clear) := by
  have hclear : Local s (s.modPort named fun r => { r with missed := 0 }) := .modPort s named _ fun _ => rfl
  unfold State.portStatus
  split
  · exact .refuse s _ _ _ _ _
  · cases clear
    · exact .finish s _ _ _ _
    · exact hclear.trans (.finish _ _ _ _ _)

theorem Local.open' (s : State) (pt : Port) (tag : Byte) (n : Nat) (f : LimitFields) :
    Local s (s.open' pt tag n f) := by
  unfold State.open'
  split
  · exact .refuse s _ _ _ _ _
  next c hc =>
    have hrun : s.mode = .running := by
      unfold State.openCheck at hc
      split at hc
      · cases hc
      next hm => exact (State.onlyM_eq_none hm).2
    refine .after (.finish _ _ _ _ _) (.after (.request _ c _ _ _) (.after (.tellChannel _ c) (.modChan s c _ fun _ hq => ?_)))
    rcases hq with hq | hq <;> rw [hrun] at hq <;> cases hq

theorem Advances.closeCommand (n : Nat) (s : State) (pt : Port) (tag : Byte) (k : Nat) :
    Advances n n s (s.closeCommand pt tag k) := by
  unfold State.closeCommand
  split
  · exact (Local.refuse s _ _ _ _ _).advances
  · exact (Advances.close n s _ true).trans (.after (Local.rest _).advances (Local.finish _ _ _ _ _).advances)

theorem Local.setLimits (s : State) (pt : Port) (tag : Byte) (n : Nat) (f : LimitFields) :
    Local s (s.setLimits pt tag n f) := by
  unfold State.setLimits
  split
  · exact .refuse s _ _ _ _ _
  · exact .after (.rest _) (.after (.finish _ _ _ _ _) (.modChan_of_state s _ _ fun _ => rfl))

theorem Local.renew (s : State) (pt : Port) (tag : Byte) (n : Nat) : Local s (s.renew pt tag n) := by
  unfold State.renew
  split
  · exact .refuse s _ _ _ _ _
  next c _ =>
    have h := Local.request s c .port false false
    split
    next e => rw [e] at h; exact h.trans (.refuse _ _ _ _ _ _)
    next e => rw [e] at h; exact h.trans (.finish _ _ _ _ _)

theorem Local.abortPending (s : State) (c : ChanId) : Local s (s.abortPending c) := by
  unfold State.abortPending
  dsimp only
  refine .after (.setRenewal _ c _) ?_
  split
  · exact .endExchange s c
  · exact .unlist s c
  · exact .modChan_of_state s c _ fun _ => rfl

theorem Advances.abort (n : Nat) (s : State) (pt : Port) (tag : Byte) (k : Nat) :
    Advances n n s (s.abort pt tag k) := by
  unfold State.abort
  split
  · exact (Local.refuse s _ _ _ _ _).advances
  next c _ =>
    refine .after (Local.rest _).advances (.after (Local.finish _ _ _ _ _).advances ?_)
    have hend := (Local.abortPending s c).advances (n := n)
    split
    · exact hend.trans (.close n _ c true)
    · exact hend

theorem Local.setAllocations (s : State) (pt : Port) (tag : Byte) (f : AllocFields) :
    Local s (s.setAllocations pt tag f) := by
  unfold State.setAllocations
  split
  · exact .refuse s _ _ _ _ _
  · dsimp only
    split
    · exact .after (.finish _ _ _ _ _) (.of_view rfl rfl rfl rfl rfl id id id)
    · exact .refuse s _ _ _ _ _

theorem Local.setShares (s : State) (pt : Port) (tag : Byte) (f : ShareFields) : Local s (s.setShares pt tag f) := by
  unfold State.setShares
  split
  · exact .refuse s _ _ _ _ _
  · dsimp only
    split
    · exact .after (.finish _ _ _ _ _) (.arb s _)
    · exact .refuse s _ _ _ _ _

theorem Advances.setTrunk (n : Nat) (s : State) (pt : Port) (tag : Byte) (t : Trunk) (enable : Bool) :
    Advances n n s (s.setTrunk pt tag t enable) := by
  unfold State.setTrunk
  split
  · exact (Local.refuse s _ _ _ _ _).advances
  next hm =>
    split
    · exact (Local.refuse s _ _ _ _ _).advances
    · exact (Advances.applyEnable n t enable (State.onlyM_eq_none hm).2).trans
        (.after (Local.rest _).advances (Local.finish _ _ _ _ _).advances)

theorem Local.clearLatches (s : State) (pt : Port) (tag : Byte) (kinds : List FaultKind) :
    Local s (s.clearLatches pt tag kinds) := by
  unfold State.clearLatches
  split
  · exact .refuse s _ _ _ _ _
  · exact .after (.finish _ _ _ _ _) (.fault s _ id)

theorem Local.setFaultMask (s : State) (pt : Port) (tag : Byte) (kinds : List FaultKind) :
    Local s (s.setFaultMask pt tag kinds) := by
  unfold State.setFaultMask
  split
  · exact .refuse s _ _ _ _ _
  · exact .after (.finish _ _ _ _ _) (.fault s _ id)

theorem takeOldest_length {drop : Bool} {q l : List FaultRec} {r : FaultRec} (h : takeOldest drop q = some (r, l)) :
    l.length ≤ q.length := by
  induction q generalizing r l with
  | nil => cases h
  | cons x q ih =>
    unfold takeOldest at h
    split at h
    · obtain ⟨⟨r', l'⟩, hx, he⟩ := Option.map_eq_some_iff.1 h
      cases he
      simpa using ih hx
    · dsimp only at h
      cases h
      split <;> simp

theorem Local.takeFault (s : State) (pt : Port) (tag : Byte) : Local s (s.takeFault pt tag) := by
  unfold State.takeFault
  split
  · exact .refuse s _ _ _ _ _
  · split
    · exact .finish s _ _ _ _
    next h => exact .after (.finish _ _ _ _ _) (.fault s _ (takeOldest_length h).trans)

theorem Local.setPort (s : State) (pt : Port) (tag : Byte) (named : Port) (su de at' : Option Bool) :
    Local s (s.setPort pt tag named su de at') := by
  unfold State.setPort
  split
  · exact .refuse s _ _ _ _ _
  · exact .after (.finish _ _ _ _ _) (.modPort s named _ fun _ => by rfl)

theorem Local.writeSettings (s : State) (pt : Port) (tag : Byte) (image : List Byte) :
    Local s (s.writeSettings pt tag image) := by
  unfold State.writeSettings
  split
  · exact .refuse s _ _ _ _ _
  · split
    · exact .refuse s _ _ _ _ _
    · exact .after (.modPort _ .m _ fun _ => by rfl) (.store s _ rfl)

/-! ### Read transactions and the reset input -/

/-- A write of a port's delivery queue: `n` deliveries' buffers in hand before, `m` after. -/
theorem Advances.modDeliveries {n m : Nat} {s : State} {pt : Port} {f : PortRec → PortRec}
    (hflow : (s.port pt).deliveries.length + n = (f (s.port pt)).deliveries.length + m)
    (hle : (s.port pt).deliveries.length ≤ 24 → (f (s.port pt)).deliveries.length ≤ 24) :
    Advances n m s (s.modPort pt f) := by
  refine .of_view ⟨?_, ?_, ?_, ?_, ?_, ?_, fun k h => ?_, fun x q => ?_, ?_, ?_, ?_, fun x i => ?_, fun x y => ?_⟩ ?_
  case refine_7 =>
    cases pt <;> simp only [inboundFrames, State.port, State.modPort] at hflow h ⊢ <;> omega
  case refine_8 =>
    rw [State.port_modPort]
    split
    case isTrue e => subst e; exact hle (x q)
    case isFalse => exact x q
  case refine_12 => rw [State.slot_modPort]; exact x i
  case refine_13 =>
    rw [State.modPort_mode] at y
    obtain ⟨hs, hc, hk, hd⟩ := x y
    refine ⟨fun i => ?_, fun c => ?_, ?_, ?_⟩
    · rw [State.slot_modPort]; exact hs i
    · rw [State.chan_modPort]; exact hc c
    · rw [State.modPort_core]; exact hk
    · rw [State.modPort_derivs]; exact hd
  case refine_14 => cases pt <;> rfl
  all_goals simp

theorem Advances.giveInbound (n : Nat) (s : State) : Advances (n + 1) n s (s.giveBuf .inbound) :=
  .of_view (.giveInbound n s) rfl

theorem Advances.giveInbounds (n m : Nat) (s : State) :
    Advances (n + m) n s (Nat.repeat (fun s : State => s.giveBuf .inbound) m s) := by
  induction m generalizing n with
  | zero => exact .refl n s
  | succ m ih => exact .after (.giveInbound n _) (by rw [Nat.add_succ, ← Nat.succ_add]; exact ih (n + 1))

theorem giveBuf_modPort (s : State) (h : Holder) (pt : Port) (f : PortRec → PortRec) :
    (s.giveBuf h).modPort pt f = (s.modPort pt f).giveBuf h := by cases pt <;> rfl

theorem giveBufs_modPort (s : State) (h : Holder) (pt : Port) (f : PortRec → PortRec) (m : Nat) :
    (Nat.repeat (fun s : State => s.giveBuf h) m s).modPort pt f
      = Nat.repeat (fun s : State => s.giveBuf h) m (s.modPort pt f) := by
  induction m with
  | zero => rfl
  | succ m ih => exact (giveBuf_modPort _ h pt f).trans (congrArg (fun s : State => s.giveBuf h) ih)

theorem Advances.portReset (s : State) (pt : Port) :
    Advances 0 0 s (((Nat.repeat (fun s : State => s.giveBuf .inbound) (s.port pt).deliveries.length s).modPort pt
      PortRec.atReset).markAll pt) := by
  refine .after (Local.markAll _ pt).advances ?_
  rw [giveBufs_modPort]
  refine .after (.giveInbounds 0 _ _) (.modDeliveries ?_ fun _ => Nat.zero_le _)
  simp [PortRec.atReset]

/-! ### Where a row leads -/

/-- A row goes on to a state that its state advances to. -/
def AdvancesTo (s : State) (o : Host.Outcome State Fault Refusal) : Prop := ∃ t, o = .next t ∧ Advances 0 0 s t

theorem AdvancesTo.next {s t : State} (h : Advances 0 0 s t) : AdvancesTo s (.next t) := ⟨t, rfl, h⟩

theorem AdvancesTo.stays (s : State) : AdvancesTo s (.next s) := .next (.refl 0 s)

/-- A row that acts under a guard, and changes nothing without it. -/
theorem AdvancesTo.guarded {s t : State} {p : Prop} [Decidable p] (h : p → Advances 0 0 s t) :
    AdvancesTo s (if p then .next t else .next s) := by
  split
  case isTrue hp => exact .next (h hp)
  case isFalse => exact .stays s

theorem AdvancesTo.command {s : State} {pt : Port} {decide : State → State} (h : Advances 0 0 s (decide s)) :
    AdvancesTo s (.next (s.command pt decide)) := .next (.command fun _ => h)

theorem AdvancesTo.readCompletion (s : State) (pt : Port) : AdvancesTo s (execReadCompletion pt s) := by
  unfold execReadCompletion
  split
  · exact .next (Local.after (.answer _ pt _) (.modPort s pt _ fun _ => by rfl)).advances
  · exact .next (Local.answer s pt _).advances

theorem AdvancesTo.readDelivery (s : State) (pt : Port) : AdvancesTo s (execReadDelivery pt s) := by
  unfold execReadDelivery
  split
  next d rest _ hd =>
    refine .next (.after (Local.answer _ pt _).advances (.after (.giveInbound 0 _) (.modDeliveries ?_ fun h => ?_)))
    · simp [hd]
    · rw [hd] at h; exact Nat.le_of_succ_le h
  · exact .next (Local.answer s pt _).advances

theorem AdvancesTo.readAttention (s : State) (pt : Port) (clear : Byte) :
    AdvancesTo s (execReadAttention pt clear s) := by
  unfold execReadAttention
  split
  · exact .next (Local.answer s pt _).advances
  · exact .next (Local.after (.answer _ pt _) (.modPort s pt _ fun _ => by rfl)).advances

/-! ### The turnover engine -/

theorem Local.protocol (s : State) (c : Option ChanId) : Local s (s.protocol c) := .raise s _ _ _ _

theorem Local.unfit (s : State) (k : Kind) (payload : List Byte) : Local s (s.unfit k payload) := .protocol s _

theorem Local.failExchange (s : State) (e : Exchange) : Local s (s.failExchange e) :=
  .after (.tellChannel _ _) (.after (.modChan_of_state _ _ _ fun _ => rfl) (.after (.endExchange _ _) (.raise s _ _ _ _)))

theorem Local.askingEnds (s : State) (e : Exchange) : Local s (s.askingEnds e) := by
  unfold State.askingEnds
  split
  · exact .modExch s _ _
  · exact .failExchange s e

theorem Local.askAgain (s : State) (e : Exchange) : Local s (s.askAgain e) :=
  .after (.modExch _ _ _) (.buildAsk s _ _ _)

theorem Local.confirmEnds (s : State) (c : ChanId) : Local s (s.confirmEnds c) := by
  unfold State.confirmEnds
  split
  · exact .modExch s _ _
  · exact .cutover s c

/-- The derivation of an exchange waits (R119): in SAFE and LOCKDOWN no slot is RESERVED for it. -/
theorem Local.takeGive (s : State) (c : ChanId) (e : Exchange) (epoch : Nat) (head : Sixteen) :
    Local s (s.takeGive c e epoch head) := by
  unfold State.takeGive
  split
  case isTrue hres =>
    refine .after (.work _ _ _ rfl rfl fun hlaw hmode => ?_) (.modExch s c _)
    obtain ⟨hslots, -⟩ := hlaw hmode
    have := (hslots e.slot).symm.trans hres.1
    cases this
  case isFalse => exact .protocol s _

theorem Local.turnGive (s : State) (c : ChanId) (epoch : Nat) (head : Sixteen) : Local s (s.turnGive c epoch head) := by
  unfold State.turnGive
  split
  · exact .protocol s _
  · dsimp only
    split
    · split
      · exact .buildDone s _ _ _
      · exact .protocol s _
    · split
      · exact .refl s
      · exact .protocol s _
    · split
      · exact .takeGive s c _ epoch head
      · exact .protocol s _

theorem Local.denied (s : State) (c : ChanId) : Local s (s.denied c) :=
  .after (.setRenewal _ c _) (.after (.raise _ _ _ _ _) (.endExchange s c))

theorem Local.turnRefuse (s : State) (c : ChanId) (busy : Bool) : Local s (s.turnRefuse c busy) := by
  unfold State.turnRefuse
  split
  · exact .protocol s _
  · split
    · split
      · exact .askingEnds s _
      · exact .denied s c
    · split
      · exact .refl s
      · exact .denied s c
    · exact .protocol s _

theorem Local.order (s : State) (l : List ChanId) : Local s (s.order l) := .foldl (fun t c => .request t c _ _ _) l s

theorem Local.turnOrder (s : State) (payload : List Byte) : Local s (s.turnOrder payload) := by
  unfold State.turnOrder
  dsimp only
  split
  · exact .order s _
  · split
    · split
      · exact .after (.protocol _ _) (.order s _)
      · exact .order s _
    · exact .protocol s _

/-- A HELLO_ACK makes a BOOTING channel 0 LIVE. -/
theorem Local.acknowledged {s : State} (h : (s.chan 0).state = .booting) : Local s s.acknowledged := by
  refine .after (.startTest 4 _) (.after (.request _ 0 _ _ _) (.after (.reportTest _ _) (.after (.tellChannel _ 0)
    (.after (.modChan _ 0 _ fun _ _ hc => ?_) (.boot s _)))))
  have := h.symm.trans hc
  cases this

theorem Local.helloAck {s : State} (payload : List Byte) (h : (s.chan 0).state = .booting) :
    Local s (s.helloAck payload) := by
  unfold State.helloAck
  split
  · exact .protocol s _
  · split
    · exact .acknowledged h
    · exact .protocol s _

theorem Local.forChan (s : State) (payload : List Byte) (len : Nat) {f : ChanId → State} (h : ∀ c, Local s (f c)) :
    Local s (s.forChan payload len f) := by
  unfold State.forChan
  split
  · exact .protocol s _
  · split
    · exact h _
    · exact .protocol s _

theorem Local.engine (s : State) (k : Kind) (payload : List Byte) : Local s (s.engine k payload) := by
  have hrefuse (c : ChanId) : Local s (if byteAt payload 1 = 1 then s.turnRefuse c true
      else if byteAt payload 1 = 2 then s.turnRefuse c false else s.protocol (some c)) := by
    split
    · exact .turnRefuse s c _
    · split
      · exact .turnRefuse s c _
      · exact .protocol s _
  unfold State.engine
  split
  next h => exact .helloAck payload h
  · exact .forChan s _ _ fun c => .turnGive s c _ _
  · exact .forChan s _ _ fun c => .turnGive s c _ _
  · exact .forChan s _ _ hrefuse
  · exact .forChan s _ _ hrefuse
  · exact .turnOrder s _
  · exact .turnOrder s _
  · exact .unfit s _ _

theorem Local.helloWaitEnds (s : State) : Local s s.helloWaitEnds := by
  unfold State.helloWaitEnds
  split
  · exact .boot s _
  · exact .after (.raise _ _ _ _ _) (.boot s _)

theorem Local.helloAgain (s : State) (phase : Phase) (deadline : Nat) : Local s (s.helloAgain phase deadline) :=
  .after (.buildHello _) (.boot s _)

/-! ### Derivations -/

theorem Local.staged {s : State} {c : ChanId} {i : SlotId} (epoch : Nat) (store head : Sixteen)
    (h : (s.slot i).state = .reserved) : Local s (s.staged c i epoch store head) := by
  refine .after (.buildDone _ _ _ _) (.after (.modExch _ _ _) (.after (.modChan_of_state _ c _ fun _ => rfl)
    (.modSlot s i _ (fun _ => Slot.keyedAs_staged_law _ _ _) fun _ _ he => ?_)))
  rw [h] at he; cases he

/-- A bootstrap derivation ends into a slot: in SAFE and LOCKDOWN the core runs none. -/
theorem Local.bootstrapSlot {s : State} {d : Derivation} (h : s.core = .derives d) (i : SlotId) (keys : BitVec 512)
    (l : Limits) : Local s ((State.modSlot { s with core := .idle } i fun _ => .keyedAs .active 0 keys 1).modChan 0
      fun ch => ch.booted l i) := by
  have hno (u : State) (hu : u.core = s.core) (hlaw : u.QuietLaw) (hmode : InQuietMode u) : False := by
    obtain ⟨-, -, hidle, -⟩ := hlaw hmode
    rw [hu, h] at hidle; cases hidle
  have hslot : Local s (s.modSlot i fun _ => .keyedAs .active 0 keys 1) :=
    .modSlot s i _ (fun _ => Slot.keyedAs_active_law _ _ _) fun hlaw hmode => (hno _ rfl hlaw hmode).elim
  exact (hslot.trans (.modChan _ 0 (fun ch => ch.booted l i) fun hlaw hmode => (hno (s.modSlot i _) rfl hlaw hmode).elim)).trans
    (.underived _ h)

theorem Local.bootstrapped {s : State} {d : Derivation} (i : SlotId) (count : Nat) (h : s.core = .derives d) :
    Local s (State.bootstrapped { s with core := .idle } i count) :=
  .after (.buildHello _) (.after (.boot _ _) (.after (.tellChannel _ 0) (.bootstrapSlot h i _ _)))

theorem AdvancesTo.derivationStart (s : State) : AdvancesTo s (execDerivationStart s) := by
  unfold execDerivationStart
  split
  next d rest hcore hderivs =>
    refine .guarded fun _ => (Local.work s _ _ ?_ ?_ fun _ _ _ hnil => ?_).advances
    · rw [hcore]; rfl
    · rw [hcore]; rfl
    · rw [hderivs] at hnil; cases hnil
  · exact .stays s

theorem AdvancesTo.turnoverDerivationEnd (s : State) : AdvancesTo s (execTurnoverDerivationEnd s) := by
  unfold execTurnoverDerivationEnd
  split
  next c i epoch store head hcore =>
    dsimp only
    split
    next hres => exact .next (Local.after (.rest _) (.after (.staged epoch store head hres.1) (.underived s hcore))).advances
    next => exact .next (Local.after (.rest _) (.underived s hcore)).advances
  · exact .stays s

theorem AdvancesTo.bootstrapDerivationEnd (s : State) : AdvancesTo s (execBootstrapDerivationEnd s) := by
  unfold execBootstrapDerivationEnd
  split
  next count hcore =>
    dsimp only
    split
    next i _ => exact .next (Local.after (.rest _) (.bootstrapped i count hcore)).advances
    next => exact .next (Local.after (.rest _) (.underived s hcore)).advances
  · exact .stays s

theorem AdvancesTo.askingDeadline (s : State) (c : ChanId) : AdvancesTo s (execAskingDeadline c s) := by
  unfold execAskingDeadline
  split
  · exact .guarded fun _ => (Local.askingEnds s _).advances
  · exact .stays s

theorem AdvancesTo.backingOffDeadline (s : State) (c : ChanId) : AdvancesTo s (execBackingOffDeadline c s) := by
  unfold execBackingOffDeadline
  split
  · exact .guarded fun _ => (Local.after (.rest _) (.askAgain s _)).advances
  · exact .stays s

theorem AdvancesTo.confirmingDeadline (s : State) (c : ChanId) : AdvancesTo s (execConfirmingDeadline c s) := by
  unfold execConfirmingDeadline
  split
  · exact .guarded fun _ => (Local.after (.rest _) (.confirmEnds s c)).advances
  · exact .stays s

/-! ### Cipher jobs -/

theorem slot_of_bindSlot {s : State} {f : Frame} {i : SlotId} {k : Keyed} (h : s.bindSlot f = some (i, k)) :
    (s.slot i).state = .active ∧ (s.slot i).chan = some f.chan ∧ (s.slot i).wipePending = false
      ∧ (s.slot i).keyed = some k ∧ k.wear + f.cost ≤ s.wearLimit f.chan f.kind := by
  obtain ⟨j, hj, hbind⟩ := Option.bind_eq_some_iff.1 h
  obtain ⟨hst, hch⟩ := state_of_slotOf hj
  split at hbind
  · cases hbind
  next hno =>
    obtain ⟨y, hy, he⟩ := Option.map_eq_some_iff.1 hbind
    obtain ⟨hk, hw⟩ := Option.filter_eq_some_iff.1 hy
    cases he
    exact ⟨hst, hch, by simpa using hno, hk, by simpa using hw⟩

theorem up_of_placeFor {s : State} {f : Frame} {t : Trunk} (h : s.placeFor f = some t) :
    (s.trunk t).state = .up ∧ (s.trunk t).placeFree = true := by
  have := (Option.filter_eq_some_iff.1 h).2
  simpa using this

/-- A place on an UP trunk goes from free to reserved, and the core, which held none, holds it (R140). -/
theorem trunkLaw_reserve {u v : State} {t : Trunk} (h : u.TrunkLaw) (hidle : u.core.place = none)
    (hup : (u.trunk t).state = .up) (hfree : (u.trunk t).placeFree = true) (hplace : v.core.place = some t)
    (hmode : v.mode = u.mode) (hactive : v.active = u.active)
    (htrunk : ∀ j, v.trunk j = if j = t then { u.trunk j with reserved := (u.trunk j).reserved + 1 } else u.trunk j) :
    v.TrunkLaw := by
  obtain ⟨hq, ha⟩ := (trunkLaw_iff u).1 h
  have hroom : (u.trunk t).queue.length + (u.trunk t).reserved < (u.trunk t).depth := by
    simpa [TrunkRec.placeFree] using hfree
  have hstate (j : Trunk) : (v.trunk j).state = (u.trunk j).state := by rw [htrunk]; split <;> rfl
  refine (trunkLaw_iff v).2 ⟨fun j => ?_, ?_⟩
  · obtain ⟨h1, h2, h3, h4, h5⟩ := hq j
    rw [hidle] at h3
    have hnone : (u.trunk j).reserved = 0 := h3
    rw [State.QueueLaw, hplace, hmode, htrunk]
    by_cases hj : j = t
    · subst hj
      rw [if_pos rfl, if_pos rfl]
      exact ⟨hroom, fun e => absurd hup e, by rw [hnone], h4, h5⟩
    · rw [if_neg hj, if_neg fun e => hj (Option.some.inj e).symm]
      exact ⟨h1, h2, hnone, h4, h5⟩
  · rw [hactive, ha, upTrunk_of_states hstate]

/-- A bound frame's job starts on an idle core: the core takes the place it reserves (R140). -/
theorem Advances.beginOut (n : Nat) {s : State} {f : Frame} {i : SlotId} {k : Keyed} {t : Trunk}
    (hidle : s.core = .idle) (hact : (s.slot i).state = .active) (hup : (s.trunk t).state = .up)
    (hfree : (s.trunk t).placeFree = true) : Advances n n s (s.beginOut f i k t) := by
  have hcharge : Local s (((s.modSrc f.src fun r => r.removeSub f.sub).modSlot i fun x => x.charged f.cost).modChan f.chan
      fun ch => ch.charged f.cost) := by
    refine .after (.modChan_of_state _ _ _ fun _ => rfl) (.after (.modSlot _ i _ (Slot.charged_law _ ?_)
      fun _ _ => id) (.modSrc s _ _))
    rw [State.slot_modSrc, hact]
  unfold State.beginOut
  dsimp only
  refine .after ?_ hcharge.advances
  have hu : ∀ u, u = ((s.modSrc f.src fun r => r.removeSub f.sub).modSlot i fun x => x.charged f.cost).modChan f.chan
      (fun ch => ch.charged f.cost) → u.core = .idle ∧ (u.slot i).state = .active ∧ u.trunk t = s.trunk t := by
    rintro u rfl
    refine ⟨by simpa using hidle, ?_, by simp⟩
    simp [Slot.charged, hact]
  obtain ⟨hcore, hslot, htrunk⟩ := hu _ rfl
  generalize ((s.modSrc f.src fun r => r.removeSub f.sub).modSlot i fun x => x.charged f.cost).modChan f.chan
    (fun ch => ch.charged f.cost) = u at hcore hslot htrunk ⊢
  rw [← htrunk] at hup hfree
  constructor
  · refine .trans (.modTrunk n u t fun r => { r with reserved := r.reserved + 1 }) ⟨rfl, rfl, rfl, rfl, rfl, rfl,
      fun m e => ?_, id, id, id, id, id, fun x y => ?_⟩
    · simpa [inboundFrames, hcore, Core.inboundCount] using e
    · obtain ⟨hs, -⟩ := x y
      have := hs i
      rw [State.slot_modTrunk, hslot] at this; cases this
  · intro h
    refine trunkLaw_reserve h (by rw [hcore]; rfl) hup hfree rfl (State.modTrunk_mode _ _ _) (State.modTrunk_active _ _ _)
      fun j => ?_
    exact State.trunk_modTrunk u t j _

theorem Local.bounce (s : State) (f : Frame) : Local s (s.bounce f) := by
  have hmove := (Local.modSrc s f.src fun r => r.removeSub f.sub).trans (.modSrc _ f.src fun r =>
    { r with holds := r.holds.set f.chan.val ({ f with held := some (f.held.getD s.uptime) } :: r.holds[f.chan.val]) })
  have huptime : (s.modSrc f.src fun r => r.removeSub f.sub).uptime = s.uptime := State.modSrc_uptime _ _ _
  unfold State.bounce
  dsimp only
  rw [huptime]
  split
  · exact hmove.trans (.freeze _ _)
  · exact hmove

theorem Advances.bindOut (n : Nat) {s : State} (f : Frame) (r : Option Requester) (hidle : s.core = .idle) :
    Advances n n s (s.bindOut f r) := by
  unfold State.bindOut
  split
  next i k t hbind hplace =>
    obtain ⟨hact, -⟩ := slot_of_bindSlot hbind
    obtain ⟨hup, hfree⟩ := up_of_placeFor hplace
    have hbegin : Advances n n s (s.beginOut f i k t) := .beginOut n hidle hact hup hfree
    dsimp only
    split
    · exact hbegin.trans (Local.arb _ _).advances
    · exact hbegin
  · exact (Local.bounce s f).advances

theorem core_of_coreFree {s : State} (h : s.coreFree = true) : s.core = .idle ∧ s.derivs = [] := by
  unfold State.coreFree at h
  simpa using h

/-- A consultation leaves the core and the inbound FIFO alone. -/
theorem core_of_consultStep {s t : State} (h : ConsultStep s t) : t.core = s.core ∧ t.inFifo = s.inFifo := by
  obtain ⟨_, _, _, _, _, _, _, _, _, _, _, _, rfl, -⟩ := h
  exact ⟨rfl, rfl⟩

theorem AdvancesTo.outboundJobStart (s : State) : AdvancesTo s (execOutboundJobStart s) := by
  have h := Local.arbitrate s
  have hkeep := core_of_consultStep s.arbitrate_step
  unfold execOutboundJobStart
  split
  next hfree =>
    obtain ⟨hidle, -⟩ := core_of_coreFree hfree
    split
    next t e => rw [e] at h; exact .next (h.trans (.arb t _)).advances
    next t f e =>
      rw [e] at h hkeep
      exact .next (.after (Local.rest _).advances (.after (.bindOut 0 f _ (hkeep.1.trans hidle)) h.advances))
    next t r f e =>
      rw [e] at h hkeep
      exact .next (.after (Local.rest _).advances (.after (.bindOut 0 f _ (hkeep.1.trans hidle)) h.advances))
    next => exact .stays s
  next => exact .stays s

theorem slot_of_matchSlot {s : State} {c : ChanId} {epoch : Nat} {i : SlotId} (h : s.matchSlot c epoch = some i) :
    (s.slot i).state.receives = true ∧ (s.slot i).chan = some c ∧ (s.slot i).wipePending = false
      ∧ (s.slot i).keyed.map (·.epoch) = some epoch := by
  have := List.find?_some h
  simpa [Slot.matches, and_assoc] using this

/-- The head of the inbound FIFO goes into an idle core, under a slot that is not EMPTY. -/
theorem Local.intoCore {s : State} {f : InFrame} {fs : List InFrame} {i : SlotId} (hidle : s.core = .idle)
    (hq : s.inFifo = f :: fs) (hne : (s.slot i).state ≠ .empty) :
    Local s { s with inFifo := fs, core := .inbound f i } := by
  refine ⟨fun n => ⟨rfl, rfl, rfl, rfl, rfl, rfl, fun m e => ?_, id, id, id, id, id, fun x y => ?_⟩, ?_⟩
  · simp only [inboundFrames, hidle, hq, List.length_cons, Core.inboundCount] at e ⊢
    omega
  · obtain ⟨hs, -⟩ := x y
    exact absurd (hs i) hne
  · simp only [trunkView, hidle]; rfl

/-- The head of the inbound FIFO goes to an idle core, or is dropped with its buffer. -/
theorem Local.beginIn {s : State} (hidle : s.core = .idle) : Local s s.beginIn := by
  unfold State.beginIn
  split
  · exact .refl s
  next f fs hq =>
    dsimp only
    split
    next i hi =>
      obtain ⟨hrec, -⟩ := slot_of_matchSlot hi
      have hget : State.slot { s with inFifo := fs } i = s.slot i := rfl
      rw [hget] at hrec
      have hfly : Local s (s.modSlot i fun k => { k with inFlight := true }) :=
        .modSlot s i _ (Slot.inFlight_law hrec) fun _ _ => id
      refine .after (.arb _ _) (.trans hfly (.intoCore (i := i) (f := f) hidle hq ?_))
      rw [State.slot_modSlot, if_pos rfl]
      intro e
      rw [show (s.slot i).state = .empty from e] at hrec; cases hrec
    next =>
      have hdrop (n : Nat) : Evolves n n s (State.giveBuf { s with inFifo := fs } .inbound) :=
        (Evolves.inFifo n 1 s fs (by rw [hq]; rfl)).trans (.giveInbound n _)
      exact .after (.countDrop _ _ _) ⟨hdrop, rfl⟩

theorem AdvancesTo.inboundJobStart (s : State) : AdvancesTo s (execInboundJobStart s) := by
  have h := Local.arbitrate s
  have hkeep := core_of_consultStep s.arbitrate_step
  unfold execInboundJobStart
  split
  next hfree =>
    obtain ⟨hidle, -⟩ := core_of_coreFree hfree
    split
    next t e => rw [e] at h; exact .next (h.trans (.arb t _)).advances
    next t e =>
      rw [e] at h hkeep
      exact .next (Local.after (.rest _) (.after (.beginIn (hkeep.1.trans hidle)) h)).advances
    next => exact .stays s
  next => exact .stays s

/-- The core leaves its outbound job: the place that the job held stands reserved until it is released. -/
theorem trunkLaw_released {s : State} {f : Frame} {place : Option Trunk} {d : Bool} (h : s.TrunkLaw)
    (hcore : s.core = .outbound f place d) :
    (State.release { s with core := .idle } place).TrunkLaw
      ∧ ∀ t, place = some t → ((State.release { s with core := .idle } place).trunk t).state = .up
          ∧ ((State.release { s with core := .idle } place).trunk t).placeFree = true := by
  obtain ⟨hq, ha⟩ := (trunkLaw_iff s).1 h
  have hpl : s.core.place = place := by rw [hcore]; rfl
  have hget (j : Trunk) : (State.release { s with core := .idle } place).trunk j
      = if place = some j then { s.trunk j with reserved := (s.trunk j).reserved - 1 } else s.trunk j := by
    cases place with
    | none => rfl
    | some t => cases t <;> cases j <;> rfl
  have hmode : (State.release { s with core := .idle } place).mode = s.mode := by
    cases place with
    | none => rfl
    | some t => cases t <;> rfl
  have hother : (State.release { s with core := .idle } place).core = .idle
      ∧ (State.release { s with core := .idle } place).active = s.active := by
    cases place with
    | none => exact ⟨rfl, rfl⟩
    | some t => cases t <;> exact ⟨rfl, rfl⟩
  obtain ⟨hidle, hactive⟩ := hother
  have hstate (j : Trunk) : ((State.release { s with core := .idle } place).trunk j).state = (s.trunk j).state := by
    rw [hget]; split <;> rfl
  refine ⟨(trunkLaw_iff _).2 ⟨fun j => ?_, ?_⟩, fun t ht => ?_⟩
  · obtain ⟨h1, h2, h3, h4, h5⟩ := hq j
    rw [hpl] at h3
    rw [State.QueueLaw, hidle, hmode, hget]
    by_cases hj : place = some j
    · rw [if_pos hj] at h3 ⊢
      refine ⟨by simp only; omega, fun e => ?_, by simp only [h3]; rfl, h4, h5⟩
      obtain ⟨-, hr, -⟩ := h2 e
      omega
    · rw [if_neg hj] at h3 ⊢
      exact ⟨h1, h2, h3, h4, h5⟩
  · exact (hactive.trans ha).trans (upTrunk_of_states hstate).symm
  · obtain ⟨h1, h2, h3, -, -⟩ := hq t
    rw [hpl, if_pos ht] at h3
    rw [hget, if_pos ht]
    refine ⟨by_contra fun e => ?_, ?_⟩
    · obtain ⟨-, hr, -⟩ := h2 e
      omega
    · simp only [TrunkRec.placeFree, decide_eq_true_eq]; omega

theorem Evolves.release (n : Nat) (s : State) (place : Option Trunk) : Evolves n n s (s.release place) := by
  unfold State.release
  split
  · exact .modTrunk n s _ _
  · exact .refl n s

/-- The end of an outbound job up to the release of its slot. -/
theorem Advances.placeOut (n : Nat) {s : State} {f g : Frame} {place : Option Trunk} {d : Bool}
    (hcore : s.core = .outbound f place d) : Advances n n s (State.placeOut { s with core := .idle } g place d) := by
  have hrel : Evolves n n s (State.release { s with core := .idle } place) :=
    .after (.release n _ place) (.core n s .idle (by rw [hcore]; rfl) fun _ => rfl)
  have hlaw (h : s.TrunkLaw) := trunkLaw_released h hcore
  have hleave : Advances n n s (State.release { s with core := .idle } place) := ⟨hrel, fun h => (hlaw h).1⟩
  unfold State.placeOut
  dsimp only
  split
  · exact hleave.trans (Local.outcome _ g _).advances
  · cases place with
    | some t =>
      refine ⟨hrel.trans (.enqueue n _ t g), fun h => ?_⟩
      obtain ⟨hlaw', hplace⟩ := hlaw h
      obtain ⟨hup, hfree⟩ := hplace t rfl
      exact trunkLaw_enqueue g hlaw' hup hfree
    | none => exact hleave.trans (.moveOrLose n _ g)

theorem AdvancesTo.outboundJobEnd (s : State) : AdvancesTo s (execOutboundJobEnd s) := by
  unfold execOutboundJobEnd
  split
  next f place d hcore =>
    split
    next b _ =>
      exact .next (.after (Local.rest _).advances (.after (Local.takeWaiting _).advances
        (.after (Local.releaseSlot _ _).advances (.placeOut 0 hcore))))
    next => exact .next (.after (Local.rest _).advances (.placeOut 0 hcore))
  · exact .stays s

theorem Local.tagFailure (s : State) (c : ChanId) : Local s (s.tagFailure c) := by
  unfold State.tagFailure
  dsimp only
  split
  · exact .after (.request _ c _ _ _) (.after (.raise _ _ _ _ _) (.modChan_of_state s c _ fun _ => rfl))
  · exact .modChan_of_state s c _ fun _ => rfl

theorem Local.endJob (s : State) (i : SlotId) : Local s (s.endJob i) := .after (.takeWaiting _) (.releaseSlot s i)

theorem Advances.overrun (n : Nat) (s : State) (pt : Port) (c : ChanId) : Advances (n + 1) n s (s.overrun pt c) :=
  .after (Local.raise _ _ _ _ _).advances (.giveInbound n s)

/-- A DATA frame is delivered with its buffer, or the buffer returns. -/
theorem Advances.deliver (n : Nat) (s : State) (c : ChanId) (payload : List Byte) :
    Advances (n + 1) n s (s.deliver c payload) := by
  unfold State.deliver
  split
  · exact .giveInbound n s
  next pt _ =>
    split
    · exact .after (.overrun n _ pt c) (Local.modPort s pt _ fun _ => by rfl).advances
    · split
      · exact .overrun n s pt c
      next hroom =>
        refine .modDeliveries ?_ fun _ => ?_
        · simp only [List.length_append, List.length_singleton]; omega
        · simp only [List.length_append, List.length_singleton]; omega

theorem Advances.handOff (n : Nat) (s : State) (f : InFrame) (payload : List Byte) :
    Advances (n + 1) n s (s.handOff f payload) := by
  unfold State.handOff
  split
  · exact .deliver n s _ payload
  · exact .after (Local.engine _ _ _).advances (.giveInbound n s)

theorem Advances.dropIn (n : Nat) (s : State) (f : InFrame) (d : Drop) : Advances (n + 1) n s (s.dropIn f d) :=
  .after (Local.countDrop _ _ _).advances (.giveInbound n s)

theorem Local.record {s : State} {i : SlotId} {k : Keyed} (hk : (s.slot i).keyed = some k) (y : Keyed) :
    Local s (s.modSlot i fun x => { x with keyed := some y }) :=
  .modSlot s i _ (Slot.recorded_law y hk) fun _ _ => id

theorem Advances.passed (n : Nat) {s : State} {i : SlotId} {k : Keyed} (f : InFrame) (hk : (s.slot i).keyed = some k) :
    Advances (n + 1) n s (s.passed f i k) := by
  unfold State.passed
  split
  · exact .after (Local.endJob _ i).advances (.dropIn n s f _)
  · exact .after (Local.endJob _ i).advances (.dropIn n s f _)
  · dsimp only
    refine .after (.handOff n _ f _) (.after (Local.endJob _ i).advances ?_)
    split
    · exact (Local.after (.cutover _ _) (.record hk _)).advances
    · exact (Local.record hk _).advances

theorem Advances.inEnds (n : Nat) (s : State) (f : InFrame) (i : SlotId) : Advances (n + 1) n s (s.inEnds f i) := by
  unfold State.inEnds
  split
  · split
    next hk => exact .passed n f hk
    next => exact .after (Local.endJob _ i).advances (.dropIn n s f _)
  · exact .after (Local.endJob _ i).advances (.after (Local.tagFailure _ _).advances (.dropIn n s f _))

theorem AdvancesTo.inboundJobEnd (s : State) : AdvancesTo s (execInboundJobEnd s) := by
  unfold execInboundJobEnd
  split
  next f i hcore =>
    have hleave : Advances 0 1 s { s with core := .idle } := by
      refine .of_view ⟨rfl, rfl, rfl, rfl, rfl, rfl, fun k e => ?_, id, id, id, id, id, fun x y => ?_⟩ ?_
      · simp only [inboundFrames, hcore, Core.inboundCount] at e ⊢; omega
      · obtain ⟨hs, hc, -, hd⟩ := x y
        exact ⟨hs, hc, rfl, hd⟩
      · simp only [trunkView, hcore]; rfl
    exact .next (.after (Local.rest _).advances (.after (.inEnds 0 _ f i) hleave))
  · exact .stays s

/-! ### The uptime step and the deadlines -/

theorem Local.triggers (s : State) (c : ChanId) : Local s (s.triggers c) := by
  unfold State.triggers
  dsimp only
  split
  · split
    · exact .request s c _ _ _
    · exact .refl s
  · split
    · exact .request s c _ _ _
    · exact .refl s
  · exact .refl s

/-- The age step of a channel's current slot (R95). -/
def agedCurrent (s : State) (c : ChanId) : State :=
  match (s.chan c).cur with
  | some i => s.modSlot i Slot.aged
  | none => s

theorem evaluate_eq (s : State) (c : ChanId) :
    s.evaluate c = if (s.chan c).state = .live ∨ (s.chan c).state = .frozen then
      (agedCurrent (s.modChan c Chan.sampled) c).triggers c else s := by
  cases hcur : ((s.modChan c Chan.sampled).chan c).cur <;> simp only [State.evaluate, agedCurrent, hcur]

theorem Local.agedCurrent (s : State) (c : ChanId) : Local s (agedCurrent s c) := by
  unfold Proofs.agedCurrent
  split
  · exact .modSlot s _ _ Slot.aged_law fun _ _ => id
  · exact .refl s

theorem Local.evaluate (s : State) (c : ChanId) : Local s (s.evaluate c) := by
  rw [evaluate_eq]
  split
  · exact .after (.triggers _ c) (.after (.agedCurrent _ c) (.modChan_of_state s c _ fun _ => rfl))
  · exact .refl s

theorem Local.retryOpen (s : State) (c : ChanId) : Local s (s.retryOpen c) := by
  unfold State.retryOpen
  split
  · exact .request s c _ _ _
  · exact .refl s

theorem Local.noteAhead (s : State) (c : ChanId) : Local s (s.noteAhead c) := by
  unfold State.noteAhead
  split
  · exact .sched s _ id
  · exact .refl s

theorem startExchange_exch (s : State) (c : ChanId) (r : Reason) (i : SlotId) :
    (s.startExchange c r i).exch.length = s.exch.length + 1 := by
  unfold State.startExchange
  dsimp only
  generalize hu : State.setRenewal { s with draws := s.draws + 1, exch := _ } c .exchanging = u
  have hexch : u.exch.length = s.exch.length + 1 := by
    rw [← hu]; simp [State.setRenewal, State.tellChannel, State.latchChannel]
  obtain ⟨_, _, _, _, e, -, -⟩ := u.build_step .turnAsk (turnAskPayload c.val (u.askEpoch c) r (Config.nonce s.draws))
  rw [State.buildAsk, e]
  exact hexch

theorem noteAhead_exch (s : State) (c : ChanId) : (s.noteAhead c).exch = s.exch := by
  unfold State.noteAhead
  split <;> rfl

/-- Ahead starts while the exchange table has a place for each. -/
theorem Local.aheadStarts (l : List ChanId) (n : Nat) (s : State) (h : n + s.exch.length ≤ 4) :
    Local s (State.aheadStarts l n s) := by
  induction l generalizing n s with
  | nil => exact .refl s
  | cons c l ih =>
    cases n with
    | zero => exact .refl s
    | succ n =>
      unfold State.aheadStarts
      split
      · split
        · exact .refl s
        next t i e =>
          obtain ⟨ht, hexch, -⟩ := Local.reserve e
          have hroom : t.exch.length < 4 := by rw [hexch]; omega
          refine .after (ih n _ ?_) (.after (.noteAhead _ c) (.after (.startExchange t c _ i hroom) ht))
          rw [noteAhead_exch, startExchange_exch, hexch]; omega
      · exact ih (n + 1) s h

theorem Local.aheadStep (s : State) : Local s s.aheadStep := by
  unfold State.aheadStep
  split
  next h =>
    obtain ⟨-, -, hroom, -⟩ := h
    exact .aheadStarts _ _ s (by omega)
  next => exact .refl s

theorem Local.everySecond (s : State) : Local s s.everySecond :=
  .after (.reportTest _ _) (.after (.aheadStep _) (.after (.startTest 4 _)
    (.after (.foldl Local.retryOpen _ _) (.foldl Local.evaluate _ s))))

theorem Local.expire (s : State) (f : Frame) : Local s (s.expire f) :=
  .after (.outcome _ f _) (.after (.raise _ _ _ _ _) (.modSrc s _ fun r => r.removeSub f.sub))

theorem AdvancesTo.holdExpiry (s : State) (o : OutSrc) (sub : Nat) : AdvancesTo s (execHoldExpiry o sub s) := by
  unfold execHoldExpiry
  split
  · exact .guarded fun _ => (Local.after (.rest _) (.expire s _)).advances
  · exact .stays s

theorem Local.settleEnds (s : State) (i : SlotId) : Local s (s.settleEnds i) := by
  unfold State.settleEnds
  dsimp only
  split
  · exact .after (.modChan_of_state _ _ _ fun _ => rfl) (.wipe s i)
  · exact .wipe s i

theorem Local.pauseEnds (s : State) (c : ChanId) : Local s (s.pauseEnds c) := by
  unfold State.pauseEnds
  dsimp only
  split
  · exact .request s c _ _ _
  · split
    · exact .request s c _ _ _
    · split
      · exact .after (.setRenewal _ c _) (.modChan_of_state s c _ fun _ => rfl)
      · exact .request s c _ _ _
      · exact .refl s

theorem Local.reportEnds (s : State) : Local s s.reportEnds := .after (.reportTest _ _) (.fault s _ id)

/-! ### The steps of the trunks -/

theorem Advances.carrierPin (s : State) (t : Trunk) (level : Bool) : Advances 0 0 s (s.carrierPin t level) :=
  .after (.carrierEvents 0 _ s) (Local.modLine s _ _).advances

theorem AdvancesTo.provingDeadline (s : State) (t : Trunk) : AdvancesTo s (execProvingDeadline t s) := by
  unfold execProvingDeadline
  split
  next hst _ => exact .guarded fun _ => .after (Local.rest _).advances (.proven 0 hst)
  · exact .stays s

theorem AdvancesTo.transmissionStart (s : State) (t : Trunk) : AdvancesTo s (execTransmissionStart t s) := by
  unfold execTransmissionStart
  split
  next hup _ _ => exact .next (.begin 0 _ hup)
  · exact .stays s

theorem AdvancesTo.transmissionEnd (s : State) (t : Trunk) : AdvancesTo s (execTransmissionEnd t s) := by
  unfold execTransmissionEnd
  split
  next hq _ _ =>
    exact .next (.after (Local.rest _).advances (.after (Local.outcome _ _ _).advances (.finishTransmission 0 hq)))
  · exact .stays s

/-- A received frame joins the inbound FIFO with the buffer it takes, or is counted. -/
theorem Local.receive (s : State) (t : Trunk) (bytes : List Byte) : Local s (s.receive t bytes) := by
  unfold State.receive
  split
  · exact .countDrop s t _
  next f _ =>
    split
    · exact .countDrop s t _
    · split
      · exact .after (.raise _ _ _ _ _) (.countDrop s t _)
      next u hu =>
        unfold State.takeBuf at hu
        obtain ⟨q, hq, rfl⟩ := Option.map_eq_some_iff.1 hu
        have hheld : q.heldInbound = s.pool.heldInbound + 1 := by
          unfold Pool.take at hq
          split at hq
          · cases hq; rfl
          · cases hq
        refine ⟨fun n => ⟨rfl, rfl, rfl, rfl, rfl, Pool.take_total _ _ _ hq, fun k e => ?_, id, id, id, id, id, id⟩, rfl⟩
        simp only [inboundFrames, List.length_append, List.length_singleton] at e ⊢
        omega

theorem AdvancesTo.frameReceived (s : State) (t : Trunk) (bytes : List Byte) :
    AdvancesTo s (execFrameReceived t bytes s) := by
  unfold execFrameReceived
  split
  · exact .stays s
  · exact .next (Local.receive s t bytes).advances

theorem AdvancesTo.partialFrameDiscarded (s : State) (t : Trunk) : AdvancesTo s (execPartialFrameDiscarded t s) := by
  unfold execPartialFrameDiscarded
  split
  · exact .stays s
  · exact .next (Local.countDrop s t _).advances

/-! ### Every row but those that move mode, settings, uptime or image -/

/-- The rows that may move the mode, the settings in use, the uptime or the stored image. -/
def movesLife : Instr → Bool
  | .powerOnReset | .deferredRestart | .restart .m _ | .zeroize .. | .setLine .. | .tamper _ | .selfCheckEnd _
  | .settingsWriteEnd | .countWriteEnd | .uptimeStep => true
  | _ => false

/-- Every other row, by the lemma of its decision or of its event. -/
theorem advancesTo_exec (c : Instr) (s : State) (h : movesLife c = false) : AdvancesTo s (exec c s) := by
  cases c
  case powerOnReset | deferredRestart | zeroize | setLine | tamper | selfCheckEnd | settingsWriteEnd | countWriteEnd
    | uptimeStep => cases h
  case restart pt tag =>
    refine .command ?_
    have hpt : pt ≠ .m := by rintro rfl; cases h
    rw [State.restart, if_pos hpt]
    exact (Local.refuse s _ _ _ _ _).advances
  case send => exact .command (Local.send s ..).advances
  case openChannel => exact .command (Local.open' s ..).advances
  case closeChannel => exact .command (.closeCommand 0 s ..)
  case setLimits => exact .command (Local.setLimits s ..).advances
  case renew => exact .command (Local.renew s ..).advances
  case abortRenewal => exact .command (.abort 0 s ..)
  case setAllocations => exact .command (Local.setAllocations s ..).advances
  case setShares => exact .command (Local.setShares s ..).advances
  case setTrunk => exact .command (.setTrunk 0 s ..)
  case clearLatches => exact .command (Local.clearLatches s ..).advances
  case setFaultMask => exact .command (Local.setFaultMask s ..).advances
  case takeFault => exact .command (Local.takeFault s ..).advances
  case setPort => exact .command (Local.setPort s ..).advances
  case writeSettings => exact .command (Local.writeSettings s ..).advances
  case undefinedCommand => exact .command (Local.refuse s ..).advances
  case channelStatus => exact .command (Local.channelStatus s ..).advances
  case keyStoreStatus => exact .command (Local.keyStoreStatus s ..).advances
  case trunkStatus => exact .command (Local.trunkStatus s ..).advances
  case portStatus => exact .command (Local.portStatus s ..).advances
  case poolStatus | arbiterStatus | waitListStatus | exchangeStatus | faultStatus | readLines | partStatus =>
    exact .command (Local.status s ..).advances
  case readCompletion => exact .readCompletion s _
  case readDelivery => exact .readDelivery s _
  case readAttention => exact .readAttention s _ _
  case undefinedTransaction => exact .next (Local.answer s _ _).advances
  case transactionCutShort => exact .stays s
  case portReset => exact .next (.portReset s _)
  case portResetRelease => exact .next (Local.modPort s _ _ fun _ => by rfl).advances
  case carrierRising => exact .next (.carrierPin s _ _)
  case carrierFalling => exact .next (.after (Local.rest _).advances (.carrierPin s _ _))
  case holdAsserted => exact .next (Local.after (.modTrunk _ _ _ rfl) (.cut s _)).advances
  case holdReleased => exact .next (Local.modTrunk s _ _ rfl).advances
  case frameReceived => exact .frameReceived s _ _
  case partialFrameDiscarded => exact .partialFrameDiscarded s _
  case holdExpiry => exact .holdExpiry s _ _
  case settleDeadline => exact .guarded fun _ => (Local.settleEnds s _).advances
  case pauseDeadline => exact .guarded fun _ => (Local.pauseEnds s _).advances
  case askingDeadline => exact .askingDeadline s _
  case backingOffDeadline => exact .backingOffDeadline s _
  case confirmingDeadline => exact .confirmingDeadline s _
  case helloWaitDeadline => exact .guarded fun _ => (Local.helloWaitEnds s).advances
  case helloBackoffDeadline => exact .guarded fun _ => (Local.after (.rest _) (.helloAgain s _ _)).advances
  case helloSlowDeadline => exact .guarded fun _ => (Local.after (.rest _) (.helloAgain s _ _)).advances
  case provingDeadline => exact .provingDeadline s _
  case reportDeadline => exact .guarded fun _ => (Local.after (.rest _) (.reportEnds s)).advances
  case stallLimitReached => exact .guarded fun h => .after (Local.rest _).advances (.stallOut 0 h.1)
  case outboundJobStart => exact .outboundJobStart s
  case inboundJobStart => exact .inboundJobStart s
  case outboundJobEnd => exact .outboundJobEnd s
  case inboundJobEnd => exact .inboundJobEnd s
  case derivationStart => exact .derivationStart s
  case turnoverDerivationEnd => exact .turnoverDerivationEnd s
  case bootstrapDerivationEnd => exact .bootstrapDerivationEnd s
  case waitingCutover => exact .next (Local.after (.rest _) (.takeWaiting s)).advances
  case transmissionStart => exact .transmissionStart s _
  case transmissionEnd => exact .transmissionEnd s _
  case exchangeStart => exact .next (Local.after (.rest _) (.startOne s)).advances

end Sys2Proof.Proofs

/-! The rows that may move the mode, the settings, the uptime or the image, and the laws over every row. -/

namespace Sys2Proof.Proofs
open Sys2Proof.Machine

/-! ### Keeping the six laws -/

/-- The queue stays, and each of the six laws is kept. -/
structure KeepsLaws (s t : State) : Prop where
  pending : t.pending = s.pending
  pool : s.PoolLaw → t.PoolLaw
  quiet : s.QuietLaw → t.QuietLaw
  bounds : s.BoundLaw → t.BoundLaw
  slots : s.SlotLaw → t.SlotLaw
  trunk : s.TrunkLaw → t.TrunkLaw
  inbound : s.InboundLaw → t.InboundLaw

theorem KeepsLaws.refl (s : State) : KeepsLaws s s := ⟨rfl, id, id, id, id, id, id⟩

theorem KeepsLaws.trans {s t u : State} (h : KeepsLaws s t) (k : KeepsLaws t u) : KeepsLaws s u :=
  ⟨k.pending.trans h.pending, fun x => k.pool (h.pool x), fun x => k.quiet (h.quiet x), fun x => k.bounds (h.bounds x),
    fun x => k.slots (h.slots x), fun x => k.trunk (h.trunk x), fun x => k.inbound (h.inbound x)⟩

theorem Evolves.bounds {a b : Nat} {s t : State} (h : Evolves a b s t) : s.BoundLaw → t.BoundLaw :=
  fun ⟨hx, hw, hq, hd, hu⟩ => ⟨h.exch hx, h.waitList hw, h.faults hq, h.deliveries hd, h.uptime ▸ hu⟩

theorem Advances.keepsLaws {s t : State} (h : Advances 0 0 s t) : KeepsLaws s t where
  pending := h.evolves.pending
  pool x := h.evolves.pool.trans x
  quiet := h.evolves.quiet
  bounds := h.evolves.bounds
  slots := h.evolves.slots
  trunk := h.trunkLaw
  inbound x := h.evolves.inbound 0 x

/-- The part may have entered the mode `m`; settings, uptime and image are as they were. -/
structure Lapses (m : Mode) (s t : State) : Prop where
  mode : t.mode = s.mode ∨ t.mode = m
  uptime : t.uptime = s.uptime
  settings : t.settings = s.settings
  image : t.store.image = s.store.image
  laws : KeepsLaws s t

theorem Lapses.trans {m : Mode} {s t u : State} (h : Lapses m s t) (k : Lapses m t u) : Lapses m s u := by
  refine ⟨?_, k.uptime.trans h.uptime, k.settings.trans h.settings, k.image.trans h.image, h.laws.trans k.laws⟩
  rcases k.mode with e | e
  · rcases h.mode with e' | e'
    · exact .inl (e.trans e')
    · exact .inr (e.trans e')
  · exact .inr e

theorem Advances.lapses {m : Mode} {s t : State} (h : Advances 0 0 s t) : Lapses m s t :=
  ⟨.inl h.evolves.mode, h.evolves.uptime, h.evolves.settings, h.evolves.image, h.keepsLaws⟩

/-! ### An emptied part -/

/-- No buffer, frame, delivery, exchange, entry or key is held, and both trunks are OFF. -/
structure Emptied (t : State) : Prop where
  pool : t.pool.free + t.pool.totalHeld = 128 ∧ t.pool.heldInbound = 0
  frames : t.inFifo = [] ∧ t.core.inboundCount = 0
  deliveries : ∀ pt, (t.port pt).deliveries = []
  exch : t.exch = []
  waitList : t.sched.waitList = []
  slots : ∀ i, t.slot i = .wiped
  trunks : ∀ k, (t.trunk k).state = .off ∧ (t.trunk k).queue = [] ∧ (t.trunk k).reserved = 0
    ∧ (t.trunk k).transmitting = false
  unplaced : t.active = none ∧ t.core.place = none
  quiet : InQuietMode t → (∀ c, (t.chan c).state = .closed) ∧ t.core = .idle ∧ t.derivs = []

theorem Emptied.keepsLaws {s t : State} (h : Emptied t) (hp : t.pending = s.pending)
    (hb : s.BoundLaw → t.fault.queue.length ≤ 32 ∧ t.uptime ≤ max32) : KeepsLaws s t where
  pending := hp
  pool _ := h.pool.1
  quiet _ hm := ⟨fun i => by rw [h.slots i]; rfl, h.quiet hm⟩
  bounds x := by
    obtain ⟨hq, hu⟩ := hb x
    refine ⟨by rw [h.exch]; exact Nat.zero_le _, by rw [h.waitList]; exact Nat.zero_le _, hq, fun pt => ?_, hu⟩
    rw [h.deliveries]; exact Nat.zero_le _
  slots _ i := by rw [h.slots i]; exact Slot.wiped_law
  trunk _ := by
    refine (trunkLaw_iff t).2 ⟨fun k => ?_, ?_⟩
    · obtain ⟨hs, hq, hr, hx⟩ := h.trunks k
      rw [State.QueueLaw, hs, hq, hr, hx, h.unplaced.2]
      exact ⟨Nat.zero_le _, fun _ => ⟨rfl, rfl, rfl⟩, rfl, fun _ => rfl, fun _ => rfl⟩
    · have h0 : t.t0.state = .off := (h.trunks .t0).1
      have h1 : t.t1.state = .off := (h.trunks .t1).1
      rw [h.unplaced.1, State.upTrunk, h0, h1]; rfl
  inbound _ := by
    have hg : t.portG.deliveries = [] := h.deliveries .g
    have hpp : t.portP.deliveries = [] := h.deliveries .p
    have hm : t.portM.deliveries = [] := h.deliveries .m
    rw [State.InboundLaw, h.pool.2, h.frames.1, h.frames.2, hg, hpp, hm]; rfl

theorem FaultUnit.abandon_length (u : FaultUnit) : u.abandon.queue.length = u.queue.length := by
  simp [FaultUnit.abandon]

/-! ### Entry into SAFE, tamper -/

/-- The attention and the cuts that come before a general close. -/
theorem Local.beforeQuiesce (s : State) : Local s ((s.tellClosing.cut .t0).cut .t1) := by
  refine .after (.cut _ _) (.after (.cut _ _) (.foldl (fun t c => ?_) _ s))
  split
  · exact .refl t
  · exact .tellChannel t c

theorem State.chan_map (s : State) (f : Chan → Chan) (c : ChanId) :
    State.chan { s with chans := s.chans.map f } c = f (s.chan c) := by simp [State.chan]

theorem emptied_enterSafe (s : State) : Emptied s.enterSafe where
  pool := ⟨rfl, rfl⟩
  frames := ⟨rfl, rfl⟩
  deliveries pt := by cases pt <;> rfl
  exch := rfl
  waitList := rfl
  slots i := by simp [State.slot, State.enterSafe, State.quiesce]
  trunks k := by cases k <;> exact ⟨rfl, rfl, rfl, rfl⟩
  unplaced := ⟨rfl, rfl⟩
  quiet _ := ⟨fun c => by simp [State.chan, State.enterSafe, State.quiesce, Chan.shut], rfl, rfl⟩

/-- What entry into SAFE keeps of the state before it. -/
theorem enterSafe_frame (s : State) : s.enterSafe.mode = .safe ∧ s.enterSafe.uptime = s.uptime
    ∧ s.enterSafe.settings = s.settings ∧ s.enterSafe.store.image = s.store.image ∧ s.enterSafe.pending = s.pending
    ∧ (s.fault.queue.length ≤ 32 → s.enterSafe.fault.queue.length ≤ 32) := by
  have h := (Local.beforeQuiesce s).evolves 0
  unfold State.enterSafe State.quiesce
  dsimp only
  rw [FaultUnit.abandon_length]
  exact ⟨rfl, h.uptime, h.settings, h.image, h.pending, h.faults⟩

theorem Lapses.enterSafe (s : State) : Lapses .safe s s.enterSafe := by
  obtain ⟨hmode, huptime, hsettings, himage, hpending, hfaults⟩ := enterSafe_frame s
  refine ⟨.inr hmode, huptime, hsettings, himage, (emptied_enterSafe s).keepsLaws hpending fun x => ?_⟩
  obtain ⟨-, -, hq, -, hu⟩ := x
  exact ⟨hfaults hq, huptime.trans_le hu⟩

/-- The tamper sequence before its raise. -/
def tampered (s : State) : State :=
  let s := (s.allFrames.foldl State.refuseFrame s).quiesce.linesIn
  { s with
    portG := s.portG.noDeliveries, portP := s.portP.noDeliveries, portM := s.portM.noDeliveries
    store := { s.store with restartWaits := false }
    mode := .lockdown }

theorem tamperNow_eq (s : State) :
    s.tamperNow = if s.mode = .lockdown then s.raise .tamper else (tampered s).raise .tamper := rfl

theorem emptied_tampered (s : State) : Emptied (tampered s) where
  pool := ⟨rfl, rfl⟩
  frames := ⟨rfl, rfl⟩
  deliveries pt := by cases pt <;> rfl
  exch := rfl
  waitList := rfl
  slots i := by simp [State.slot, tampered, State.linesIn, State.quiesce]
  trunks k := by cases k <;> exact ⟨rfl, rfl, rfl, rfl⟩
  unplaced := ⟨rfl, rfl⟩
  quiet _ := ⟨fun c => by simp [State.chan, tampered, State.linesIn, State.quiesce, Chan.shut], rfl, rfl⟩

theorem Local.refuseFrame (s : State) (f : Frame) : Local s (s.refuseFrame f) := by
  unfold State.refuseFrame
  split
  · exact .complete s _ _ _ _
  · exact .refl s

/-- What the tamper sequence keeps of the state before it. -/
theorem tampered_frame (s : State) : (tampered s).mode = .lockdown ∧ (tampered s).uptime = s.uptime
    ∧ (tampered s).settings = s.settings ∧ (tampered s).store.image = s.store.image ∧ (tampered s).pending = s.pending
    ∧ (s.fault.queue.length ≤ 32 → (tampered s).fault.queue.length ≤ 32) := by
  have h := ((Local.foldl Local.refuseFrame s.allFrames s).trans (Local.beforeQuiesce _)).evolves 0
  unfold tampered State.linesIn State.quiesce
  dsimp only
  rw [FaultUnit.abandon_length]
  exact ⟨rfl, h.uptime, h.settings, h.image, h.pending, h.faults⟩

theorem Lapses.tampered (s : State) : Lapses .lockdown s (tampered s) := by
  obtain ⟨hmode, huptime, hsettings, himage, hpending, hfaults⟩ := tampered_frame s
  refine ⟨.inr hmode, huptime, hsettings, himage, (emptied_tampered s).keepsLaws hpending fun x => ?_⟩
  obtain ⟨-, -, hq, -, hu⟩ := x
  exact ⟨hfaults hq, huptime.trans_le hu⟩

theorem Lapses.tamperNow (s : State) : Lapses .lockdown s s.tamperNow := by
  rw [tamperNow_eq]
  split
  · exact (Local.raise s _ _ _ _).advances.lapses
  · exact (Lapses.tampered s).trans (Local.raise _ _ _ _ _).advances.lapses

/-! ### Bootstrap request, ends of writes, ZEROIZE -/

theorem Lapses.beginBootstrap {s : State} (hrun : s.mode = .running) : Lapses .safe s s.beginBootstrap := by
  rcases s.beginBootstrap_cases with ⟨-, e⟩ | ⟨-, -, e⟩ | ⟨-, -, e⟩
  · rw [e]; exact (Local.store s { s.store with bootWaits := true } rfl).advances.lapses
  · rw [e]; exact .trans (Local.raise s _ _ _ _).advances.lapses (.enterSafe _)
  · rw [e]
    have hstore := Local.store s { s.store with
      write := some (.count (imageCount s.store.image + 1)), bootWaits := false } rfl
    refine (hstore.trans (.work _ s.core (s.derivs ++ [.bootstrap (imageCount s.store.image + 1)]) rfl rfl
      fun _ hq => ?_)).advances.lapses
    rcases hq with hq | hq <;> rw [show s.mode = _ from hq] at hrun <;> cases hrun

theorem Lapses.afterWrite (s : State) : Lapses .safe s s.afterWrite := by
  unfold State.afterWrite
  split
  next h => exact .beginBootstrap h.2.2
  next => exact (Local.refl s).advances.lapses

theorem Advances.closeOpen (n : Nat) (s : State) (c : ChanId) (note : Bool) : Advances n n s (s.closeOpen c note) := by
  unfold State.closeOpen
  split
  · exact .refl n s
  · exact .close n s c note

/-- The work, the lists and the bootstrap record are dropped; a cipher job goes on. -/
theorem Local.forgotten (s : State) :
    Local s { s with core := s.core.undriven, derivs := [], sched := .fresh, exch := [], boot := .fresh } := by
  have hcore : s.core.undriven.place = s.core.place ∧ s.core.undriven.inboundCount = s.core.inboundCount := by
    cases s.core <;> exact ⟨rfl, rfl⟩
  have hwork : Local s { s with core := s.core.undriven, derivs := [] } :=
    .work s _ _ hcore.1 hcore.2 fun _ _ h _ => ⟨by rw [h]; rfl, rfl⟩
  exact hwork.trans (.of_view rfl rfl rfl rfl rfl (fun _ => Nat.zero_le _) (fun _ => Nat.zero_le _) id)

/-- ZEROIZE up to its bootstrap request. -/
def zeroized (s : State) : State :=
  let s := s.closeOpen 0 false
  let s := allChans.foldl (fun s c => s.closeOpen c false) s
  let s := s.discard (fun _ => true) (.refused .closedWhileQueued)
  let s := s.wipeAll
  let s := { s with core := s.core.undriven, derivs := [], sched := .fresh, exch := [], boot := .fresh }
  (s.dropInbound fun _ => true).resetLines

theorem zeroizeNow_eq (s : State) : s.zeroizeNow = (zeroized s).beginBootstrap := rfl

theorem Advances.zeroized (s : State) : Advances 0 0 s (zeroized s) := by
  refine .after (.carrierEvents 0 _ _) (.after (Local.lines _ _).advances (.after (Local.dropInbound _ _).advances
    (.after (Local.forgotten _).advances (.after (Local.wipeAll _).advances (.after (.discard 0 _ _ _)
    (.after (.foldl (fun t c => .closeOpen 0 t c false) _ _) (.closeOpen 0 s 0 false)))))))

theorem Lapses.zeroizeNow {s : State} (hrun : s.mode = .running) : Lapses .safe s s.zeroizeNow := by
  have h := Advances.zeroized s
  rw [zeroizeNow_eq]
  exact .trans h.lapses (.beginBootstrap (h.evolves.mode.trans hrun))

theorem Lapses.zeroize (s : State) (pt : Port) (tag : Byte) : Lapses .safe s (s.zeroize pt tag) := by
  unfold State.zeroize
  split
  · exact (Local.refuse s _ _ _ _ _).advances.lapses
  next h => exact .trans (.zeroizeNow (State.onlyM_eq_none h).2) (Local.finish _ _ _ _ _).advances.lapses

theorem Lapses.command {m : Mode} {s : State} {pt : Port} {decide : State → State} (h : Lapses m s (decide s)) :
    Lapses m s (s.command pt decide) := by
  unfold State.command
  split
  · exact (Local.answer s pt _).advances.lapses
  · exact h.trans (Local.answer _ pt _).advances.lapses

theorem Lapses.writeLine (s : State) (i : Fin 8) (dirOut latch fn : Option Bool) :
    Lapses .lockdown s (s.writeLine i dirOut latch fn) := by
  have hline := (Local.modLine s i fun l => l.written dirOut latch fn).advances (n := 0)
  unfold State.writeLine
  dsimp only
  split
  · exact hline.lapses.trans (.tamperNow _)
  · exact (hline.trans (.carrierEvents 0 _ s)).lapses

theorem Lapses.setLine (s : State) (pt : Port) (tag : Byte) (n : Nat) (dirOut latch fn : Option Bool) :
    Lapses .lockdown s (s.setLine pt tag n dirOut latch fn) := by
  unfold State.setLine
  split
  · exact (Local.refuse s _ _ _ _ _).advances.lapses
  · exact .trans (.writeLine s _ _ _ _) (Local.after (.rest _) (.finish _ _ _ _ _)).advances.lapses

theorem Lapses.tamper (s : State) (held : Bool) : ∃ t, execTamper held s = .next t ∧ Lapses .lockdown s t := by
  have hline := (Local.modLine s 2 fun l => { l with ext := held }).advances (n := 0)
  unfold execTamper
  dsimp only
  split
  · exact ⟨_, rfl, hline.lapses.trans (.tamperNow _)⟩
  · exact ⟨_, rfl, hline.lapses⟩

/-! ### The ends of the two writes -/

/-- A write of the store alone; the image may change. -/
theorem KeepsLaws.store (s : State) (x : Store) : KeepsLaws s { s with store := x } := ⟨rfl, id, id, id, id, id, id⟩

/-- What a row leaves whose only write outside the six laws may be that of the image. -/
structure Writes (s t : State) : Prop where
  mode : t.mode = s.mode ∨ (t.mode = .safe ∧ s.mode = .running)
  uptime : t.uptime = s.uptime
  settings : t.settings = s.settings
  laws : KeepsLaws s t

theorem afterWrite_mode (s : State) : s.afterWrite.mode = s.mode ∨ (s.afterWrite.mode = .safe ∧ s.mode = .running) := by
  unfold State.afterWrite
  split
  next h =>
    rcases (Lapses.beginBootstrap h.2.2).mode with e | e
    · exact .inl e
    · exact .inr ⟨e, h.2.2⟩
  next => exact .inl rfl

/-- The image is written, and what waited for the end of the write follows (R184, R41). -/
theorem Writes.ended {s u : State} {x : Store} (h : Local { s with store := x } u) : Writes s u.afterWrite := by
  have hu := h.evolves 0
  have hw := Lapses.afterWrite u
  refine ⟨?_, hw.uptime.trans hu.uptime, hw.settings.trans hu.settings,
    (KeepsLaws.store s x).trans (h.advances.keepsLaws.trans hw.laws)⟩
  have hmode : u.mode = s.mode := hu.mode
  rw [← hmode]
  exact afterWrite_mode u

theorem Writes.refl (s : State) : Writes s s := ⟨.inl rfl, rfl, rfl, .refl s⟩

theorem writes_settingsWriteEnd (s : State) : ∃ t, execSettingsWriteEnd s = .next t ∧ Writes s t := by
  unfold execSettingsWriteEnd
  split
  · exact ⟨_, rfl, .ended (Local.complete _ _ _ _ _)⟩
  · exact ⟨s, rfl, .refl s⟩

theorem writes_countWriteEnd (s : State) : ∃ t, execCountWriteEnd s = .next t ∧ Writes s t := by
  unfold execCountWriteEnd
  split
  · exact ⟨_, rfl, .ended (Local.refl _)⟩
  · exact ⟨s, rfl, .refl s⟩

/-! ### The end of the self-check -/

/-- The part goes from STARTING to RUNNING (R186 step 6), before its trunks enter by carrier. -/
theorem KeepsLaws.running (s : State) (u : FaultUnit) (hu : u.queue = s.fault.queue) :
    KeepsLaws s { s with mode := .running, fault := u } := by
  refine ⟨rfl, id, fun _ y => ?_, fun h => ?_, id, fun h => ?_, id⟩
  · rcases y with y | y <;> cases y
  · obtain ⟨hx, hw, hq, hd, hu'⟩ := h
    exact ⟨hx, hw, (congrArg List.length hu).trans_le hq, hd, hu'⟩
  · obtain ⟨hq, ha⟩ := (trunkLaw_iff s).1 h
    refine (trunkLaw_iff _).2 ⟨fun k => ?_, ha⟩
    obtain ⟨h1, h2, h3, h4, -⟩ := hq k
    exact ⟨h1, h2, h3, h4, fun e => absurd rfl e⟩

/-- An enabled trunk enters by its carrier. -/
def enterEnabled (s : State) (t : Trunk) : State := if (s.trunk t).enable then s.enterByCarrier t else s

theorem Evolves.enterEnabled (n : Nat) (s : State) (t : Trunk) : Evolves n n s (enterEnabled s t) := by
  unfold Proofs.enterEnabled
  split
  · exact .enterByCarrier n s t
  · exact .refl n s

theorem trunkLaw_enterEnabled {s : State} {t : Trunk} (h : s.TrunkLaw) (hno : (s.trunk t).state ≠ .up)
    (hrun : s.mode = .running) : (enterEnabled s t).TrunkLaw := by
  unfold enterEnabled
  split
  next he => exact trunkLaw_enterByCarrier h hno he hrun
  next => exact h

theorem trunk_enterEnabled_of_ne (s : State) {k t : Trunk} (h : k ≠ t) : (enterEnabled s t).trunk k = s.trunk k := by
  unfold enterEnabled
  split
  · rw [enterByCarrier_eq, State.trunk_modTrunk, if_neg h]
  · rfl

/-- RUNNING with its report deadline, before the trunks enter (R186 step 6). -/
def inRunning (s : State) : State :=
  { s with mode := .running, fault := { s.fault with deadline := some (s.uptime + s.settings.reportInterval) } }

/-- Entry into RUNNING before its bootstrap request. -/
def entered (s : State) : State := enterEnabled (enterEnabled (inRunning s) .t0) .t1

theorem enterRunning_eq (s : State) : s.enterRunning = (entered s).beginBootstrap := rfl

theorem KeepsLaws.entered {s : State} (hmode : s.mode = .starting) : KeepsLaws s (entered s) := by
  have hrun := KeepsLaws.running s { s.fault with deadline := some (s.uptime + s.settings.reportInterval) } rfl
  have hev : Evolves 0 0 (inRunning s) (Proofs.entered s) := (Evolves.enterEnabled 0 _ .t0).trans (.enterEnabled 0 _ .t1)
  refine ⟨hev.pending.trans hrun.pending, fun x => hev.pool.trans (hrun.pool x), fun x => hev.quiet (hrun.quiet x),
    fun x => hev.bounds (hrun.bounds x), fun x => hev.slots (hrun.slots x), fun x => ?_,
    fun x => hev.inbound 0 (hrun.inbound x)⟩
  have hoff (k : Trunk) : (s.trunk k).state ≠ .up := by
    obtain ⟨-, -, -, -, h⟩ := ((trunkLaw_iff s).1 x).1 k
    rw [h (by rw [hmode]; decide)]; decide
  have h0 : (enterEnabled (inRunning s) .t0).TrunkLaw := trunkLaw_enterEnabled (hrun.trunk x) (hoff .t0) rfl
  refine trunkLaw_enterEnabled h0 ?_ (Evolves.enterEnabled 0 _ .t0).mode
  rw [trunk_enterEnabled_of_ne _ (by decide)]
  exact hoff .t1

/-- The end of the self-check: RUNNING or SAFE, with settings, uptime and image as they were. -/
structure Checks (ok : Bool) (s t : State) : Prop where
  mode : (t.mode = .running ∧ ok = true) ∨ t.mode = .safe
  uptime : t.uptime = s.uptime
  settings : t.settings = s.settings
  image : t.store.image = s.store.image
  laws : KeepsLaws s t

theorem Checks.safe {s u : State} (ok : Bool) (h : Local s u) : Checks ok s u.enterSafe := by
  have hs := h.advances.lapses.trans (Lapses.enterSafe u)
  exact ⟨.inr (enterSafe_frame u).1, hs.uptime, hs.settings, hs.image, hs.laws⟩

theorem Checks.enterRunning {s : State} (hmode : s.mode = .starting) : Checks true s s.enterRunning := by
  have hev : Evolves 0 0 (inRunning s) (Proofs.entered s) := (Evolves.enterEnabled 0 _ .t0).trans (.enterEnabled 0 _ .t1)
  have hboot : Lapses .safe (Proofs.entered s) (Proofs.entered s).beginBootstrap := .beginBootstrap hev.mode
  rw [enterRunning_eq]
  refine ⟨?_, hboot.uptime.trans hev.uptime, hboot.settings.trans hev.settings, hboot.image.trans hev.image,
    (KeepsLaws.entered hmode).trans hboot.laws⟩
  rcases hboot.mode with e | e
  · exact .inl ⟨e.trans hev.mode, rfl⟩
  · exact .inr e

theorem selfCheckEnds_false (s : State) :
    s.selfCheckEnds false = (State.raise { s with core := .idle } .coreCheck).enterSafe := by
  simp [State.selfCheckEnds]

theorem selfCheckEnds_true (s : State) :
    s.selfCheckEnds true = (if s.settings.fromImage = false then State.enterSafe { s with core := .idle }
      else if imageCount s.store.image = 65535 then (State.raise { s with core := .idle } .bootLimit).enterSafe
      else State.enterRunning { s with core := .idle }) := by
  simp [State.selfCheckEnds]

theorem Checks.selfCheckEnds {s : State} (ok : Bool) (hcore : s.core = .derives .selfCheck) (hmode : s.mode = .starting) :
    Checks ok s (s.selfCheckEnds ok) := by
  have hidle := Local.underived s hcore
  cases ok
  case false =>
    rw [selfCheckEnds_false]
    exact .safe false (hidle.trans (.raise _ _ _ _ _))
  case true =>
    rw [selfCheckEnds_true]
    split
    · exact .safe true hidle
    · split
      · exact .safe true (hidle.trans (.raise _ _ _ _ _))
      · obtain ⟨hm, hu, hs, hi, hl⟩ := Checks.enterRunning (s := { s with core := .idle }) hmode
        exact ⟨hm, hu, hs, hi, hidle.advances.keepsLaws.trans hl⟩

/-! ### Start-up -/

/-- What a start-up leaves: STARTING or LOCKDOWN, uptime 0, the image and the queue as they were. -/
structure Starts (s t : State) : Prop where
  mode : t.mode = .starting ∨ t.mode = .lockdown
  uptime : t.uptime = 0
  image : t.store.image = s.store.image
  laws : KeepsLaws s t

theorem emptied_blank (s : State) (restart : Bool) (t : Settings) : Emptied (s.blank restart t) where
  pool := ⟨rfl, rfl⟩
  frames := ⟨rfl, rfl⟩
  deliveries pt := by cases pt <;> rfl
  exch := rfl
  waitList := rfl
  slots i := by simp [State.slot, State.blank]
  trunks k := by cases k <;> exact ⟨rfl, rfl, rfl, rfl⟩
  unplaced := ⟨rfl, rfl⟩
  quiet h := by rcases h with h | h <;> cases h

theorem Starts.blank (s : State) (restart : Bool) (t : Settings) : Starts s (s.blank restart t) := by
  refine ⟨.inl rfl, rfl, rfl, (emptied_blank s restart t).keepsLaws rfl fun x => ⟨?_, Nat.zero_le _⟩⟩
  obtain ⟨-, -, hq, -⟩ := x
  cases restart
  · exact Nat.zero_le _
  · exact (FaultUnit.abandon_length _).trans_le hq

theorem Starts.lapses {s t u : State} (h : Starts s t) (k : Lapses .lockdown t u) : Starts s u := by
  refine ⟨?_, k.uptime.trans h.uptime, k.image.trans h.image, h.laws.trans k.laws⟩
  rcases k.mode with e | e
  · rw [e]; exact h.mode
  · exact .inr e

theorem Starts.raise {s t : State} (h : Starts s t) (k : FaultKind) : Starts s (t.raise k) :=
  h.lapses (Local.raise t k none none none).advances.lapses

theorem Starts.begun (s : State) (restart : Bool) (t : Settings) : Starts s (s.begun restart t) := by
  have h := Starts.blank s restart t
  unfold State.begun
  cases restart
  · exact h
  · exact h.raise _

theorem Starts.startUp (s : State) (restart : Bool) : Starts s (s.startUp restart) := by
  unfold State.startUp
  split
  · exact (Starts.begun s restart _).lapses (.tamperNow _)
  · dsimp only
    split
    · exact .begun s restart _
    · exact (Starts.begun s restart _).raise _

/-! ### RESTART and its deferral -/

/-- RESTART from port M: at once a start-up, or waiting for the write in progress. -/
theorem restart_cases (s : State) (tag : Byte) :
    (Starts s (s.restart .m tag)) ∨ Advances 0 0 s (s.restart .m tag) := by
  unfold State.restart
  rw [if_neg (by decide)]
  split
  · exact .inr (Local.refuse s _ _ _ _ _).advances
  · split
    · exact .inr (Local.store s { s.store with restartWaits := true } rfl).advances
    · exact .inl (.startUp s true)

theorem Starts.answer {s t : State} (h : Starts s t) (pt : Port) (bytes : List Byte) : Starts s (t.answer pt bytes) :=
  h.lapses (Local.answer t pt bytes).advances.lapses

theorem restartRow_cases (s : State) (tag : Byte) :
    ∃ t, exec (.restart .m tag) s = .next t ∧ (Starts s t ∨ Advances 0 0 s t) := by
  refine ⟨_, rfl, ?_⟩
  unfold State.command
  split
  · exact .inr (Local.answer s .m _).advances
  · rcases restart_cases s tag with h | h
    · exact .inl (h.answer .m _)
    · exact .inr (h.trans (Local.answer _ .m _).advances)

theorem deferredRestart_cases (s : State) :
    ∃ t, exec .deferredRestart s = .next t ∧ (Starts s t ∨ Advances 0 0 s t) := by
  show ∃ t, execDeferredRestart s = _ ∧ _
  unfold execDeferredRestart
  split
  · exact ⟨_, rfl, .inl (.startUp s true)⟩
  · exact ⟨s, rfl, .inr (.refl 0 s)⟩

/-! ### The uptime step -/

theorem KeepsLaws.tick (s : State) : KeepsLaws s { s with uptime := min (s.uptime + 1) max32 } :=
  ⟨rfl, id, id, fun ⟨hx, hw, hq, hd, _⟩ => ⟨hx, hw, hq, hd, Nat.min_le_right _ _⟩, id, id, id⟩

/-- The uptime step after its second has passed. -/
theorem Local.second (s : State) : Local { s with uptime := min (s.uptime + 1) max32 }
    (State.everySecond { s with uptime := min (s.uptime + 1) max32 }).rest :=
  .after (.rest _) (.everySecond _)

/-! ### Every row -/

/-- Every row goes on to a state that keeps the queue and the six laws. -/
theorem keepsLaws_exec (c : Instr) (s : State) : ∃ t, exec c s = .next t ∧ KeepsLaws s t := by
  by_cases hlife : movesLife c = false
  · obtain ⟨t, e, h⟩ := advancesTo_exec c s hlife
    exact ⟨t, e, h.keepsLaws⟩
  · unfold movesLife at hlife
    split at hlife
    case h_1 => exact ⟨_, rfl, (Starts.startUp s false).laws⟩
    case h_2 =>
      obtain ⟨t, e, h⟩ := deferredRestart_cases s
      exact ⟨t, e, h.elim (·.laws) (·.keepsLaws)⟩
    case h_3 =>
      obtain ⟨t, e, h⟩ := restartRow_cases s _
      exact ⟨t, e, h.elim (·.laws) (·.keepsLaws)⟩
    case h_4 => exact ⟨_, rfl, (Lapses.command (.zeroize s _ _)).laws⟩
    case h_5 => exact ⟨_, rfl, (Lapses.command (.setLine s _ _ _ _ _ _)).laws⟩
    case h_6 =>
      obtain ⟨t, e, h⟩ := Lapses.tamper s _
      exact ⟨t, e, h.laws⟩
    case h_7 ok =>
      show ∃ t, execSelfCheckEnd ok s = _ ∧ _
      unfold execSelfCheckEnd
      split
      next h => exact ⟨_, rfl, (Checks.selfCheckEnds ok h.1 h.2).laws⟩
      next => exact ⟨s, rfl, .refl s⟩
    case h_8 =>
      obtain ⟨t, e, h⟩ := writes_settingsWriteEnd s
      exact ⟨t, e, h.laws⟩
    case h_9 =>
      obtain ⟨t, e, h⟩ := writes_countWriteEnd s
      exact ⟨t, e, h.laws⟩
    case h_10 => exact ⟨_, rfl, (KeepsLaws.tick s).trans (Local.second s).advances.keepsLaws⟩
    case h_11 => exact absurd rfl hlife

/-- 100 ms without a command: only stall times move. -/
theorem Local.tick (s : State) : Local s s.tick := by
  have hgist (r : TrunkRec) (n : Nat) : trunkGist (r.stalling n) = trunkGist r := by
    unfold TrunkRec.stalling
    split <;> rfl
  exact .of_same (by simp only [lawView, trunkView, State.tick, hgist]) rfl rfl rfl rfl rfl rfl

/-- Every step of the machine goes on and keeps the six laws. -/
theorem keepsLaws_step {s t : State} (h : step s = .next t) :
    (s.PoolLaw → t.PoolLaw) ∧ (s.QuietLaw → t.QuietLaw) ∧ (s.BoundLaw → t.BoundLaw) ∧ (s.SlotLaw → t.SlotLaw)
      ∧ (s.TrunkLaw → t.TrunkLaw) ∧ (s.InboundLaw → t.InboundLaw) := by
  have hall : ∀ u : State, KeepsLaws u t → (u.PoolLaw → t.PoolLaw) ∧ (u.QuietLaw → t.QuietLaw) ∧ (u.BoundLaw → t.BoundLaw)
      ∧ (u.SlotLaw → t.SlotLaw) ∧ (u.TrunkLaw → t.TrunkLaw) ∧ (u.InboundLaw → t.InboundLaw) :=
    fun u k => ⟨k.pool, k.quiet, k.bounds, k.slots, k.trunk, k.inbound⟩
  unfold step at h
  split at h
  · cases h; exact hall s (Local.tick s).advances.keepsLaws
  next c rest _ =>
    obtain ⟨u, e, k⟩ := keepsLaws_exec c { s with pending := rest }
    rw [e] at h
    cases h
    exact hall { s with pending := rest } k

/-! ### The obligations on every step -/

/-- Settles O5: every operation leaves the total of the pool, or an emptied pool of 128 free buffers. -/
theorem everyStepKeepsThePoolLaw : Obligations.EveryStepKeepsThePoolLaw := fun _ _ hs h => by
  obtain ⟨hpool, -⟩ := keepsLaws_step h
  exact hpool hs

/-- Settles O6: in SAFE and LOCKDOWN no operation fills a slot, opens a channel or gives the core work. -/
theorem everyStepKeepsTheQuietLaw : Obligations.EveryStepKeepsTheQuietLaw := fun _ _ hs h => by
  obtain ⟨-, hquiet, -⟩ := keepsLaws_step h
  exact hquiet hs

/-- Settles O7: each list with a bound grows only where it has room. -/
theorem everyStepKeepsTheBounds : Obligations.EveryStepKeepsTheBounds := fun _ _ hs h => by
  obtain ⟨-, -, hbounds, -⟩ := keepsLaws_step h
  exact hbounds hs

/-- Settles O8: every write of a slot keeps the fields of its state. -/
theorem everyStepKeepsTheSlotLaw : Obligations.EveryStepKeepsTheSlotLaw := fun _ _ hs h => by
  obtain ⟨-, -, -, hslots, -⟩ := keepsLaws_step h
  exact hslots hs

/-- Settles O9: a trunk that leaves UP is emptied, and a place is taken only where one is free. -/
theorem everyStepKeepsTheTrunkLaw : Obligations.EveryStepKeepsTheTrunkLaw := fun _ _ hs h => by
  obtain ⟨-, -, -, -, htrunk, -⟩ := keepsLaws_step h
  exact htrunk hs

/-- Settles O10: an INBOUND buffer in hand is returned or stands in a delivery queue at the end of its step. -/
theorem everyStepKeepsTheInboundLaw : Obligations.EveryStepKeepsTheInboundLaw := fun _ _ hs h => by
  obtain ⟨-, -, -, -, -, hinbound⟩ := keepsLaws_step h
  exact hinbound hs

/-- Settles O2: every row answers a next state, and its queue is the queue before. -/
theorem everyCommandGoesOnAndLeavesTheQueue : Obligations.EveryCommandGoesOnAndLeavesTheQueue := fun c s => by
  obtain ⟨t, e, h⟩ := keepsLaws_exec c s
  exact ⟨t, e, h.pending⟩

end Sys2Proof.Proofs

/-! The obligations on the machine as a whole: the step, the tick, the reset, and which rows move mode, settings, uptime
and image. -/

namespace Sys2Proof.Proofs
open Sys2Proof.Machine

/-! ### The step, the tick and the reset -/

/-- Settles O1. -/
theorem stepRunsFrontCommand : Obligations.StepRunsFrontCommand := fun _ _ _ => rfl

theorem TrunkRec.stalling_eq (r : TrunkRec) (limit : Nat) :
    r.stalling limit = { r with
      stall := if r.transmitting = true ∧ r.hold = true then r.stall.map fun n => min (n + 1) limit else r.stall } := by
  obtain ⟨_, _, hold, _, _, _, transmitting, _, _, _, _, _, _⟩ := r
  cases transmitting <;> cases hold <;> rfl

/-- Settles O3: the tick writes the stall times and nothing else. -/
theorem emptyQueueLets100msPass : Obligations.EmptyQueueLets100msPass := fun s h => by
  refine ⟨s.tick, by simp only [step, h], rfl, fun k => ?_⟩
  cases k <;> exact TrunkRec.stalling_eq _ _

/-- Settles O4: the reset state is an emptied part in STARTING. -/
theorem lawsHoldAtReset : Obligations.LawsHoldAtReset := by
  refine ⟨rfl, fun h => ?_, ?_, fun i => ?_, ?_, rfl⟩
  · rcases h with h | h <;> cases h
  · exact ⟨Nat.zero_le _, Nat.zero_le _, by decide, fun pt => by cases pt <;> exact Nat.zero_le _, Nat.zero_le _⟩
  · have h : State.reset.slot i = .wiped := by simp [State.slot, State.reset]
    rw [h]
    exact Slot.wiped_law
  · exact ⟨⟨by decide, fun _ => ⟨rfl, rfl, rfl⟩, rfl, fun _ => rfl, fun _ => rfl⟩,
      ⟨by decide, fun _ => ⟨rfl, rfl, rfl⟩, rfl, fun _ => rfl, fun _ => rfl⟩, rfl⟩

/-! ### The rows that move the mode -/

/-- A command decided while the port is busy or not moves the mode as its decision does. -/
theorem command_mode (s : State) (pt : Port) (decide : State → State) :
    (s.command pt decide).mode = s.mode ∨ (s.command pt decide).mode = (decide s).mode := by
  unfold State.command State.answer
  split
  · exact .inl (by simp)
  · exact .inr (by simp)

/-- ZEROIZE moves the mode only from port M in RUNNING, into SAFE. -/
theorem zeroize_mode (s : State) (pt : Port) (tag : Byte) :
    (s.zeroize pt tag).mode = s.mode ∨ (pt = .m ∧ s.mode = .running ∧ (s.zeroize pt tag).mode = .safe) := by
  have h := (Lapses.zeroize s pt tag).mode
  cases hm : s.onlyM pt with
  | none =>
    obtain ⟨hpt, hrun⟩ := State.onlyM_eq_none hm
    exact h.imp_right fun e => ⟨hpt, hrun, e⟩
  | some k =>
    simp only [State.zeroize, hm]
    exact .inl ((Local.refuse s _ _ _ _ _).evolves 0).mode

/-- SET_LINE moves the mode only from port M, into LOCKDOWN. -/
theorem setLine_mode (s : State) (pt : Port) (tag : Byte) (n : Nat) (dirOut latch fn : Option Bool) :
    (s.setLine pt tag n dirOut latch fn).mode = s.mode
      ∨ (pt = .m ∧ (s.setLine pt tag n dirOut latch fn).mode = .lockdown) := by
  have h := (Lapses.setLine s pt tag n dirOut latch fn).mode
  cases hm : s.onlyM pt with
  | none => exact h.imp_right fun e => ⟨(State.onlyM_eq_none hm).1, e⟩
  | some k =>
    have hc : s.lineCheck pt n fn = .error k := by simp only [State.lineCheck, hm]
    simp only [State.setLine, hc]
    exact .inl ((Local.refuse s _ _ _ _ _).evolves 0).mode

/-- RESTART in LOCKDOWN is refused (R187). -/
theorem restart_mode_of_lockdown {s : State} (h : s.mode = .lockdown) (tag : Byte) :
    (s.restart .m tag).mode = .lockdown := by
  rw [State.restart, if_neg (by decide), if_pos h]
  exact (((Local.refuse s _ _ _ _ _).evolves 0).mode).trans h

theorem uptimeStep_second (s : State) :
    ∃ t, exec .uptimeStep s = .next t ∧ Local { s with uptime := min (s.uptime + 1) max32 } t :=
  ⟨_, rfl, Local.second s⟩

/-- Table 10-2: what a row that changed the mode was, by the mode it came from and the mode it left. -/
def MovesAsTable (c : Instr) (s t : State) : Prop :=
  (s.mode = .lockdown → c = .powerOnReset)
  ∧ (t.mode = .running → s.mode = .starting ∧ c = .selfCheckEnd true)
  ∧ (t.mode = .starting → c = .powerOnReset ∨ c = .deferredRestart ∨ ∃ tag, c = .restart .m tag)
  ∧ (t.mode = .safe → (s.mode = .starting ∧ ∃ ok, c = .selfCheckEnd ok)
      ∨ (s.mode = .running ∧ (c = .settingsWriteEnd ∨ c = .countWriteEnd ∨ ∃ tag, c = .zeroize .m tag)))
  ∧ (t.mode = .lockdown → c = .powerOnReset ∨ c = .deferredRestart ∨ (∃ tag, c = .restart .m tag)
      ∨ (∃ held, c = .tamper held) ∨ ∃ tag n d l f, c = .setLine .m tag n d l f)

/-- A start-up moves the mode to STARTING or LOCKDOWN. -/
theorem movesAsTable_of_starts {c : Instr} {s t : State} (h : Starts s t)
    (hc : c = .powerOnReset ∨ c = .deferredRestart ∨ ∃ tag, c = .restart .m tag)
    (hlock : s.mode = .lockdown → c = .powerOnReset) : MovesAsTable c s t := by
  refine ⟨hlock, fun e => ?_, fun _ => hc, fun e => ?_, fun _ => hc.imp_right (·.imp_right .inl)⟩
  all_goals rcases h.mode with e' | e' <;> rw [e'] at e <;> cases e

/-- A row that leads from RUNNING or STARTING to SAFE. -/
theorem movesAsTable_of_safe {c : Instr} {s t : State} (ht : t.mode = .safe)
    (hs : (s.mode = .starting ∧ ∃ ok, c = .selfCheckEnd ok)
      ∨ (s.mode = .running ∧ (c = .settingsWriteEnd ∨ c = .countWriteEnd ∨ ∃ tag, c = .zeroize .m tag))) :
    MovesAsTable c s t := by
  refine ⟨fun e => ?_, fun e => ?_, fun e => ?_, fun _ => hs, fun e => ?_⟩
  · rcases hs with ⟨h, -⟩ | ⟨h, -⟩ <;> rw [h] at e <;> cases e
  all_goals rw [ht] at e; cases e

/-- A tamper: the part was not in LOCKDOWN. -/
theorem movesAsTable_of_tamper {c : Instr} {s t : State} (ht : t.mode = .lockdown) (hne : t.mode ≠ s.mode)
    (hc : (∃ held, c = .tamper held) ∨ ∃ tag n d l f, c = .setLine .m tag n d l f) : MovesAsTable c s t := by
  refine ⟨fun e => absurd (ht.trans e.symm) hne, fun e => ?_, fun e => ?_, fun e => ?_,
    fun _ => .inr (.inr (.inr hc))⟩
  all_goals rw [ht] at e; cases e

/-- Settles O11: a row that changes the mode is a start-up, the end of the self-check, the end of a write, ZEROIZE, or a
tamper. -/
theorem modeMovesAsTheTableSays : Obligations.ModeMovesAsTheTableSays := by
  intro c s t hstep hne
  show MovesAsTable c s t
  by_cases hlife : movesLife c = false
  · obtain ⟨u, e, h⟩ := advancesTo_exec c s hlife
    cases hstep.symm.trans e
    exact absurd h.evolves.mode hne
  · unfold movesLife at hlife
    split at hlife
    case h_1 => cases hstep; exact movesAsTable_of_starts (.startUp s false) (.inl rfl) fun _ => rfl
    case h_2 =>
      have hrun : s.mode = .running ∨ s.mode = .safe := by
        by_cases h : s.store.restartWaits = true ∧ s.store.write = none ∧ (s.mode = .running ∨ s.mode = .safe)
        · exact h.2.2
        · have : exec .deferredRestart s = .next s := if_neg h
          cases hstep.symm.trans this
          exact absurd rfl hne
      obtain ⟨u, e, h⟩ := deferredRestart_cases s
      cases hstep.symm.trans e
      rcases h with h | h
      · exact movesAsTable_of_starts h (.inr (.inl rfl)) fun e => by rcases hrun with h | h <;> rw [h] at e <;> cases e
      · exact absurd h.evolves.mode hne
    case h_3 tag =>
      have hlock : s.mode ≠ .lockdown := fun e => by
        cases hstep
        rcases command_mode s .m fun s => s.restart .m tag with h | h
        · exact hne h
        · exact hne ((h.trans (restart_mode_of_lockdown e tag)).trans e.symm)
      obtain ⟨u, e, h⟩ := restartRow_cases s tag
      cases hstep.symm.trans e
      rcases h with h | h
      · exact movesAsTable_of_starts h (.inr (.inr ⟨_, rfl⟩)) fun e => absurd e hlock
      · exact absurd h.evolves.mode hne
    case h_4 pt tag =>
      cases hstep
      rcases command_mode s pt fun s => s.zeroize pt tag with e | e
      · exact absurd e hne
      · rcases zeroize_mode s pt tag with e' | ⟨rfl, hrun, e'⟩
        · exact absurd (e.trans e') hne
        · exact movesAsTable_of_safe (e.trans e') (.inr ⟨hrun, .inr (.inr ⟨_, rfl⟩)⟩)
    case h_5 pt tag n d l f =>
      cases hstep
      rcases command_mode s pt fun s => s.setLine pt tag n d l f with e | e
      · exact absurd e hne
      · rcases setLine_mode s pt tag n d l f with e' | ⟨rfl, e'⟩
        · exact absurd (e.trans e') hne
        · exact movesAsTable_of_tamper (e.trans e') hne (.inr ⟨_, _, _, _, _, rfl⟩)
    case h_6 =>
      obtain ⟨u, e, h⟩ := Lapses.tamper s _
      cases hstep.symm.trans e
      exact movesAsTable_of_tamper (h.mode.resolve_left hne) hne (.inl ⟨_, rfl⟩)
    case h_7 ok =>
      by_cases h : s.core = .derives .selfCheck ∧ s.mode = .starting
      · have e : exec (.selfCheckEnd ok) s = .next (s.selfCheckEnds ok) := if_pos h
        cases hstep.symm.trans e
        rcases (Checks.selfCheckEnds ok h.1 h.2).mode with ⟨e', rfl⟩ | e'
        · refine ⟨fun x => ?_, fun _ => ⟨h.2, rfl⟩, fun x => ?_, fun x => ?_, fun x => ?_⟩
          · rw [h.2] at x; cases x
          all_goals rw [e'] at x; cases x
        · exact movesAsTable_of_safe e' (.inl ⟨h.2, _, rfl⟩)
      · have e : exec (.selfCheckEnd ok) s = .next s := if_neg h
        cases hstep.symm.trans e
        exact absurd rfl hne
    case h_8 =>
      obtain ⟨u, e, h⟩ := writes_settingsWriteEnd s
      cases hstep.symm.trans e
      obtain ⟨e', hrun⟩ := h.mode.resolve_left hne
      exact movesAsTable_of_safe e' (.inr ⟨hrun, .inl rfl⟩)
    case h_9 =>
      obtain ⟨u, e, h⟩ := writes_countWriteEnd s
      cases hstep.symm.trans e
      obtain ⟨e', hrun⟩ := h.mode.resolve_left hne
      exact movesAsTable_of_safe e' (.inr ⟨hrun, .inr (.inl rfl)⟩)
    case h_10 =>
      obtain ⟨u, e, h⟩ := uptimeStep_second s
      cases hstep.symm.trans e
      exact absurd (h.evolves 0).mode hne
    case h_11 => exact absurd rfl hlife

/-! ### The rows that move uptime, settings and image -/

/-- Settles O12: by what each of the rows that move the part's life leaves; every other row keeps all three. -/
theorem onlyTheseRowsChangeUptimeSettingsAndImage : Obligations.OnlyTheseRowsChangeUptimeSettingsAndImage := by
  intro c s t hb hstep startUp
  have hsame {u : State} (e : exec c s = .next u) (hs : u.settings = s.settings) (hu : u.uptime = s.uptime)
      (hi : u.store.image = s.store.image) : (t.settings ≠ s.settings → startUp)
        ∧ (t.uptime ≠ s.uptime → (startUp ∧ t.uptime = 0) ∨ (c = .uptimeStep ∧ t.uptime = s.uptime + 1))
        ∧ (t.store.image ≠ s.store.image → c = .settingsWriteEnd ∨ c = .countWriteEnd) := by
    cases hstep.symm.trans e
    exact ⟨fun x => absurd hs x, fun x => absurd hu x, fun x => absurd hi x⟩
  have hstart {u : State} (e : exec c s = .next u) (h : Starts s u) (hc : startUp) :
      (t.settings ≠ s.settings → startUp)
        ∧ (t.uptime ≠ s.uptime → (startUp ∧ t.uptime = 0) ∨ (c = .uptimeStep ∧ t.uptime = s.uptime + 1))
        ∧ (t.store.image ≠ s.store.image → c = .settingsWriteEnd ∨ c = .countWriteEnd) := by
    cases hstep.symm.trans e
    exact ⟨fun _ => hc, fun _ => .inl ⟨hc, h.uptime⟩, fun x => absurd h.image x⟩
  have hadv {u : State} (e : exec c s = .next u) (h : Advances 0 0 s u) := hsame e h.evolves.settings h.evolves.uptime
    h.evolves.image
  have hlapse {m : Mode} {u : State} (e : exec c s = .next u) (h : Lapses m s u) := hsame e h.settings h.uptime h.image
  by_cases hlife : movesLife c = false
  · obtain ⟨u, e, h⟩ := advancesTo_exec c s hlife
    exact hadv e h
  · unfold movesLife at hlife
    split at hlife
    case h_1 => exact hstart rfl (.startUp s false) (.inl rfl)
    case h_2 =>
      obtain ⟨u, e, h | h⟩ := deferredRestart_cases s
      · exact hstart e h (.inr (.inl rfl))
      · exact hadv e h
    case h_3 tag =>
      obtain ⟨u, e, h | h⟩ := restartRow_cases s tag
      · exact hstart e h (.inr (.inr ⟨_, rfl⟩))
      · exact hadv e h
    case h_4 => exact hlapse rfl (Lapses.command (.zeroize s _ _))
    case h_5 => exact hlapse rfl (Lapses.command (.setLine s _ _ _ _ _ _))
    case h_6 =>
      obtain ⟨u, e, h⟩ := Lapses.tamper s _
      exact hlapse e h
    case h_7 ok =>
      by_cases h : s.core = .derives .selfCheck ∧ s.mode = .starting
      · have hk := Checks.selfCheckEnds ok h.1 h.2
        exact hsame (if_pos h) hk.settings hk.uptime hk.image
      · exact hsame (if_neg h) rfl rfl rfl
    case h_8 =>
      obtain ⟨u, e, h⟩ := writes_settingsWriteEnd s
      cases hstep.symm.trans e
      exact ⟨fun x => absurd h.settings x, fun x => absurd h.uptime x, fun _ => .inl rfl⟩
    case h_9 =>
      obtain ⟨u, e, h⟩ := writes_countWriteEnd s
      cases hstep.symm.trans e
      exact ⟨fun x => absurd h.settings x, fun x => absurd h.uptime x, fun _ => .inr rfl⟩
    case h_10 =>
      obtain ⟨u, e, h⟩ := uptimeStep_second s
      cases hstep.symm.trans e
      have hk := h.evolves 0
      refine ⟨fun x => absurd hk.settings x, fun x => .inr ⟨rfl, ?_⟩, fun x => absurd hk.image x⟩
      obtain ⟨-, -, -, -, hu⟩ := hb
      have he : t.uptime = min (s.uptime + 1) max32 := hk.uptime
      omega
    case h_11 => exact absurd rfl hlife

end Sys2Proof.Proofs

/-! The obligations on the transactions of a port: BUSY and refusals, status commands, read transactions, the reset
input. -/

namespace Sys2Proof.Proofs
open Sys2Proof.Machine

/-! ### Taking a command (R169) -/

/-- What the part decides of a command record that a port takes; nothing for the rows that are no command record. -/
def decision : Instr → State → State
  | .send pt tag c payload, s => s.send pt tag c payload
  | .channelStatus pt tag c, s => s.channelStatus pt tag c
  | .openChannel pt tag c f, s => s.open' pt tag c f
  | .closeChannel pt tag c, s => s.closeCommand pt tag c
  | .setLimits pt tag c f, s => s.setLimits pt tag c f
  | .renew pt tag c, s => s.renew pt tag c
  | .abortRenewal pt tag c, s => s.abort pt tag c
  | .keyStoreStatus pt tag n, s => s.keyStoreStatus pt tag n
  | .setAllocations pt tag f, s => s.setAllocations pt tag f
  | .poolStatus pt tag, s => s.status pt tag 0x0A s.poolData
  | .setShares pt tag f, s => s.setShares pt tag f
  | .arbiterStatus pt tag, s => s.status pt tag 0x0C s.arbiterData
  | .waitListStatus pt tag, s => s.status pt tag 0x0D s.waitListData
  | .exchangeStatus pt tag, s => s.status pt tag 0x0E s.exchangeData
  | .setTrunk pt tag t enable, s => s.setTrunk pt tag t enable
  | .trunkStatus pt tag clear, s => s.trunkStatus pt tag clear
  | .clearLatches pt tag kinds, s => s.clearLatches pt tag kinds
  | .setFaultMask pt tag kinds, s => s.setFaultMask pt tag kinds
  | .takeFault pt tag, s => s.takeFault pt tag
  | .faultStatus pt tag, s => s.status pt tag 0x14 s.faultData
  | .setPort pt tag named su de att, s => s.setPort pt tag named su de att
  | .portStatus pt tag named clear, s => s.portStatus pt tag named clear
  | .setLine pt tag l d la f, s => s.setLine pt tag l d la f
  | .readLines pt tag, s => s.status pt tag 0x18 (allLines.flatMap s.lineData)
  | .partStatus pt tag, s => s.status pt tag 0x19 s.partData
  | .writeSettings pt tag image, s => s.writeSettings pt tag image
  | .restart pt tag, s => s.restart pt tag
  | .zeroize pt tag, s => s.zeroize pt tag
  | .undefinedCommand pt record, s => s.refuse pt (record.getD 1 0) (byteAt record 0) .badCommand []
  | _, s => s

theorem exec_eq_command {c : Instr} {pt : Port} (h : writer c = some pt) (s : State) :
    exec c s = .next (s.command pt (decision c)) := by
  cases c <;> cases h <;> rfl

theorem writer_of_head {c : Instr} {h : Head} (hh : head c = some h) : writer c = some h.port := by
  cases c <;> cases hh <;> rfl

theorem busy_of_not_takes {s : State} {pt : Port} (h : ¬ s.Takes pt) : s.busy pt = true := by
  by_contra hb
  simp only [State.busy, Bool.or_eq_true, beq_iff_eq, decide_eq_true_eq, not_or] at hb
  obtain ⟨⟨hmode, hreset⟩, hroom⟩ := hb
  exact h ⟨hmode, by simpa using hreset, by omega⟩

theorem command_of_takes {s : State} {pt : Port} (h : s.Takes pt) (decide : State → State) :
    s.command pt decide = (decide s).answer pt [0] := by
  rw [State.command, not_busy_of_takes h]
  rfl

/-- A taken command whose decision completes it at once, by its decision. -/
theorem exec_of_completes {c : Instr} {s u : State} {pt : Port} (hw : writer c = some pt) (ht : s.Takes pt) (tag : Byte)
    (kind : Nat) (res : Result) (data : List Byte)
    (hd : decision c s = u.complete pt ⟨tag, kind, res, data⟩ false false) :
    exec c s = .next (u.completedAt pt tag kind res data) :=
  (exec_eq_command hw s).trans (congrArg _ (command_of_completes ht _ tag kind res data hd))

theorem exec_of_finish {c : Instr} {s u : State} {pt : Port} (hw : writer c = some pt) (ht : s.Takes pt) {tag : Byte}
    {kind : Nat} {data : List Byte} (hd : decision c s = u.finish pt tag kind data) :
    exec c s = .next (u.completedAt pt tag kind .done data) := exec_of_completes hw ht tag kind _ data hd

theorem exec_of_refuse {c : Instr} {s u : State} {pt : Port} (hw : writer c = some pt) (ht : s.Takes pt) {tag : Byte}
    {kind : Nat} {k : Cause} {data : List Byte} (hd : decision c s = u.refuse pt tag kind k data) :
    exec c s = .next (u.completedAt pt tag kind (.refused k) data) := exec_of_completes hw ht tag kind _ data hd

/-- Settles O13: BUSY by the three tests of R169; a malformed record is a decision of its own. -/
theorem busyAndMalformedTransactions : Obligations.BusyAndMalformedTransactions := by
  refine ⟨fun c pt s hw hn => ?_, fun pt record s ht => exec_of_refuse rfl ht rfl, fun _ _ _ => rfl, fun _ _ => rfl⟩
  rw [exec_eq_command hw, State.command, busy_of_not_takes hn]
  rfl

/-! ### Refusals of a whole kind (Table 9-2, R185) -/

theorem State.onlyM_of_ne {pt : Port} (s : State) (h : pt ≠ .m) : s.onlyM pt = some .notAllowed := if_pos h

theorem State.onlyM_of_mode {s : State} (h : s.mode ≠ .running) : s.onlyM .m = some .mode := by simp [State.onlyM, h]

/-- The commands whose first tests are those of port M and of RUNNING. -/
def asksOnlyM : Instr → Bool
  | .openChannel .. | .setLimits .. | .abortRenewal .. | .setAllocations .. | .setShares .. | .setTrunk ..
  | .clearLatches .. | .setFaultMask .. | .setLine .. | .zeroize .. => true
  | _ => false

theorem decision_of_onlyM {c : Instr} {h : Head} {s : State} {k : Cause} (hh : head c = some h)
    (hc : asksOnlyM c = true) (hk : s.onlyM h.port = some k) :
    decision c s = s.refuse h.port h.tag h.kind k h.data := by
  cases c <;> cases hc <;> cases hh
  case openChannel => simp only [decision, State.open', State.openCheck, hk]
  case setLimits => simp only [decision, State.setLimits, State.limitsCheck, hk]
  case abortRenewal => simp only [decision, State.abort, State.abortCheck, hk]
  case setAllocations => simp only [decision, State.setAllocations, hk]
  case setShares => simp only [decision, State.setShares, hk]
  case setTrunk => simp only [decision, State.setTrunk, hk]
  case clearLatches => simp only [decision, State.clearLatches, hk]
  case setFaultMask => simp only [decision, State.setFaultMask, hk]
  case setLine => simp only [decision, State.setLine, State.lineCheck, hk]
  case zeroize => simp only [decision, State.zeroize, hk]

/-- A command of port M alone that another port writes, and CLOSE and SET_PORT from port G. -/
theorem decision_notAllowed {c : Instr} {h : Head} (hh : head c = some h) (hw : c.wf = true) (s : State)
    (hno : (onlyAtM h.kind ∧ h.port ≠ .m) ∨ (h.port = .g ∧ (h.kind = 0x04 ∨ h.kind = 0x15))) :
    decision c s = s.refuse h.port h.tag h.kind .notAllowed h.data := by
  have hm : h.port ≠ .m := fun e => by
    rcases hno with ⟨-, hp⟩ | ⟨hg, -⟩
    · exact hp e
    · rw [e] at hg; cases hg
  cases hc : asksOnlyM c
  case true => exact decision_of_onlyM hh hc (State.onlyM_of_ne s hm)
  case false =>
    cases c <;> cases hc <;> cases hh
    case send | channelStatus | renew | portStatus => simp [onlyAtM] at hno
    case closeChannel pt tag n =>
      have hg : pt = .g := by simpa [onlyAtM] using hno
      simp [decision, State.closeCommand, State.closeCheck, hg]
    case setPort pt tag named su de att =>
      have hg : pt = .g := by simpa [onlyAtM] using hno
      simp [decision, State.setPort, State.portCheck, hg]
    case writeSettings pt tag image =>
      have hlen : image.length = 133 := of_decide_eq_true hw
      simp only [decision, State.writeSettings, State.writeCheck, ne_eq, hlen, not_true, if_false, hm, not_false_eq_true, if_true]
    case poolStatus | arbiterStatus | waitListStatus | exchangeStatus | faultStatus | readLines | partStatus =>
      exact if_neg hm
    case keyStoreStatus | trunkStatus | takeFault | restart => exact if_pos hm

/-- A command that is not taken in this mode, from a port that may write it (R185). -/
theorem decision_mode {c : Instr} {h : Head} {s : State} (hh : head c = some h) (hw : c.wf = true)
    (hm : onlyAtM h.kind → h.port = .m) (hg : h.kind = 0x04 ∨ h.kind = 0x15 → h.port ≠ .g)
    (hquiet : s.mode = .safe ∨ s.mode = .lockdown)
    (hno : onlyRunning h.kind ∨ ((h.kind = 0x02 ∨ h.kind = 0x16) ∧ h.port ≠ .m)
      ∨ ((h.kind = 0x1A ∨ h.kind = 0x1B) ∧ s.mode = .lockdown)) :
    decision c s = s.refuse h.port h.tag h.kind .mode h.data := by
  have hrun : s.mode ≠ .running := by rcases hquiet with e | e <;> rw [e] <;> decide
  cases hc : asksOnlyM c
  case true =>
    refine decision_of_onlyM hh hc ?_
    have : h.port = .m := hm (by cases c <;> cases hc <;> cases hh <;> simp [onlyAtM])
    rw [this]
    exact State.onlyM_of_mode hrun
  case false =>
    cases c <;> cases hc <;> cases hh
    case send => simp [decision, State.send, State.sendCheck, hrun, sendData, b2, b4, beBytes]
    case closeChannel => simp [decision, State.closeCommand, State.closeCheck, hrun, hg (.inl rfl)]
    case renew => simp [decision, State.renew, State.renewCheck, hrun]
    case setPort => simp [decision, State.setPort, State.portCheck, hrun, hg (.inr rfl)]
    case channelStatus pt tag n =>
      have hp : pt ≠ .m := by simpa [onlyRunning] using hno
      exact if_pos ⟨hp, hrun⟩
    case portStatus pt tag named clear =>
      have hp : pt ≠ .m := by simpa [onlyRunning] using hno
      simp [decision, State.portStatus, State.portStatusCheck, hp, hrun]
    case writeSettings pt tag image =>
      have hlen : image.length = 133 := of_decide_eq_true hw
      have hlock : s.mode = .lockdown := by simpa [onlyRunning] using hno
      have hp : pt = .m := hm (by simp [onlyAtM])
      simp [decision, State.writeSettings, State.writeCheck, hlen, hp, hlock]
    case restart pt tag =>
      have hlock : s.mode = .lockdown := by simpa [onlyRunning] using hno
      have hp : pt = .m := hm (by simp [onlyAtM])
      simp [decision, State.restart, hp, hlock]
    all_goals simp [onlyRunning] at hno

/-- Settles O14: each command's first tests. -/
theorem notAllowedAndModeRefusals : Obligations.NotAllowedAndModeRefusals :=
  ⟨fun _ _ s hh hw ht hno => exec_of_refuse (writer_of_head hh) ht (decision_notAllowed hh hw s hno),
    fun _ _ _ hh hw ht hm hg hq hno => exec_of_refuse (writer_of_head hh) ht (decision_mode hh hw hm hg hq hno)⟩

/-! ### Status commands (R22, R42, R76, R85, R104, R128, R149, R166, R175, R181, R190) -/

theorem exec_status {c : Instr} {s : State} {tag : Byte} {kind : Nat} {data : List Byte} (hw : writer c = some .m)
    (ht : s.Takes .m) (hd : decision c s = s.status .m tag kind data) :
    exec c s = .next (s.completedAt .m tag kind .done data) :=
  exec_of_finish hw ht (hd.trans (if_pos rfl))

/-- Settles O15: the decision of each status command. -/
theorem statusCommandsOnlyAnswer : Obligations.StatusCommandsOnlyAnswer := by
  refine ⟨fun s tag ht => ⟨fun n c hc => exec_of_finish rfl ht ?_, fun n hn => exec_of_refuse rfl ht ?_,
      fun i => exec_of_finish rfl ht ?_, fun n hn => exec_of_refuse rfl ht ?_, exec_status rfl ht rfl,
      exec_status rfl ht rfl, exec_status rfl ht rfl, exec_status rfl ht rfl,
      exec_status rfl ht rfl, exec_status rfl ht rfl, exec_status rfl ht rfl⟩,
    fun s pt tag n ht hm hrun => ⟨fun c hc => exec_of_finish rfl ht ?_, fun hn => exec_of_refuse rfl ht ?_,
      fun named clear hne => exec_of_refuse rfl ht ?_⟩,
    fun s tag ht => ⟨exec_of_finish rfl ht ?_, exec_of_finish rfl ht ?_⟩,
    fun s pt named tag ht hmay => ?_⟩
  · simp [decision, State.channelStatus, State.resolve, hc]
  · simp [decision, State.channelStatus, State.resolve, hn]
  · simp [decision, State.keyStoreStatus]
  · simp [decision, State.keyStoreStatus, Nat.not_lt.2 hn]
  · have hr : s.resolve pt n = some c := by cases pt <;> first | exact hc | exact absurd rfl hm
    simp [decision, State.channelStatus, hrun, hr]
  · have hr : s.resolve pt n = none := by cases pt <;> first | exact hn | exact absurd rfl hm
    simp [decision, State.channelStatus, hrun, hr]
  · simp [decision, State.portStatus, State.portStatusCheck, hm, hrun, hne]
  · rfl
  · rfl
  · have hk : s.portStatusCheck pt named = none := by
      rcases hmay with rfl | ⟨hrun, rfl⟩ <;> simp [State.portStatusCheck, *]
    exact ⟨exec_of_finish rfl ht (by simp only [decision, State.portStatus, hk]; rfl),
      exec_of_finish rfl ht (by simp only [decision, State.portStatus, hk]; rfl)⟩

end Sys2Proof.Proofs

/-! The obligations on what a port reads and on its reset input, and on SEND. -/

namespace Sys2Proof.Proofs
open Sys2Proof.Machine

/-! ### Status answers and keys (R22, R42, R128, R190) -/

/-- The state with other keys in its slots, another root key and other nonces. -/
def rekeyed (s : State) (ks tk : SlotId → Key) (root : Key) (nonce head proof : Exchange → Sixteen) : State :=
  { s with
    slots := Vector.ofFn fun i : SlotId => { s.slot i with ksKey := ks i, tagKey := tk i }
    settings := { s.settings with rootKey := root }
    exch := s.exch.map fun e : Exchange => { e with
      store := nonce e, head := e.head.map fun _ => head e, proof := e.proof.map fun _ => proof e } }

section
variable (s : State) (ks tk : SlotId → Key) (root : Key) (nonce head proof : Exchange → Sixteen)

theorem slot_rekeyed (i : SlotId) :
    (rekeyed s ks tk root nonce head proof).slot i = { s.slot i with ksKey := ks i, tagKey := tk i } := by
  simp [State.slot, rekeyed]

theorem chan_rekeyed (c : ChanId) : (rekeyed s ks tk root nonce head proof).chan c = s.chan c := rfl

theorem holdCount_rekeyed (c : ChanId) : (rekeyed s ks tk root nonce head proof).holdCount c = s.holdCount c := rfl

theorem curKeyed_rekeyed (c : ChanId) : (rekeyed s ks tk root nonce head proof).curKeyed c = s.curKeyed c :=
  congrArg (Option.bind (s.chan c).cur) (funext fun i => by rw [slot_rekeyed])

theorem roleBytes_rekeyed : (rekeyed s ks tk root nonce head proof).roleBytes = s.roleBytes :=
  funext fun o => by simp only [State.roleBytes, slot_rekeyed]

theorem emptySlots_rekeyed : (rekeyed s ks tk root nonce head proof).emptySlots = s.emptySlots := by
  simp only [State.emptySlots, slot_rekeyed]

theorem channelData_rekeyed (c : ChanId) : (rekeyed s ks tk root nonce head proof).channelData c = s.channelData c := by
  unfold State.channelData
  rw [curKeyed_rekeyed, chan_rekeyed, roleBytes_rekeyed, holdCount_rekeyed]

theorem slotData_rekeyed (i : SlotId) : (rekeyed s ks tk root nonce head proof).slotData i = s.slotData i := by
  simp only [State.slotData, emptySlots_rekeyed, slot_rekeyed]

/-- An exchange entry's bytes carry no nonce (R128). -/
theorem exchangeData_rekeyed : (rekeyed s ks tk root nonce head proof).exchangeData = s.exchangeData := by
  have hbytes : (rekeyed s ks tk root nonce head proof).exch.flatMap Exchange.bytes = s.exch.flatMap Exchange.bytes :=
    List.flatMap_map _ _ _
  have hlen : (rekeyed s ks tk root nonce head proof).exch.length = s.exch.length := List.length_map _
  simp only [State.exchangeData, hbytes, hlen]
  rfl

theorem waitListData_rekeyed : (rekeyed s ks tk root nonce head proof).waitListData = s.waitListData := by
  have hlen : (rekeyed s ks tk root nonce head proof).exch.length = s.exch.length := List.length_map _
  simp only [State.waitListData, hlen]
  rfl

end

/-- Settles O16: no status byte is formed from a key or a nonce. -/
theorem statusNeverShowsKeys : Obligations.StatusNeverShowsKeys := fun s ks tk root nonce head proof =>
  ⟨channelData_rekeyed s ks tk root nonce head proof, slotData_rekeyed s ks tk root nonce head proof, rfl, rfl,
    waitListData_rekeyed s ks tk root nonce head proof, exchangeData_rekeyed s ks tk root nonce head proof, rfl, rfl,
    fun _ => rfl, rfl⟩

/-! ### Read transactions (R170 to R172) -/

theorem Latches.cleared_eq (l : Latches) (pt : Port) (clear : Byte) : l.cleared pt clear =
    ⟨if clear.getLsbD 0 then false else l.completion, if clear.getLsbD 1 then false else l.delivery,
      if clear.getLsbD 2 then false else l.channel, if clear.getLsbD 3 && pt == .m then false else l.fault⟩ := by
  have (a b : Bool) : (a && !b) = if b then false else a := by cases a <;> cases b <;> rfl
  simp only [Latches.cleared, this]

theorem modPort_modPort (s : State) (pt : Port) (f g : PortRec → PortRec) :
    (s.modPort pt f).modPort pt g = s.modPort pt fun r => g (f r) := by cases pt <;> rfl

theorem giveBuf_inbound {s : State} (h : 0 < s.pool.heldInbound) : s.giveBuf .inbound
    = { s with pool := { s.pool with heldInbound := s.pool.heldInbound - 1, free := s.pool.free + 1 } } := by
  have : s.pool.give .inbound = { s.pool with heldInbound := s.pool.heldInbound - 1, free := s.pool.free + 1 } := if_pos h
  rw [State.giveBuf, this]

/-- Settles O17: the oldest record is the head of its queue; in reset and on an empty queue the answer is BUSY. -/
theorem readTransactionsReturnAndRemove : Obligations.ReadTransactionsReturnAndRemove := by
  refine fun s pt clear => ⟨fun c rest hr hc => ?_, fun d rest hr hd hheld => ?_, fun hr => ?_, fun h => ?_, fun h => ?_,
    fun hr => ?_⟩
  · simp only [exec, execReadCompletion, hr, hc, State.answer, modPort_modPort]; rfl
  · simp only [exec, execReadDelivery, hr, hd, State.answer, ← giveBuf_modPort, modPort_modPort, giveBuf_inbound hheld]; rfl
  · simp only [exec, execReadAttention, hr, State.answer, modPort_modPort, Latches.cleared_eq, Bool.false_eq_true, if_false]
    cases pt <;> rfl
  · rcases h with h | h
    · simp only [exec, execReadCompletion, h]; rfl
    · cases hr : (s.port pt).inReset <;> simp only [exec, execReadCompletion, hr, h] <;> rfl
  · rcases h with h | h
    · simp only [exec, execReadDelivery, h]; rfl
    · cases hr : (s.port pt).inReset <;> simp only [exec, execReadDelivery, hr, h] <;> rfl
  · simp only [exec, execReadAttention, hr, if_true]; rfl

/-! ### The reset input (R176) -/

/-- Returning `n` INBOUND buffers that are held (R74). -/
theorem giveInbounds_eq (n : Nat) (s : State) (h : n ≤ s.pool.heldInbound) :
    Nat.repeat (fun s : State => s.giveBuf .inbound) n s
      = { s with pool := { s.pool with heldInbound := s.pool.heldInbound - n, free := s.pool.free + n } } := by
  induction n with
  | zero => rfl
  | succ n ih =>
    rw [Nat.repeat, ih (by omega), giveBuf_inbound (by show 0 < s.pool.heldInbound - n; omega)]
    simp only [State.mk.injEq, Pool.mk.injEq, true_and, and_true]
    omega

/-- What the reset of a port leaves, with its INBOUND buffers returned (R176). -/
theorem portReset_eq {s : State} {pt : Port} (h : (s.port pt).deliveries.length ≤ s.pool.heldInbound) :
    exec (.portReset pt) s = .next ((State.modPort { s with pool := { s.pool with
      heldInbound := s.pool.heldInbound - (s.port pt).deliveries.length
      free := s.pool.free + (s.port pt).deliveries.length } } pt PortRec.atReset).markAll pt) := by
  show execPortReset pt s = _
  rw [execPortReset, giveInbounds_eq _ _ h]

/-- Settles O18: the marks of every frame of the port and of the settings write, by the parts of the state that hold
them. -/
theorem portResetEmptiesAndMarks : Obligations.PortResetEmptiesAndMarks := by
  refine ⟨?_, fun _ _ => rfl⟩
  intro s pt h mark
  refine ⟨_, portReset_eq h, ?_⟩
  have hcore : s.core.marking pt.src
      = (match s.core with | .outbound f place d => .outbound (mark f) place d | k => k) := by
    cases s.core <;> rfl
  have hwrite : s.store.write.map Write.marking = (match (Port.m), s.store.write with
      | .m, some (.settings image kept result tag _) => some (.settings image kept result tag true)
      | _, w => w) := by
    cases hw : s.store.write with
    | none => rfl
    | some w => cases w <;> rfl
  cases pt
  · exact ⟨rfl, fun | .g, h => absurd rfl h | .p, _ => rfl | .m, _ => rfl, rfl, rfl,
      fun | .g, h => absurd rfl h | .p, _ => rfl | .m, _ => rfl | .control, _ => rfl,
      fun | .t0 => rfl | .t1 => rfl, hcore, rfl, rfl⟩
  · exact ⟨rfl, fun | .g, _ => rfl | .p, h => absurd rfl h | .m, _ => rfl, rfl, rfl,
      fun | .g, _ => rfl | .p, h => absurd rfl h | .m, _ => rfl | .control, _ => rfl,
      fun | .t0 => rfl | .t1 => rfl, hcore, rfl, rfl⟩
  · exact ⟨rfl, fun | .g, _ => rfl | .p, _ => rfl | .m, h => absurd rfl h, rfl, rfl,
      fun | .g, _ => rfl | .p, _ => rfl | .m, h => absurd rfl h | .control, _ => rfl,
      fun | .t0 => rfl | .t1 => rfl, hcore, congrArg (fun w => { s.store with write := w }) hwrite, rfl⟩

/-! ### SEND (R47) -/

theorem takeBuf_of_room {s : State} {h : Holder} (hheld : s.pool.held h < s.pool.alloc h) (hfree : 0 < s.pool.free) :
    s.takeBuf h = some { s with pool := { s.pool.setHeld h (s.pool.held h + 1) with free := s.pool.free - 1 } } := by
  rw [State.takeBuf, Pool.take, if_pos ⟨hheld, hfree⟩]
  rfl

theorem takeBuf_eq_none {s : State} {h : Holder} (hno : ¬ (s.pool.held h < s.pool.alloc h ∧ 0 < s.pool.free)) :
    s.takeBuf h = none := by
  rw [State.takeBuf, Pool.take, if_neg hno]
  rfl

/-- The five tests of R47 before the buffer's pass exactly so. -/
theorem sendCheck_ok {s : State} {pt : Port} {loc len : Nat} {c : ChanId} (hrun : s.mode = .running)
    (hsubmit : (s.port pt).enables.submit = true) (hc : s.resolveLocal pt loc = some c) (hopen : (s.chan c).state ≠ .closed)
    (hlo : 1 ≤ len) (hhi : len ≤ 2048) : s.sendCheck pt loc len = .ok c := by
  have hlen : ¬ (len = 0 ∨ 2048 < len) := by omega
  simp [State.sendCheck, hrun, hsubmit, hc, hopen, hlen]

theorem send_accepted {s : State} {pt : Port} {loc : Nat} {payload : List Byte} {c : ChanId} (tag : Byte)
    (hok : s.sendCheck pt loc payload.length = .ok c) (hheld : s.pool.held pt.holder < s.pool.alloc pt.holder)
    (hfree : 0 < s.pool.free) : s.send pt tag loc payload = (State.accept { s with
      pool := { s.pool.setHeld pt.holder (s.pool.held pt.holder + 1) with free := s.pool.free - 1 } }
      pt tag c loc payload).rest := by
  simp only [State.send, hok, takeBuf_of_room hheld hfree]

/-- A refused SEND, by the first test that holds. -/
theorem send_refused {s : State} {pt : Port} {loc : Nat} {payload : List Byte} {k : Cause} (tag : Byte)
    (h : (match s.sendCheck pt loc payload.length with
      | .error k => some k
      | .ok _ => if s.pool.held pt.holder < s.pool.alloc pt.holder ∧ 0 < s.pool.free then none else some .noBuffer)
        = some k) :
    s.send pt tag loc payload = s.refuse pt tag 0x01 k (sendData loc none) := by
  unfold State.send
  cases he : s.sendCheck pt loc payload.length with
  | error e =>
    simp only [he] at h
    cases h
    rfl
  | ok c =>
    simp only [he] at h
    split at h
    · cases h
    next hno =>
      cases h
      rw [takeBuf_eq_none hno]

/-- A start-up turns every enable on (R177). -/
theorem submit_startUp (s : State) (restart : Bool) : (s.startUp restart).portM.enables.submit = true := by
  have hblank (t : Settings) : enablesOf (s.blank restart t) = (⟨true, true, true⟩, ⟨true, true, true⟩, ⟨true, true, true⟩) :=
    rfl
  have hbegun (t : Settings) : enablesOf (s.begun restart t) = (⟨true, true, true⟩, ⟨true, true, true⟩, ⟨true, true, true⟩) := by
    unfold State.begun
    split
    · rw [enablesOf_raise, hblank]
    · exact hblank t
  have h : enablesOf (s.startUp restart) = (⟨true, true, true⟩, ⟨true, true, true⟩, ⟨true, true, true⟩) := by
    unfold State.startUp
    dsimp only
    split
    · rw [enablesOf_tamperNow, hbegun]
    · split
      · exact hbegun _
      · rw [enablesOf_raise, hbegun]
  have hm : (enablesOf (s.startUp restart)).2.2 = ⟨true, true, true⟩ := by rw [h]
  exact congrArg Enables.submit hm

theorem portM_enables_of_eq {s t : State} (h : enablesOf t = enablesOf s) : t.portM.enables = s.portM.enables :=
  congrArg (fun e => e.2.2) h

/-- SET_PORT never names port M (R174 test 3). -/
theorem submit_setPort (s : State) (pt : Port) (tag : Byte) (named : Port) (su de att : Option Bool) :
    (s.setPort pt tag named su de att).portM.enables = s.portM.enables := by
  unfold State.setPort
  split
  · exact portM_enables_of_eq (enablesOf_refuse ..)
  next hnone =>
    have hm : named ≠ .m := fun e => by
      subst e
      by_cases hrun : s.mode = .running <;> cases pt <;> simp [State.portCheck, hrun] at hnone
    refine (portM_enables_of_eq (enablesOf_finish ..)).trans ?_
    cases named
    · rfl
    · rfl
    · exact absurd rfl hm

theorem submit_command (s : State) (pt : Port) {decide : State → State}
    (h : s.portM.enables.submit = true → (decide s).portM.enables.submit = true) (hs : s.portM.enables.submit = true) :
    (s.command pt decide).portM.enables.submit = true := by
  unfold State.command
  split
  · rw [portM_enables_of_eq (enablesOf_answer ..)]; exact hs
  · rw [portM_enables_of_eq (enablesOf_answer ..)]; exact h hs

/-- Port M's SUBMIT enable is never turned off. -/
theorem submit_exec (c : Instr) (s t : State) (hstep : exec c s = .next t) (hs : s.portM.enables.submit = true) :
    t.portM.enables.submit = true := by
  cases hw : writesEnables c
  case false =>
    have h : enablesOf t = enablesOf s := keepsEnables_exec c s hw t hstep
    rw [portM_enables_of_eq h]
    exact hs
  case true =>
    unfold writesEnables at hw
    split at hw
    case h_1 =>
      cases hstep
      exact submit_command s _ (fun h => by rw [submit_setPort]; exact h) hs
    case h_2 => cases hstep; exact submit_startUp s false
    case h_3 =>
      obtain ⟨u, e, -⟩ := deferredRestart_cases s
      by_cases h : s.store.restartWaits = true ∧ s.store.write = none ∧ (s.mode = .running ∨ s.mode = .safe)
      · have e : exec .deferredRestart s = .next (s.startUp true) := if_pos h
        cases hstep.symm.trans e
        exact submit_startUp s true
      · have e : exec .deferredRestart s = .next s := if_neg h
        cases hstep.symm.trans e
        exact hs
    case h_4 tag =>
      cases hstep
      refine submit_command s _ (fun h => ?_) hs
      rw [State.restart, if_neg (by decide)]
      split
      · rw [portM_enables_of_eq (enablesOf_refuse ..)]; exact h
      · split
        · exact h
        · exact submit_startUp s true
    case h_5 => cases hw

/-- Settles O19: the order of the tests of R47, and what an accepted SEND adds. -/
theorem sendJoinsItsFifoOrIsRefused : Obligations.SendJoinsItsFifoOrIsRefused := by
  refine ⟨fun s pt tag loc payload c ht hrun hsubmit hc hopen hlo hhi hheld hfree => ?_,
    fun s pt tag loc payload k ht hk => ?_, rfl, submit_exec⟩
  · refine ⟨_, (exec_eq_command rfl s).trans (congrArg _ ((command_of_takes ht _).trans
      (congrArg (fun u : State => u.answer pt [0])
        (send_accepted tag (sendCheck_ok hrun hsubmit hc hopen hlo hhi) hheld hfree)))), ?_⟩
    cases pt
    · exact ⟨rfl, rfl, fun | .g, h => absurd rfl h | .p, _ => rfl | .m, _ => rfl | .control, _ => rfl, rfl,
        fun | .g, h => absurd rfl h | .p, _ => rfl | .m, _ => rfl, rfl⟩
    · exact ⟨rfl, rfl, fun | .g, _ => rfl | .p, h => absurd rfl h | .m, _ => rfl | .control, _ => rfl, rfl,
        fun | .g, _ => rfl | .p, h => absurd rfl h | .m, _ => rfl, rfl⟩
    · exact ⟨rfl, rfl, fun | .g, _ => rfl | .p, _ => rfl | .m, h => absurd rfl h | .control, _ => rfl, rfl,
        fun | .g, _ => rfl | .p, _ => rfl | .m, h => absurd rfl h, rfl⟩
  · have hdata : b1 loc ++ [0, 0] ++ [0, 0, 0, 0] = sendData loc none := rfl
    rw [hdata]
    refine exec_of_refuse rfl ht (send_refused tag ?_)
    by_cases hrun : s.mode = .running
    case neg => simpa [State.sendCheck, hrun] using hk
    cases hsubmit : (s.port pt).enables.submit
    case false => simpa [State.sendCheck, hrun, hsubmit] using hk
    cases hc : s.resolveLocal pt loc with
    | none => simpa [State.sendCheck, hrun, hsubmit, hc] using hk
    | some c =>
      by_cases hopen : (s.chan c).state = .closed
      case pos => simpa [State.sendCheck, hrun, hsubmit, hc, hopen] using hk
      by_cases hlen : payload = [] ∨ 2048 < payload.length <;>
        simpa [State.sendCheck, hrun, hsubmit, hc, hopen, hlen] using hk

end Sys2Proof.Proofs

/-! The obligations on channel administration: OPEN, SET_LIMITS, RENEW and what the channel refuses. -/

namespace Sys2Proof.Proofs
open Sys2Proof.Machine

/-- The two spellings of an inequality test in the model's filters. -/
theorem bne_eq_decide_ne {α : Type} [DecidableEq α] (a b : α) : (a != b) = decide (a ≠ b) := by
  by_cases h : a = b <;> simp [h]

/-! ### The tests of administration (R8, R11, R16, R103, R126) -/

theorem State.onlyM_of_running {s : State} (h : s.mode = .running) : s.onlyM .m = none := by simp [State.onlyM, h]

@[simp] theorem resolveGlobal_zero (s : State) : s.resolveGlobal 0 = some 0 := rfl

section
variable {s : State} {n : Nat} {c : ChanId}

theorem openCheck_none (hrun : s.mode = .running) (hc : s.resolveGlobal n = none) :
    s.openCheck .m n = .error .noChannel := by
  simp [State.openCheck, State.onlyM_of_running hrun, hc]

theorem openCheck_zero (hrun : s.mode = .running) : s.openCheck .m 0 = .error .noChannel := by
  simp [State.openCheck, State.onlyM_of_running hrun, Option.filter]

theorem openCheck_some (hrun : s.mode = .running) (hc : s.resolveGlobal n = some c) (h0 : c ≠ 0) :
    s.openCheck .m n = if (s.chan c).state = .closed then .ok c else .error .notClosed := by
  simp [State.openCheck, State.onlyM_of_running hrun, hc, h0, Option.filter]

theorem closeCheck_none {pt : Port} (hrun : s.mode = .running) (hpt : pt ≠ .g) (hc : s.resolve pt n = none) :
    s.closeCheck pt n = .error .noChannel := by
  simp [State.closeCheck, hrun, hpt, hc]

theorem closeCheck_some {pt : Port} (hrun : s.mode = .running) (hpt : pt ≠ .g) (hc : s.resolve pt n = some c) :
    s.closeCheck pt n = if c = 0 then .error .notAllowed
      else if pt = .m ∧ (s.chan c).cls = .payment ∧ s.settings.paymentLock = true then .error .locked
      else if (s.chan c).state = .closed then .error .notOpen
      else .ok c := by
  simp [State.closeCheck, hrun, hpt, hc]

theorem limitsCheck_none (hrun : s.mode = .running) (hc : s.resolveGlobal n = none) :
    s.limitsCheck .m n = .error .noChannel := by
  simp [State.limitsCheck, State.onlyM_of_running hrun, hc]

theorem limitsCheck_some (hrun : s.mode = .running) (hc : s.resolveGlobal n = some c) :
    s.limitsCheck .m n = if (s.chan c).state = .closed then .error .notOpen else .ok c := by
  simp [State.limitsCheck, State.onlyM_of_running hrun, hc]

theorem renewCheck_none {pt : Port} (hrun : s.mode = .running) (hc : s.resolve pt n = none) :
    s.renewCheck pt n = .error .noChannel := by
  simp [State.renewCheck, hrun, hc]

theorem renewCheck_some {pt : Port} (hrun : s.mode = .running) (hc : s.resolve pt n = some c) :
    s.renewCheck pt n = if (s.chan c).state = .closed ∨ (s.chan c).state = .booting then .error .notOpen
      else if (s.chan c).renewal = .exchanging then .error .alreadyRenewing
      else .ok c := by
  simp [State.renewCheck, hrun, hc]

theorem abortCheck_none (hrun : s.mode = .running) (hc : s.resolveGlobal n = none) :
    s.abortCheck .m n = .error .noChannel := by
  simp [State.abortCheck, State.onlyM_of_running hrun, hc]

theorem abortCheck_some (hrun : s.mode = .running) (hc : s.resolveGlobal n = some c) :
    s.abortCheck .m n = if (s.chan c).renewal = .idle ∨ (s.chan c).renewal = .stopped then .error .nothingPending
      else .ok c := by
  simp [State.abortCheck, State.onlyM_of_running hrun, hc]

end

section
variable {s : State} {n : Nat} {k : Cause} {pt : Port} (ht : s.Takes pt) (tag : Byte)
include ht

theorem openChannel_refused (f : LimitFields) (h : s.openCheck pt n = .error k) :
    exec (.openChannel pt tag n f) s = .next (s.completedAt pt tag 0x03 (.refused k) (b1 n)) :=
  exec_of_refuse rfl ht (by simp only [decision, State.open', h])

theorem closeChannel_refused (h : s.closeCheck pt n = .error k) :
    exec (.closeChannel pt tag n) s = .next (s.completedAt pt tag 0x04 (.refused k) (b1 n)) :=
  exec_of_refuse rfl ht (by simp only [decision, State.closeCommand, h])

theorem setLimits_refused (f : LimitFields) (h : s.limitsCheck pt n = .error k) :
    exec (.setLimits pt tag n f) s = .next (s.completedAt pt tag 0x05 (.refused k) (b1 n)) :=
  exec_of_refuse rfl ht (by simp only [decision, State.setLimits, h])

theorem renew_refused (h : s.renewCheck pt n = .error k) :
    exec (.renew pt tag n) s = .next (s.completedAt pt tag 0x06 (.refused k) (b1 n)) :=
  exec_of_refuse rfl ht (by simp only [decision, State.renew, h])

theorem abortRenewal_refused (h : s.abortCheck pt n = .error k) :
    exec (.abortRenewal pt tag n) s = .next (s.completedAt pt tag 0x07 (.refused k) (b1 n)) :=
  exec_of_refuse rfl ht (by simp only [decision, State.abort, h])

end

/-- Settles O26: each refusal by the tests before it, which pass. -/
theorem administrationRefusedByTheChannel : Obligations.AdministrationRefusedByTheChannel := by
  refine fun s tag n f ht hrun => ⟨fun hc => ⟨openChannel_refused ht tag f (openCheck_none hrun hc),
      closeChannel_refused ht tag (closeCheck_none hrun nofun hc), setLimits_refused ht tag f (limitsCheck_none hrun hc),
      renew_refused ht tag (renewCheck_none hrun hc), abortRenewal_refused ht tag (abortCheck_none hrun hc)⟩,
    openChannel_refused ht tag f (openCheck_zero hrun),
    closeChannel_refused ht tag (closeCheck_some (c := 0) hrun nofun (resolveGlobal_zero s)),
    fun c hc h0 => ⟨fun hst => openChannel_refused ht tag f ?_, fun hcls hlock => closeChannel_refused ht tag ?_,
      fun hst hlock => closeChannel_refused ht tag ?_⟩,
    fun c hc => ⟨fun hst => setLimits_refused ht tag f ?_, fun hst => renew_refused ht tag ?_,
      fun hren => abortRenewal_refused ht tag ?_⟩⟩
  · rw [openCheck_some hrun hc h0, if_neg hst]
  · rw [closeCheck_some (pt := .m) hrun nofun hc, if_neg h0, if_pos ⟨rfl, hcls, hlock⟩]
  · rw [closeCheck_some (pt := .m) hrun nofun hc, if_neg h0, if_neg (by simp [hlock]), if_pos hst]
  · rw [limitsCheck_some hrun hc, if_pos hst]
  · rw [renewCheck_some (pt := .m) hrun hc, if_pos hst]
  · rw [abortCheck_some hrun hc, if_pos hren]

/-! ### OPEN (R8, R9, R99) -/

@[simp] theorem chan_latchChannel (s : State) (pt : Port) (d : ChanId) : (s.latchChannel pt).chan d = s.chan d := by
  simp [State.latchChannel]

@[simp] theorem chan_tellChannel (s : State) (c d : ChanId) : (s.tellChannel c).chan d = s.chan d := by
  simp [State.tellChannel]

/-- What a latched CHANNEL leaves of the part. -/
theorem latchChannel_frame (s : State) (pt : Port) :
    { s.latchChannel pt with portG := s.portG, portP := s.portP, portM := s.portM } = s := by cases pt <;> rfl

theorem latches_latchChannel (s : State) (pt : Port) : ((s.latchChannel pt).port pt).latches.channel = true := by
  simp [State.latchChannel]

/-- What a request that finds room leaves (R99). -/
theorem join_of_room {s : State} (h : s.sched.waitList.length < 31) (c : ChanId) (r : Reason) (atHead : Bool) :
    s.join c r atHead = (State.tellChannel (State.modChan
      { s with sched := { s.sched with waitList := placeEntry s.sched.waitList ⟨c, r⟩ atHead } } c
      fun ch => { ch.unpaused with renewal := .listed }) c, .listed) := if_pos h

theorem join_of_full {s : State} (h : 31 ≤ s.sched.waitList.length) (c : ChanId) (r : Reason) (atHead : Bool) :
    s.join c r atHead = (s, .notTaken) := if_neg (Nat.not_lt.2 h)

/-- A request for an IDLE channel that is neither CLOSED nor BOOTING joins the list (R99). -/
theorem request_of_idle {s : State} {c : ChanId} (hclosed : (s.chan c).state ≠ .closed)
    (hboot : (s.chan c).state ≠ .booting) (hidle : (s.chan c).renewal = .idle) (r : Reason) (fromPause atHead : Bool) :
    s.request c r fromPause atHead = s.join c (if (s.chan c).state = .openWait then .openKey else r) atHead := by
  unfold State.request
  cases hst : (s.chan c).state <;> simp_all

/-- The limits of Table 1-5 over old ones (R9, R11). -/
theorem Limits.with_eq (l : Limits) (f : LimitFields) : l.with f =
    ⟨match f.hard with | some v => max 65536 (min 4294967295 v) | none => l.hard,
      match f.margin with | some v => max 1 (min 32 v) | none => l.margin,
      match f.age with | some v => max 60 (min 604800 v) | none => l.age,
      match f.lead with | some v => max 0 (min 3600 v) | none => l.lead,
      match f.hold with | some v => max 1 (min 60 v) | none => l.hold, f.route.getD l.route⟩ := by
  obtain ⟨hard, margin, age, lead, hold, route⟩ := f
  cases hard <;> cases margin <;> cases age <;> cases lead <;> cases hold <;> rfl

/-- The opened channel before its request. -/
def openedAt (s : State) (c : ChanId) (f : LimitFields) : State :=
  (s.modChan c fun ch => ch.opened (s.settings.classLimits (s.chan c).cls) f).tellChannel c

theorem chan_openedAt (s : State) (c d : ChanId) (f : LimitFields) : (openedAt s c f).chan d =
    if d = c then (s.chan c).opened (s.settings.classLimits (s.chan c).cls) f else s.chan d := by
  by_cases h : d = c <;> simp [openedAt, State.chan_modChan, h]

/-- The rest of the part after an OPEN: channels, wait list and ports are written, and nothing else. -/
def adminFrame (s t : State) : Prop :=
  { t with chans := s.chans, sched := s.sched, portG := s.portG, portP := s.portP, portM := s.portM } = s

theorem adminFrame.modPort {s t : State} (h : adminFrame s t) (pt : Port) (f : PortRec → PortRec) :
    adminFrame s (t.modPort pt f) := by
  unfold adminFrame at h ⊢
  cases pt <;> exact h

theorem adminFrame.modChan {s t : State} (h : adminFrame s t) (c : ChanId) (f : Chan → Chan) :
    adminFrame s (t.modChan c f) := h

theorem adminFrame.sched {s t : State} (h : adminFrame s t) (x : Scheduler) : adminFrame s { t with sched := x } := h

theorem adminFrame.trans {s t u : State} (h : adminFrame s t) (k : adminFrame t u) : adminFrame s u := by
  have hback := congrArg (fun x : State => { x with
    chans := s.chans, sched := s.sched, portG := s.portG, portP := s.portP, portM := s.portM }) k
  exact hback.trans h

theorem adminFrame.refl (s : State) : adminFrame s s := rfl

theorem adminFrame.tellChannel {s t : State} (h : adminFrame s t) (c : ChanId) : adminFrame s (t.tellChannel c) :=
  h.modPort _ _

theorem adminFrame.finish {s t : State} (h : adminFrame s t) (pt : Port) (tag : Byte) (kind : Nat) (data : List Byte) :
    adminFrame s (t.completedAt pt tag kind .done data) := h.modPort _ _

@[simp] theorem completedAt_sched (s : State) (pt : Port) (tag : Byte) (kind : Nat) (res : Result) (data : List Byte) :
    (s.completedAt pt tag kind res data).sched = s.sched := by simp [State.completedAt]

@[simp] theorem chan_completedAt (s : State) (pt : Port) (tag : Byte) (kind : Nat) (res : Result) (data : List Byte)
    (d : ChanId) : (s.completedAt pt tag kind res data).chan d = s.chan d := by simp [State.completedAt]

@[simp] theorem completedAt_chans (s : State) (pt : Port) (tag : Byte) (kind : Nat) (res : Result) (data : List Byte) :
    (s.completedAt pt tag kind res data).chans = s.chans := by simp [State.completedAt]

/-- The record of a port after a completion at its event. -/
theorem port_completedAt (s : State) (pt q : Port) (tag : Byte) (kind : Nat) (res : Result) (data : List Byte) :
    (s.completedAt pt tag kind res data).port q = if q = pt then { s.port pt with
      completions := (s.port pt).completions ++ [⟨tag, kind, res, data⟩]
      latches := { (s.port pt).latches with completion := true }
      reply := [0] } else s.port q := by
  by_cases h : q = pt <;> simp [State.completedAt, State.port_modPort, h]

theorem port_latchChannel (s : State) (pt q : Port) : (s.latchChannel pt).port q =
    if q = pt then { s.port pt with latches := { (s.port pt).latches with channel := true } } else s.port q := by
  by_cases h : q = pt <;> simp [State.latchChannel, State.port_modPort, h]

@[simp] theorem completions_tellChannel (s : State) (c : ChanId) (q : Port) :
    ((s.tellChannel c).port q).completions = (s.port q).completions := by
  unfold State.tellChannel
  rw [port_latchChannel]
  split
  next h => rw [h]
  next => rfl

@[simp] theorem tellChannel_sched (s : State) (c : ChanId) : (s.tellChannel c).sched = s.sched := by
  simp [State.tellChannel, State.latchChannel]

/-- A CHANNEL latch that is set stays set. -/
theorem channel_latched_tellChannel {s : State} {pt : Port} (h : (s.port pt).latches.channel = true) (c : ChanId) :
    ((s.tellChannel c).port pt).latches.channel = true := by
  unfold State.tellChannel
  rw [port_latchChannel]
  split
  · rfl
  · exact h

theorem channel_latched_completedAt {s : State} {pt : Port} (h : (s.port pt).latches.channel = true) (q : Port)
    (tag : Byte) (kind : Nat) (res : Result) (data : List Byte) :
    ((s.completedAt q tag kind res data).port pt).latches.channel = true := by
  rw [port_completedAt]
  split
  next e => rw [← e]; exact h
  next => exact h

theorem portM_eq (s : State) : s.portM = s.port .m := rfl

/-- What a request leaves that found room on the list (R99, R98). -/
structure JoinedList (s t : State) (c : ChanId) (r : Reason) (atHead : Bool) : Prop where
  own : t.chan c = { s.chan c with renewal := .listed, pause := none, pauseReason := none }
  others : ∀ d, d ≠ c → t.chan d = s.chan d
  waitList : t.sched.waitList = placeEntry s.sched.waitList ⟨c, r⟩ atHead
  completions : ∀ q, (t.port q).completions = (s.port q).completions
  latched : ∀ q, (s.port q).latches.channel = true → (t.port q).latches.channel = true
  frame : adminFrame s t

theorem joinedList_join {s : State} (h : s.sched.waitList.length < 31) (c : ChanId) (r : Reason) (atHead : Bool) :
    JoinedList s (s.join c r atHead).1 c r atHead := by
  rw [join_of_room h]
  refine ⟨by rw [chan_tellChannel, State.chan_modChan, if_pos rfl]; rfl, fun d hd => ?_, by simp, fun q => ?_,
    fun q hq => channel_latched_tellChannel (by rw [State.port_modChan]; cases q <;> exact hq) c, ((adminFrame.refl s).sched _).modChan _ _ |>.tellChannel _⟩
  · simp only [chan_tellChannel, State.chan_modChan, hd, if_false]; rfl
  · rw [completions_tellChannel, State.port_modChan]
    cases q <;> rfl

/-- A ROUTINE or URGENT entry takes its place (R98). -/
theorem placeEntry_urgent {e : WaitEntry} (h : e.reason.urgent = true) (l : List WaitEntry) : placeEntry l e false =
    (l.filter fun x => x.reason.urgent) ++ e :: l.filter fun x => !x.reason.urgent := by simp [placeEntry, h]

/-- Settles O25: the class defaults under the given fields, then the request. -/
theorem openListsTheChannel : Obligations.OpenListsTheChannel := by
  intro s tag n f c ht hrun hc h0 hst hidle d given l
  have hl : l = d.with f := (Limits.with_eq d f).symm
  have hok : s.openCheck .m n = .ok c := by rw [openCheck_some hrun hc h0, if_pos hst]
  have hch : (openedAt s c f).chan c = { s.chan c with
      state := .openWait, limits := l, rate := 0, units := 0, bucket := 0 } := by
    rw [chan_openedAt, if_pos rfl, hl]; rfl
  have hother (e : ChanId) (he : e ≠ c) : (openedAt s c f).chan e = s.chan e := by rw [chan_openedAt, if_neg he]
  have hsched : (openedAt s c f).sched = s.sched := tellChannel_sched _ _
  have hreq : (openedAt s c f).request c .openKey = (openedAt s c f).join c .openKey false := by
    rw [request_of_idle (by rw [hch]; nofun) (by rw [hch]; nofun) (by rw [hch]; exact hidle), hch, if_pos rfl]
  have hexec : exec (.openChannel .m tag n f) s = .next (((openedAt s c f).request c .openKey).1.completedAt .m tag 0x03
      .done (b1 n ++ codeList (LimitFields.changed f (d.with f)))) :=
    exec_of_finish rfl ht (by simp only [decision, State.open', hok]; rfl)
  have hframe : adminFrame s (openedAt s c f) := ((adminFrame.refl s).modChan _ _).tellChannel _
  have hlatch : ((openedAt s c f).port (s.chan c).owner.port).latches.channel = true := by
    have : ((s.modChan c fun ch => ch.opened (s.settings.classLimits (s.chan c).cls) f).chan c).owner = (s.chan c).owner := by
      simp [State.chan_modChan, Chan.opened]
    rw [openedAt, State.tellChannel, this]
    exact latches_latchChannel _ _
  have hcomp : ((openedAt s c f).port .m).completions = s.portM.completions := by
    simp [openedAt, State.port_modChan, portM_eq]
  refine ⟨_, hexec, ?_⟩
  rw [hreq]
  by_cases hfull : s.sched.waitList.length < 31
  case pos =>
    obtain ⟨hown, hothers, hlist, hcomps, hlatched, hfr⟩ :=
      joinedList_join (by rw [hsched]; exact hfull) (s := openedAt s c f) c .openKey false
    refine ⟨fun _ => ⟨?_, ?_⟩, fun h => absurd hfull (Nat.not_lt.2 h), fun e he => ?_,
      channel_latched_completedAt (hlatched _ hlatch) .., ⟨codeList (LimitFields.changed f (d.with f)), ?_⟩,
      (hframe.trans hfr).finish ..⟩
    · rw [chan_completedAt, hown, hch]
    · rw [completedAt_sched, hlist, hsched, placeEntry_urgent rfl]
    · rw [chan_completedAt, hothers e he, hother e he]
    · rw [portM_eq, port_completedAt, if_pos rfl, hcomps, hcomp]
  case neg =>
    rw [join_of_full (by rw [hsched]; exact Nat.not_lt.1 hfull)]
    refine ⟨fun h => absurd h hfull, fun _ => ⟨?_, ?_⟩, fun e he => ?_, channel_latched_completedAt hlatch ..,
      ⟨codeList (LimitFields.changed f (d.with f)), ?_⟩, hframe.finish ..⟩
    · rw [chan_completedAt, hch]
    · rw [completedAt_sched, hsched]
    · rw [chan_completedAt, hother e he]
    · rw [portM_eq, port_completedAt, if_pos rfl, hcomp]

/-! ### SET_LIMITS (R11) -/

theorem Limits.written_eq (l : Limits) (f : LimitFields) (wear : Nat) :
    l.written f wear = { l.with f with hard := max (l.with f).hard wear } := by
  unfold Limits.written
  dsimp only
  split
  next h => rw [Nat.max_eq_right (Nat.le_of_lt h)]
  next h => rw [Nat.max_eq_left (Nat.not_lt.1 h)]

theorem wearOf_getD (s : State) (c : ChanId) :
    (s.wearOf c).getD 0 = match s.curKeyed c with | some k => k.wear | none => 0 := by
  unfold State.wearOf
  cases s.curKeyed c <;> rfl

/-- A command whose decision completes it and then ends with the consultation of a free core. -/
theorem exec_of_finish_rest {c : Instr} {s u : State} {pt : Port} (hw : writer c = some pt) (ht : s.Takes pt) {tag : Byte}
    {kind : Nat} {data : List Byte} (hd : decision c s = (u.finish pt tag kind data).rest) :
    exec c s = .next ((u.modPort pt fun r => { r with
      completions := r.completions ++ [⟨tag, kind, .done, data⟩]
      latches := { r.latches with completion := true } }).consulted pt) :=
  (exec_eq_command hw s).trans (congrArg _ ((command_of_takes ht _).trans
    (congrArg (fun x : State => x.answer pt [0]) hd)))

/-- Settles O28: the given fields clamped, then H raised to the wear. -/
theorem setLimitsClampsAndRaises : Obligations.SetLimitsClampsAndRaises := by
  intro s tag n f c ht hrun hc hst l given w new
  have hok : s.limitsCheck .m n = .ok c := by rw [limitsCheck_some hrun hc, if_neg hst]
  have hnew : l.written f ((s.wearOf c).getD 0) = new := by
    rw [Limits.written_eq, wearOf_getD, Limits.with_eq] <;> rfl
  refine ⟨s.modChan c fun ch => { ch with limits := l.written f ((s.wearOf c).getD 0) },
    codeList (LimitFields.changed f new) ++ b1 (hardFlags l f ((s.wearOf c).getD 0)),
    exec_of_finish_rest rfl ht ?_, ?_, fun d hd => ?_, rfl⟩
  · simp only [decision, State.setLimits, hok, ← hnew, List.append_assoc]; rfl
  · rw [State.chan_modChan, if_pos rfl, hnew]
  · rw [State.chan_modChan, if_neg hd]

/-! ### RENEW (R103) -/

/-- An URGENT request for a channel that is IDLE, PAUSED or STOPPED joins the list (R99). -/
theorem request_of_ready {s : State} {c : ChanId} {r : Reason} (hclosed : (s.chan c).state ≠ .closed)
    (hboot : (s.chan c).state ≠ .booting)
    (hready : (s.chan c).renewal = .idle ∨ (s.chan c).renewal = .paused ∨ (s.chan c).renewal = .stopped)
    (hr : r.urgent = true) (fromPause atHead : Bool) :
    s.request c r fromPause atHead = s.join c (if (s.chan c).state = .openWait then .openKey else r) atHead := by
  have hu : Reason.urgent .openKey = true := rfl
  unfold State.request
  rcases hready with h | h | h <;> cases hst : (s.chan c).state <;> simp_all

/-- A request for a LISTED channel (R99). -/
theorem request_of_listed {s : State} {c : ChanId} (hclosed : (s.chan c).state ≠ .closed)
    (hboot : (s.chan c).state ≠ .booting) (hlisted : (s.chan c).renewal = .listed) (r : Reason) (fromPause atHead : Bool) :
    s.request c r fromPause atHead = s.relist c (if (s.chan c).state = .openWait then .openKey else r) := by
  unfold State.request
  cases hst : (s.chan c).state <;> simp_all

theorem renewReason_urgent (st : ChanState) : (if st = .openWait then Reason.openKey else .port).urgent = true := by
  split <;> rfl

/-- The part after a listed channel's ROUTINE entry has moved to the end of the URGENT part (R99). -/
def movedUp (s : State) (c : ChanId) (r : Reason) : State :=
  State.tellChannel { s.unlist c with sched := { (s.unlist c).sched with
    waitList := placeEntry (s.unlist c).sched.waitList ⟨c, r⟩ false } } c

theorem relist_of_entry {s : State} {c : ChanId} {e : WaitEntry} {r : Reason} (he : s.entryOf c = some e)
    (hr : r.urgent = true) :
    s.relist c r = if e.reason.urgent = true then (s, .unchanged) else (movedUp s c r, .moved) := by
  simp only [State.relist, he, hr]
  cases e.reason.urgent <;> rfl

/-- Settles O29: the tests of R103, then the request by the status of the channel. -/
theorem renewListsMovesOrLeaves : Obligations.RenewListsMovesOrLeaves := by
  refine ⟨fun s pt tag n ht => ⟨fun hrun => renew_refused ht tag (if_pos hrun),
    fun hrun hc => renew_refused ht tag (renewCheck_none hrun hc),
    fun c hrun hc hst => renew_refused ht tag (by rw [renewCheck_some hrun hc, if_pos hst])⟩, ?_⟩
  intro s pt tag n c ht hrun hc hclosed hboot ready reason urgent frame
  have hcheck : s.renewCheck pt n = if (s.chan c).renewal = .exchanging then .error .alreadyRenewing else .ok c := by
    rw [renewCheck_some hrun hc, if_neg (not_or.2 ⟨hclosed, hboot⟩)]
  have hreason : reason.urgent = true := renewReason_urgent _
  have hready (h : ready) : s.renewCheck pt n = .ok c ∧ s.request c .port = s.join c reason false :=
    ⟨by rw [hcheck, if_neg (by rcases h with h | h | h <;> rw [h] <;> nofun)],
      request_of_ready hclosed hboot h rfl false false⟩
  have hlisted {e : WaitEntry} (h : (s.chan c).renewal = .listed) (he : s.entryOf c = some e) :
      s.renewCheck pt n = .ok c ∧ s.request c .port
        = if e.reason.urgent = true then (s, .unchanged) else (movedUp s c reason, .moved) :=
    ⟨by rw [hcheck, if_neg (by rw [h]; nofun)],
      (request_of_listed hclosed hboot h .port false false).trans (relist_of_entry he hreason)⟩
  refine ⟨fun h hroom => ?_, fun h hfull => ?_, fun h => renew_refused ht tag (by rw [hcheck, if_pos h]),
    fun e h he => ⟨fun hu => ?_, fun hu => ?_⟩⟩
  · obtain ⟨hok, hreq⟩ := hready h
    obtain ⟨hown, hothers, hlist, hcomps, -, hfr⟩ := joinedList_join hroom c reason false
    refine ⟨(s.join c reason false).1.completedAt pt tag 0x06 .done (b1 n ++ [0]), exec_of_finish rfl ht ?_, ?_, fun d hd => ?_, ?_, ?_, hfr.finish ..⟩
    · simp only [decision, State.renew, hok, hreq, join_of_room hroom]; rfl
    · rw [chan_completedAt, hown]
    · rw [chan_completedAt, hothers d hd]
    · rw [completedAt_sched, hlist, placeEntry_urgent hreason]
    · rw [port_completedAt, if_pos rfl, hcomps]
  · obtain ⟨hok, hreq⟩ := hready h
    exact exec_of_refuse rfl ht (by simp only [decision, State.renew, hok, hreq, join_of_full hfull])
  · obtain ⟨hok, hreq⟩ := hlisted h he
    exact exec_of_finish rfl ht (by simp only [decision, State.renew, hok, hreq, hu, if_true]; rfl)
  · obtain ⟨hok, hreq⟩ := hlisted h he
    refine ⟨(movedUp s c reason).completedAt pt tag 0x06 .done (b1 n ++ [1]), exec_of_finish rfl ht
      (by simp only [decision, State.renew, hok, hreq, hu, Bool.false_eq_true, if_false]; rfl), ?_, ?_, ?_,
      adminFrame.finish (adminFrame.tellChannel (((adminFrame.refl s).sched _).sched _) c) ..⟩
    · rw [completedAt_chans, movedUp, State.tellChannel, State.latchChannel, State.modPort_chans]; rfl
    · rw [completedAt_sched, movedUp, tellChannel_sched]
      dsimp only
      rw [placeEntry_urgent hreason]
      simp only [State.unlist, bne_eq_decide_ne]
      rfl
    · rw [port_completedAt, if_pos rfl, movedUp, completions_tellChannel]
      cases pt <;> rfl

end Sys2Proof.Proofs

/-! The obligations on allocations and shares, fault latches, mask and level, TAKE_FAULT, reports and raises. -/

namespace Sys2Proof.Proofs
open Sys2Proof.Machine

/-! ### SET_ALLOCATIONS, SET_SHARES (R75, R80) -/

/-- Every given value is within a bound (the tests of R75 and R80 on single values). -/
theorem all_within_iff (bound : Nat) (a b c d : Option Nat) :
    ([a, b, c, d].all fun o => match o with | some n => decide (n ≤ bound) | none => true) = true
      ↔ ¬ ∃ v, (a = some v ∨ b = some v ∨ c = some v ∨ d = some v) ∧ bound < v := by
  have hone (o : Option Nat) : (match o with | some n => decide (n ≤ bound) | none => true) = true
      ↔ ∀ v, o = some v → v ≤ bound := by cases o <;> simp
  simp only [List.all_cons, List.all_nil, Bool.and_true, Bool.and_eq_true, hone, not_exists, not_and, Nat.not_lt]
  constructor
  · rintro ⟨ha, hb, hc, hd⟩ v (h | h | h | h)
    exacts [ha v h, hb v h, hc v h, hd v h]
  · exact fun h => ⟨fun v e => h v (.inl e), fun v e => h v (.inr (.inl e)), fun v e => h v (.inr (.inr (.inl e))),
      fun v e => h v (.inr (.inr (.inr e)))⟩

theorem allocFields_fits_iff (f : AllocFields) : AllocFields.fits f = true
    ↔ ¬ ∃ v, (f.g = some v ∨ f.p = some v ∨ f.m = some v ∨ f.inbound = some v) ∧ 120 < v :=
  all_within_iff 120 f.g f.p f.m f.inbound

theorem shareFields_fits_iff (f : ShareFields) : ShareFields.fits f = true
    ↔ ¬ ∃ v, (f.inbound = some v ∨ f.p = some v ∨ f.g = some v ∨ f.m = some v) ∧ 512 < v :=
  all_within_iff 512 f.inbound f.p f.g f.m

theorem setAllocations_running {s : State} (hrun : s.mode = .running) (tag : Byte) (f : AllocFields) :
    s.setAllocations .m tag f = if AllocFields.fits f && decide ((s.pool.realloc f).totalAlloc ≤ 128) then
      State.finish { s with pool := s.pool.realloc f } .m tag 0x09 (s.pool.realloc f).figures
    else s.refuse .m tag 0x09 .limit [] := by
  simp only [State.setAllocations, State.onlyM_of_running hrun]

theorem setShares_running {s : State} (hrun : s.mode = .running) (tag : Byte) (f : ShareFields) :
    s.setShares .m tag f = if ShareFields.fits f && decide ((s.arb.shares.replaced f).sum ≤ 512) then
      State.finish { s with arb := { s.arb with shares := s.arb.shares.replaced f } } .m tag 0x0B []
    else s.refuse .m tag 0x0B .limit [] := by
  simp only [State.setShares, State.onlyM_of_running hrun]

/-- Settles O31: the two LIMIT tests of each command. -/
theorem allocationsAndSharesWriteOrRefuse : Obligations.AllocationsAndSharesWriteOrRefuse := by
  refine ⟨fun s pt tag f ht => ⟨fun hpt => ?_, fun hpt hrun => ?_⟩, ?_, ?_⟩
  · exact exec_of_refuse rfl ht (decision_of_onlyM (h := ⟨pt, tag, 0x09, []⟩) rfl rfl (State.onlyM_of_ne s hpt))
  · subst hpt
    exact exec_of_refuse rfl ht (decision_of_onlyM (h := ⟨.m, tag, 0x09, []⟩) rfl rfl (State.onlyM_of_mode hrun))
  · intro s tag f ht hrun g p m i tooMuch new
    have htest : (AllocFields.fits f && decide ((s.pool.realloc f).totalAlloc ≤ 128)) = true ↔ ¬ tooMuch := by
      rw [Bool.and_eq_true, allocFields_fits_iff, decide_eq_true_iff, not_or, Nat.not_lt]
      exact Iff.rfl
    refine ⟨fun h => exec_of_refuse rfl ht ?_, fun h => exec_of_finish rfl ht ?_⟩
    · exact (setAllocations_running hrun tag f).trans (if_neg fun x => htest.1 x h)
    · exact (setAllocations_running hrun tag f).trans (if_pos (htest.2 h))
  · intro s tag f ht hrun i p g m tooMuch
    have htest : (ShareFields.fits f && decide ((s.arb.shares.replaced f).sum ≤ 512)) = true ↔ ¬ tooMuch := by
      rw [Bool.and_eq_true, shareFields_fits_iff, decide_eq_true_iff, not_or, Nat.not_lt]
      exact Iff.rfl
    refine ⟨fun h => exec_of_refuse rfl ht ?_, fun h => exec_of_finish rfl ht ?_⟩
    · exact (setShares_running hrun tag f).trans (if_neg fun x => htest.1 x h)
    · exact (setShares_running hrun tag f).trans (if_pos (htest.2 h))

/-! ### CLEAR_LATCHES, SET_FAULT_MASK, the fault level (R152, R153, R165) -/

theorem bb_eq (b : Bool) : bb b = [if b then 1 else 0] := by cases b <;> rfl

theorem kindBytes_eq (l : List FaultKind) : kindBytes l = FaultKind.all.map fun k => if k ∈ l then 1 else 0 := by
  simp only [kindBytes, bb_eq, List.contains_iff_mem]
  exact List.flatMap_pure_eq_map ..

theorem maskOf_eq (kinds : List FaultKind) :
    maskOf kinds = FaultKind.all.filter fun k => k ∈ kinds ∧ k.maskable = true :=
  List.filter_congr fun k _ => by simp

theorem unmaskable_eq (kinds : List FaultKind) :
    unmaskable kinds = FaultKind.all.filter fun k => k ∈ kinds ∧ k.maskable = false :=
  List.filter_congr fun k _ => by simp

theorem not_minor_iff (k : FaultKind) : k.severity ≠ .minor ↔ k.severity = .critical ∨ k.severity = .major := by
  cases k <;> decide

/-- The fault level (R165) by the unmasked latches. -/
theorem fault_level_iff (u : FaultUnit) : u.level = true
    ↔ ∃ k ∈ u.latches, (k.severity = .critical ∨ k.severity = .major) ∧ k ∉ u.mask := by
  simp [FaultUnit.level, ← not_minor_iff]

/-- Settles O33: the latches and the mask by membership, and the level by them. -/
theorem latchesMaskAndFaultLevel : Obligations.LatchesMaskAndFaultLevel := by
  refine ⟨?_, fun s => ⟨rfl, fault_level_iff s.fault⟩⟩
  intro s tag kinds ht hrun flags latches mask others
  have hl : (s.fault.latches.filter fun k => !kinds.contains k) = latches := List.filter_congr fun k _ => by simp
  refine ⟨exec_of_finish rfl ht ?_, exec_of_finish rfl ht ?_⟩
  · simp only [decision, State.clearLatches, State.onlyM_of_running hrun, hl, kindBytes_eq]; rfl
  · simp only [decision, State.setFaultMask, State.onlyM_of_running hrun, maskOf_eq, unmaskable_eq, kindBytes_eq]; rfl

/-! ### TAKE_FAULT (R158, R159) -/

theorem takeOldest_taken {q : List FaultRec} (h : ∀ r ∈ q, r.taken = true) (drop : Bool) : takeOldest drop q = none := by
  induction q with
  | nil => rfl
  | cons r q ih =>
    rw [takeOldest, if_pos (h r (by simp)), ih fun x hx => h x (by simp [hx])]
    rfl

theorem takeOldest_append {before : List FaultRec} {r : FaultRec} (hb : ∀ x ∈ before, x.taken = true)
    (hr : r.taken = false) (drop : Bool) (after : List FaultRec) : takeOldest drop (before ++ r :: after)
      = some ({ r with taken := true },
          before ++ if r.sent || drop then after else { r with taken := true } :: after) := by
  induction before with
  | nil => simp [takeOldest, hr]
  | cons x before ih =>
    rw [List.cons_append, takeOldest, if_pos (hb x (by simp)), ih fun y hy => hb y (by simp [hy])]
    rfl

theorem noReport_iff (s : State) : s.noReport = true ↔ s.mode = .safe ∨ s.mode = .lockdown
    ∨ (s.mode = .running ∧ ((s.chan 0).state = .closed ∨ (s.chan 0).state = .booting)) := by
  simp [State.noReport, or_assoc]

theorem takeFault_of_taken {s : State} {r : FaultRec} {q : List FaultRec} (tag : Byte)
    (h : takeOldest s.noReport s.fault.queue = some (r, q)) : s.takeFault .m tag =
      State.finish { s with fault := { s.fault with
        queue := q, lost := if !r.sent && s.noReport then satIncr s.fault.lost else s.fault.lost } } .m tag 0x13
      (r.bytes false ++ FaultUnit.counts { s.fault with
        queue := q, lost := if !r.sent && s.noReport then satIncr s.fault.lost else s.fault.lost }) := by
  simp only [State.takeFault, h, ne_eq, not_true, if_false]

/-- Settles O35: the oldest untaken record, and whether it stays. -/
theorem takeFaultTakesTheOldest : Obligations.TakeFaultTakesTheOldest := by
  intro s tag ht
  refine ⟨fun h => exec_of_finish rfl ht ?_, ?_⟩
  · simp only [decision, State.takeFault, takeOldest_taken h, ne_eq, not_true, if_false]
  intro before r after hq hb hr silent
  have htake := takeOldest_append hb hr s.noReport after
  rw [← hq] at htake
  have hsilent : s.noReport = true ↔ silent := noReport_iff s
  have hdone := takeFault_of_taken tag htake
  refine ⟨fun ⟨hsent, hno⟩ => exec_of_finish rfl ht (hdone.trans ?_), fun hsent => exec_of_finish rfl ht (hdone.trans ?_),
    fun ⟨hsent, hyes⟩ => exec_of_finish rfl ht (hdone.trans ?_)⟩
  · have hno : s.noReport = false := by simpa using fun x => hno (hsilent.1 x)
    simp only [hsent, hno, Bool.or_self, Bool.false_eq_true, if_false, Bool.and_false]
  · simp only [hsent, Bool.true_or, if_true, Bool.not_true, Bool.false_and, Bool.false_eq_true, if_false]
  · simp only [hsent, hsilent.2 hyes, Bool.or_true, if_true, Bool.not_false, Bool.and_true]
    rfl

end Sys2Proof.Proofs

/-! The obligations on the fault unit: what a report carries and what a raise leaves. -/

namespace Sys2Proof.Proofs
open Sys2Proof.Machine

/-! ### Messages that the part builds (R73, R111) -/

/-- The part after a control message has been built on a lent buffer (R111). -/
def built (s : State) (kind : Kind) (payload : List Byte) : State :=
  { s with
    srcControl := { s.srcControl with
      fifo := s.srcControl.fifo
        ++ [⟨.control, kind, 0, 0, 0, false, s.srcControl.nextSub, payload, none, none, none⟩]
      nextSub := s.srcControl.nextSub + 1 }
    pool := { s.pool with heldControl := s.pool.heldControl + 1, free := s.pool.free - 1 } }

theorem build?_lent {s : State} (h : s.pool.heldControl < 8 ∧ 0 < s.pool.free) (kind : Kind) (payload : List Byte) :
    s.build? kind payload = some (built s kind payload) := by
  rw [State.build?, takeBuf_of_room (h := .control) h.1 h.2]
  rfl

theorem build?_unlent {s : State} (h : ¬ (s.pool.heldControl < 8 ∧ 0 < s.pool.free)) (kind : Kind)
    (payload : List Byte) : s.build? kind payload = none := by
  rw [State.build?, takeBuf_eq_none (h := .control) h]
  rfl

theorem build_lent {s : State} (h : s.pool.heldControl < 8 ∧ 0 < s.pool.free) (kind : Kind) (payload : List Byte) :
    s.build kind payload = built s kind payload := by rw [State.build, build?_lent h]; rfl

theorem build_unlent {s : State} (h : ¬ (s.pool.heldControl < 8 ∧ 0 < s.pool.free)) (kind : Kind)
    (payload : List Byte) : s.build kind payload = s := by rw [State.build, build?_unlent h]; rfl

/-! ### Reports (R161 to R163) -/

theorem reportRecords_eq (q : List FaultRec) : reportRecords q = (q.filter fun r => r.sent = false).take 8 :=
  congrArg (List.take 8) (List.filter_congr fun r _ => by cases r.sent <;> rfl)

/-- A mark changes nothing but the place in the report. -/
theorem unmarked_markReport (n : Nat) (q : List FaultRec) :
    ((markReport n q).map fun r => { r with inReport := false }) = q.map fun r => { r with inReport := false } := by
  induction q generalizing n with
  | nil => cases n <;> rfl
  | cons r q ih =>
    cases n with
    | zero => rfl
    | succ n =>
      rw [markReport]
      split
      · simp only [List.map_cons, ih]
      · simp only [List.map_cons, ih]

/-- The marked records are the first unsent ones (R161). -/
theorem marked_markReport (n : Nat) {q : List FaultRec} (h : ∀ r ∈ q, r.inReport = false) :
    ((markReport n q).filter fun r => r.inReport)
      = ((q.filter fun r => r.sent = false).take n).map fun r => { r with inReport := true } := by
  have hnone {l : List FaultRec} (h : ∀ r ∈ l, r.inReport = false) : (l.filter fun r => r.inReport) = [] :=
    List.filter_eq_nil_iff.2 fun r hr => by simp [h r hr]
  induction q generalizing n with
  | nil => cases n <;> rfl
  | cons r q ih =>
    have hq : ∀ x ∈ q, x.inReport = false := fun x hx => h x (by simp [hx])
    cases n with
    | zero => exact hnone h
    | succ n =>
      rw [markReport]
      cases hs : r.sent with
      | true => simp [hs, h r (by simp), ih (n + 1) hq]
      | false => simp [hs, ih n hq]

/-- The part after its report has been built (R161). -/
def reported (s : State) : State :=
  { built s .faultReport (faultReportPayload (reportRecords s.fault.queue) s.fault.dropped s.fault.lost) with
    fault := { s.fault with
      queue := markReport 8 s.fault.queue
      report := some ⟨s.fault.dropped, s.fault.lost⟩ } }

theorem buildReport_eq (s : State) : s.buildReport
    = if s.pool.heldControl < 8 ∧ 0 < s.pool.free then reported s else s := by
  unfold State.buildReport
  split_ifs with h
  · rw [build?_lent h]; rfl
  · rw [build?_unlent h]

theorem mayReport_iff (s : State) : s.mayReport = true
    ↔ (s.chan 0).state = .live ∧ s.fault.report = none ∧ ∃ r ∈ s.fault.queue, r.sent = false := by
  simp [State.mayReport, and_assoc]

theorem unsentCritical_iff (u : FaultUnit) : u.unsentCritical = true
    ↔ ∃ r ∈ u.queue, r.sent = false ∧ r.kind.severity = .critical := by
  simp [FaultUnit.unsentCritical]

/-- The report test (R162) as one condition. -/
theorem reportTest_eq (s : State) (atDeadline : Bool) : s.reportTest atDeadline
    = if (s.mayReport = true ∧ (atDeadline = true ∨ s.fault.unsentCritical = true))
        ∧ s.pool.heldControl < 8 ∧ 0 < s.pool.free then reported s else s := by
  have hb : (s.mayReport && (atDeadline || s.fault.unsentCritical)) = true
      ↔ s.mayReport = true ∧ (atDeadline = true ∨ s.fault.unsentCritical = true) := by simp
  unfold State.reportTest
  by_cases h : s.mayReport = true ∧ (atDeadline = true ∨ s.fault.unsentCritical = true)
  · rw [if_pos (hb.2 h), buildReport_eq]
    simp only [h, true_and]
  · rw [if_neg fun x => h (hb.1 x), if_neg fun x => h x.1]

/-- The fault unit after the outcome of its report (R163), before the report test. -/
def FaultUnit.answered (u : FaultUnit) (rep : Report) (sent : Bool) : FaultUnit :=
  if sent then { u with
    queue := (u.queue.map fun r =>
      if r.inReport then { r with sent := true, inReport := false } else r).filter fun r => ¬ (r.sent ∧ r.taken)
    dropped := u.dropped - rep.dropped, lost := u.lost - rep.lost, report := none }
  else { u with queue := u.queue.map fun r => { r with inReport := false }, report := none }

theorem reportOutcome_of_report {s : State} {rep : Report} (h : s.fault.report = some rep) (sent : Bool) :
    s.reportOutcome sent = State.reportTest { s with fault := FaultUnit.answered s.fault rep sent } false := by
  have hf (l : List FaultRec) : (l.filter fun r => !(r.sent && r.taken)) = l.filter fun r => ¬ (r.sent ∧ r.taken) :=
    List.filter_congr fun r _ => by cases r.sent <;> cases r.taken <;> rfl
  cases sent
  · simp only [State.reportOutcome, h, FaultUnit.answered]; rfl
  · simp only [State.reportOutcome, h, FaultUnit.answered, if_true, hf]

/-- No record is in the report once its outcome is there. -/
theorem inReport_answered (u : FaultUnit) (rep : Report) (sent : Bool) :
    ∀ r ∈ (FaultUnit.answered u rep sent).queue, r.inReport = false := by
  intro r hr
  cases sent
  · obtain ⟨x, -, rfl⟩ := List.mem_map.1 hr
    rfl
  · obtain ⟨x, -, rfl⟩ := List.mem_map.1 (List.mem_filter.1 hr).1
    cases hx : x.inReport
    · simpa using hx
    · simp

theorem unmarked_eq_self {q : List FaultRec} (h : ∀ r ∈ q, r.inReport = false) :
    (q.map fun r => { r with inReport := false }) = q := by
  refine (List.map_congr_left fun r hr => ?_).trans (List.map_id q)
  have := h r hr
  obtain ⟨_, _, _, _, _, _, _, _, _, _⟩ := r
  cases this
  rfl

/-- Settles O36: the report test after the new deadline, and after the outcome. -/
theorem reportsCarryUnsentRecords : Obligations.ReportsCarryUnsentRecords := by
  refine ⟨?_, ?_⟩
  · intro s d hd hle unsent
    have hdue : s.reached s.fault.deadline = true := by simpa [State.reached, hd] using hle
    have hexec : exec .reportDeadline s = .next s.reportEnds.rest := if_pos hdue
    have hends := reportTest_eq { s with fault := { s.fault with deadline := some (s.uptime + s.settings.reportInterval) } }
      true
    have hunsent : unsent ≠ [] ↔ ∃ r ∈ s.fault.queue, r.sent = false := by
      simp [unsent, List.filter_eq_nil_iff]
    refine ⟨fun h => ?_, fun hlive hrep hne hheld hfree hmarks => ?_⟩
    · rw [hexec, State.reportEnds, hends, if_neg]
      rintro ⟨⟨hmay, -⟩, hheld, hfree⟩
      obtain ⟨hlive, hrep, hsome⟩ := (mayReport_iff _).1 hmay
      rcases h with h | h | h | h | h
      · exact h hlive
      · exact h hrep
      · exact hunsent.2 hsome h
      · exact absurd hheld (Nat.not_lt.2 h)
      · exact absurd h (Nat.pos_iff_ne_zero.1 hfree)
    · rw [if_pos ⟨⟨(mayReport_iff _).2 ⟨hlive, hrep, hunsent.1 hne⟩, .inl rfl⟩, hheld, hfree⟩] at hends
      refine ⟨_, hexec.trans (congrArg _ (congrArg State.rest hends)), rfl, rfl, marked_markReport 8 hmarks,
        (unmarked_markReport 8 _).trans (unmarked_eq_self hmarks), ?_, rfl, rfl⟩
      rw [← reportRecords_eq]
      rfl
  · intro s rep ok hrep u pressing lent t
    have hu : FaultUnit.answered s.fault rep ok = u := rfl
    have ht : t = _ := (reportOutcome_of_report hrep ok).trans (reportTest_eq _ false)
    rw [hu] at ht
    have hnone : u.report = none := by cases ok <;> rfl
    have hmarks : ∀ r ∈ u.queue, r.inReport = false := inReport_answered s.fault rep ok
    have hmay : State.mayReport { s with fault := u } = true ∧ (false = true ∨ u.unsentCritical = true)
        ↔ (s.chan 0).state = .live ∧ pressing := by
      rw [mayReport_iff, unsentCritical_iff]
      constructor
      · rintro ⟨⟨hlive, -, -⟩, h | h⟩
        · cases h
        · exact ⟨hlive, h⟩
      · rintro ⟨hlive, r, hr, hs, hk⟩
        exact ⟨⟨hlive, hnone, r, hr, hs⟩, .inr ⟨r, hr, hs, hk⟩⟩
    refine ⟨fun h => ?_, fun hlive hpress hlent => ?_⟩
    · rw [ht, if_neg]
      rintro ⟨hm, hl⟩
      obtain ⟨hlive, hp⟩ := hmay.1 hm
      rcases h with h | h | h
      exacts [h hlive, h hp, h hl]
    · rw [if_pos ⟨hmay.2 ⟨hlive, hpress⟩, hlent⟩] at ht
      rw [ht, ← reportRecords_eq]
      exact ⟨rfl, (unmarked_markReport 8 _).trans (unmarked_eq_self hmarks),
        (marked_markReport 8 hmarks).trans (by rw [reportRecords_eq]), rfl, rfl⟩

end Sys2Proof.Proofs

/-! What a raise does (R152 to R157): the latch, the record it coalesces with, and the room it makes. -/

namespace Sys2Proof.Proofs

open Sys2Proof.Machine

theorem severity_of_code {a b : Severity} (h : a.code = b.code) : a = b := by
  cases a <;> cases b <;> first | rfl | cases h

theorem removeFirst_append {p : FaultRec → Bool} {before : List FaultRec} {r : FaultRec} (after : List FaultRec)
    (hb : ∀ x ∈ before, p x = false) (hr : p r = true) : removeFirst p (before ++ r :: after) = before ++ after := by
  induction before with
  | nil => exact if_pos hr
  | cons x before ih =>
    rw [List.cons_append, removeFirst, if_neg (by simp [hb x (by simp)]), ih fun y hy => hb y (by simp [hy])]
    rfl

theorem find?_append_cons {p : FaultRec → Bool} {before : List FaultRec} {r : FaultRec} (after : List FaultRec)
    (hb : ∀ x ∈ before, p x = false) (hr : p r = true) : (before ++ r :: after).find? p = some r := by
  rw [List.find?_append, List.find?_eq_none.2 fun x hx => by simp [hb x hx]]
  simp [hr]

/-- The lowest severity is the bound of the codes (R156). -/
theorem lowestSeverity_le {q : List FaultRec} {n : Nat} : lowestSeverity q ≤ n ↔ ∀ x ∈ q, x.kind.severity.code ≤ n := by
  have hfold (l : List Nat) (a : Nat) : l.foldl max a ≤ n ↔ a ≤ n ∧ ∀ x ∈ l, x ≤ n := by
    induction l generalizing a with
    | nil => simp
    | cons x l ih => rw [List.foldl_cons, ih]; simp [and_assoc]
  rw [lowestSeverity, hfold]
  simp

theorem lowestSeverity_eq {q : List FaultRec} {r : FaultRec} (hr : r ∈ q)
    (h : ∀ x ∈ q, x.kind.severity.code ≤ r.kind.severity.code) : lowestSeverity q = r.kind.severity.code :=
  Nat.le_antisymm (lowestSeverity_le.2 h) (lowestSeverity_le.1 (Nat.le_refl _) r hr)

theorem any_taken_unsent (q : List FaultRec) :
    (q.any fun r => r.taken && !r.sent) = true ↔ ∃ x ∈ q, x.taken = true ∧ x.sent = false := by simp

/-- Room made by the oldest record that is taken and unsent (R156). -/
theorem makeRoom_of_taken {u : FaultUnit} {before : List FaultRec} {r : FaultRec} {after : List FaultRec}
    (sev : Severity) (hq : u.queue = before ++ r :: after) (ht : r.taken = true) (hs : r.sent = false)
    (hb : ∀ x ∈ before, ¬ (x.taken = true ∧ x.sent = false)) :
    u.makeRoom sev = some { u with queue := before ++ after, lost := satIncr u.lost } := by
  have hany : (u.queue.any fun r => r.taken && !r.sent) = true := (any_taken_unsent _).2 ⟨r, by simp [hq], ht, hs⟩
  rw [FaultUnit.makeRoom, if_pos hany, hq, removeFirst_append _ (fun x hx => by simpa using hb x hx) (by simp [ht, hs])]

/-- Room made by the oldest record of the lowest severity, for a higher one (R156). -/
theorem makeRoom_of_lowest {u : FaultUnit} {before : List FaultRec} {r : FaultRec} {after : List FaultRec}
    {sev : Severity} (hq : u.queue = before ++ r :: after) (hn : ∀ x ∈ u.queue, ¬ (x.taken = true ∧ x.sent = false))
    (hlow : ∀ x ∈ u.queue, x.kind.severity.code ≤ r.kind.severity.code)
    (hb : ∀ x ∈ before, x.kind.severity ≠ r.kind.severity) (hsev : sev.code < r.kind.severity.code) :
    u.makeRoom sev
      = some { u with queue := before ++ after, lost := if r.sent then u.lost else satIncr u.lost } := by
  have hlow := lowestSeverity_eq (by simp [hq]) hlow
  have hb' : ∀ x ∈ before, (x.kind.severity.code == r.kind.severity.code) = false := fun x hx =>
    beq_false_of_ne fun h => hb x hx (severity_of_code h)
  have hfind := find?_append_cons (p := fun x => x.kind.severity.code == r.kind.severity.code) (r := r) after hb' (by simp)
  rw [FaultUnit.makeRoom, if_neg fun h => by
    obtain ⟨x, hx, h⟩ := (any_taken_unsent _).1 h
    exact hn x hx h]
  simp only [hlow, if_pos hsev]
  rw [hq]
  simp only [hfind,
    removeFirst_append (p := fun x => x.kind.severity.code == r.kind.severity.code) (r := r) after hb' (by simp)]

/-- No room for a record that is no higher than the lowest (R156). -/
theorem makeRoom_none {u : FaultUnit} {sev : Severity} (hn : ∀ x ∈ u.queue, ¬ (x.taken = true ∧ x.sent = false))
    (hlow : ∀ x ∈ u.queue, x.kind.severity.code ≤ sev.code) : u.makeRoom sev = none := by
  rw [FaultUnit.makeRoom, if_neg fun h => by
    obtain ⟨x, hx, h⟩ := (any_taken_unsent _).1 h
    exact hn x hx h]
  exact if_neg (Nat.not_lt.2 (lowestSeverity_le.2 hlow))

theorem mem_latched (u : FaultUnit) (k j : FaultKind) : j ∈ (u.latched k).latches ↔ j ∈ u.latches ∨ j = k := by
  unfold FaultUnit.latched
  split
  next h =>
    have hk : k ∈ u.latches := List.contains_iff_mem.1 h
    exact ⟨.inl, fun h => h.elim id fun e => e ▸ hk⟩
  · simp

theorem latched_eq (u : FaultUnit) (k : FaultKind) : u.latched k = { u with latches := (u.latched k).latches } := by
  unfold FaultUnit.latched
  split <;> rfl

theorem coalesces_iff (r : FaultRec) (k : FaultKind) (c : Option ChanId) (w : Option Trunk) :
    r.coalesces k c w = true ↔ r.taken = false ∧ r.kind = k ∧ r.chan = c ∧ r.trunk = w := by
  simp [FaultRec.coalesces, and_assoc]

/-- A state whose fault unit took the raise's record at the end of the records that were kept (R155). -/
def queued (s : State) (u : FaultUnit) (r : FaultRec) : State :=
  State.latchFault { s with fault := { u with queue := u.queue ++ [r] } }

theorem appendRecord_of_room {s : State} {r : FaultRec} {u : FaultUnit}
    (h : (if s.fault.queue.length < 32 then some s.fault else s.fault.makeRoom r.kind.severity) = some u) :
    s.appendRecord r = if r.kind.severity = .critical then (queued s u r).reportTest false else queued s u r := by
  simp only [State.appendRecord, h, beq_iff_eq, queued]

theorem appendRecord_of_none {s : State} {r : FaultRec}
    (h : (if s.fault.queue.length < 32 then some s.fault else s.fault.makeRoom r.kind.severity) = none) :
    s.appendRecord r = { s with fault := { s.fault with dropped := satIncr s.fault.dropped } } := by
  simp only [State.appendRecord, h]

/-- What a new record leaves of a raise, beside the records kept and the count of lost ones (R155, R156, R162). -/
def Joins (s t : State) (k : FaultKind) (new : FaultRec) (kept : List FaultRec) (lost : Nat) : Prop :=
  let lent := s.pool.heldControl < 8 ∧ 0 < s.pool.free
  let quiet := k.severity ≠ .critical ∨ (s.chan 0).state ≠ .live ∨ s.fault.report ≠ none ∨ ¬ lent
  t.portM.latches.fault = true ∧ t.fault.lost = lost ∧ t.fault.dropped = s.fault.dropped
    ∧ (quiet → t.fault.queue = kept ++ [new] ∧ t.fault.report = s.fault.report)
    ∧ (¬ quiet → t.fault.report = some ⟨s.fault.dropped, lost⟩
      ∧ (t.fault.queue.map fun r => { r with inReport := false })
          = (kept ++ [new]).map (fun r => { r with inReport := false })
      ∧ t.srcControl = { s.srcControl with
          fifo := s.srcControl.fifo ++ [⟨.control, .faultReport, 0, 0, 0, false, s.srcControl.nextSub,
            faultReportPayload (((kept ++ [new]).filter fun r => r.sent = false).take 8) s.fault.dropped lost,
            none, none, none⟩]
          nextSub := s.srcControl.nextSub + 1 })

/-- A raise whose record finds or makes room. -/
theorem joins_of_room {s : State} {latches : List FaultKind} {new : FaultRec} {kept : List FaultRec} {lost : Nat}
    (hnew : new.sent = false)
    (h : (if s.fault.queue.length < 32 then some { s.fault with latches := latches }
        else FaultUnit.makeRoom { s.fault with latches := latches } new.kind.severity)
      = some { s.fault with latches := latches, queue := kept, lost := lost }) :
    Joins s (State.appendRecord { s with fault := { s.fault with latches := latches } } new) new.kind new kept lost := by
  rw [appendRecord_of_room h]
  generalize hu : ({ s.fault with latches := latches, queue := kept, lost := lost } : FaultUnit) = u
  have hq : (queued { s with fault := { s.fault with latches := latches } } u new).fault
      = { s.fault with latches := latches, queue := kept ++ [new], lost := lost } := by rw [← hu]; rfl
  by_cases hc : new.kind.severity = .critical
  · have hcond : State.mayReport (queued { s with fault := { s.fault with latches := latches } } u new) = true
          ∧ (false = true ∨ FaultUnit.unsentCritical
            (queued { s with fault := { s.fault with latches := latches } } u new).fault = true)
        ↔ (s.chan 0).state = .live ∧ s.fault.report = none := by
      rw [mayReport_iff, unsentCritical_iff, hq]
      constructor
      · rintro ⟨⟨hlive, hrep, -⟩, -⟩
        exact ⟨hlive, hrep⟩
      · rintro ⟨hlive, hrep⟩
        exact ⟨⟨hlive, hrep, new, by simp, hnew⟩, .inr ⟨new, by simp, hnew, hc⟩⟩
    rw [if_pos hc, reportTest_eq]
    by_cases hr : ((s.chan 0).state = .live ∧ s.fault.report = none) ∧ s.pool.heldControl < 8 ∧ 0 < s.pool.free
    · rw [if_pos ⟨hcond.2 hr.1, hr.2⟩, reported, hq]
      refine ⟨rfl, rfl, rfl, fun hquiet => ?_, fun _ => ⟨rfl, unmarked_markReport 8 _, ?_⟩⟩
      · rcases hquiet with h | h | h | h
        exacts [absurd hc h, absurd hr.1.1 h, absurd hr.1.2 h, absurd hr.2 h]
      · rw [← reportRecords_eq]
        rfl
    · rw [if_neg fun h => hr ⟨hcond.1 h.1, h.2⟩]
      refine ⟨rfl, by rw [hq], by rw [hq], fun _ => by rw [hq]; exact ⟨rfl, rfl⟩, fun hquiet => ?_⟩
      simp only [not_or, not_not] at hquiet
      exact absurd ⟨⟨hquiet.2.1, hquiet.2.2.1⟩, hquiet.2.2.2⟩ hr
  · rw [if_neg hc]
    exact ⟨rfl, by rw [hq], by rw [hq], fun _ => by rw [hq]; exact ⟨rfl, rfl⟩, fun hquiet => absurd (.inl hc) hquiet⟩

/-- A masked raise sets only the latch (R153). -/
theorem raise_of_masked {s : State} {k : FaultKind} (h : k ∈ s.fault.mask) (c : Option ChanId) (w : Option Trunk)
    (pt : Option Port) : s.raise k c w pt = { s with fault := { s.fault with latches := (s.fault.latched k).latches } } := by
  rw [State.raise, latched_eq]
  exact if_pos (List.contains_iff_mem.2 h)

theorem raise_of_coalesces {s : State} {k : FaultKind} {c : Option ChanId} {w : Option Trunk} (hm : k ∉ s.fault.mask)
    (h : ∃ r ∈ s.fault.queue, r.taken = false ∧ r.kind = k ∧ r.chan = c ∧ r.trunk = w) (pt : Option Port) :
    s.raise k c w pt = { s with fault := { s.fault with
      latches := (s.fault.latched k).latches, queue := (s.fault.coalesce k c w s.uptime).queue } } := by
  have hany : (s.fault.queue.any fun r => r.coalesces k c w) = true := by
    obtain ⟨r, hr, h⟩ := h
    exact List.any_eq_true.2 ⟨r, hr, (coalesces_iff r k c w).2 h⟩
  rw [State.raise, latched_eq]
  exact (if_neg fun h => hm (List.contains_iff_mem.1 h)).trans (if_pos hany)

theorem raise_of_new {s : State} {k : FaultKind} {c : Option ChanId} {w : Option Trunk} (hm : k ∉ s.fault.mask)
    (h : ∀ r ∈ s.fault.queue, ¬ (r.taken = false ∧ r.kind = k ∧ r.chan = c ∧ r.trunk = w)) (pt : Option Port) :
    s.raise k c w pt = State.appendRecord { s with fault := { s.fault with latches := (s.fault.latched k).latches } }
      (.made k c w pt s.uptime) := by
  have hany : ¬ (s.fault.queue.any fun r => r.coalesces k c w) = true := fun hx => by
    obtain ⟨r, hr, hx⟩ := List.any_eq_true.1 hx
    exact h r hr ((coalesces_iff r k c w).1 hx)
  rw [State.raise, latched_eq]
  exact (if_neg fun h => hm (List.contains_iff_mem.1 h)).trans (if_neg hany)

@[simp] theorem latches_reportTest (s : State) (b : Bool) : (s.reportTest b).fault.latches = s.fault.latches := by
  rw [reportTest_eq]
  split <;> rfl

@[simp] theorem mask_reportTest (s : State) (b : Bool) : (s.reportTest b).fault.mask = s.fault.mask := by
  rw [reportTest_eq]
  split <;> rfl

/-- Making room changes the queue and the count of lost records only (R156). -/
theorem makeRoom_eq {u v : FaultUnit} {sev : Severity} (h : u.makeRoom sev = some v) :
    v = { u with queue := v.queue, lost := v.lost } := by
  unfold FaultUnit.makeRoom at h
  split at h
  · cases h
    rfl
  · simp only at h
    split at h
    · split at h <;> cases h
      rfl
    · cases h

theorem flags_appendRecord (s : State) (r : FaultRec) : (s.appendRecord r).fault.latches = s.fault.latches
    ∧ (s.appendRecord r).fault.mask = s.fault.mask := by
  cases h : (if s.fault.queue.length < 32 then some s.fault else s.fault.makeRoom r.kind.severity) with
  | none => rw [appendRecord_of_none h]; exact ⟨rfl, rfl⟩
  | some u =>
    have hu : u.latches = s.fault.latches ∧ u.mask = s.fault.mask := by
      split at h
      · cases h
        exact ⟨rfl, rfl⟩
      · rw [makeRoom_eq h]
        exact ⟨rfl, rfl⟩
    rw [appendRecord_of_room h]
    split
    · rw [latches_reportTest, mask_reportTest]
      exact hu
    · exact hu

/-- A raise sets the latch of its kind, and leaves every other latch and the mask (R152). -/
theorem flags_raise (s : State) (k : FaultKind) (c : Option ChanId) (w : Option Trunk) (pt : Option Port) :
    (s.raise k c w pt).fault.latches = (s.fault.latched k).latches ∧ (s.raise k c w pt).fault.mask = s.fault.mask := by
  by_cases hm : k ∈ s.fault.mask
  · rw [raise_of_masked hm]
    exact ⟨rfl, rfl⟩
  · by_cases h : ∃ r ∈ s.fault.queue, r.taken = false ∧ r.kind = k ∧ r.chan = c ∧ r.trunk = w
    · rw [raise_of_coalesces hm h]
      exact ⟨rfl, rfl⟩
    · rw [raise_of_new hm fun r hr hx => h ⟨r, hr, hx⟩]
      exact flags_appendRecord _ _

theorem mem_latches_raise (s : State) (k : FaultKind) (c : Option ChanId) (w : Option Trunk) (pt : Option Port)
    (j : FaultKind) : j ∈ (s.raise k c w pt).fault.latches ↔ j ∈ s.fault.latches ∨ j = k := by
  rw [(flags_raise s k c w pt).1, mem_latched]

/-- Settles O34, by the three cases of a raise: masked, coalescing, and a new record with its room. -/
theorem raiseLatchesAndCoalescesOrAppends : Obligations.RaiseLatchesAndCoalescesOrAppends := by
  intro s k c w pt t same new lent quiet up joins
  have hnew : k ∉ s.fault.mask → (∀ r ∈ s.fault.queue, ¬ same r) →
      t = State.appendRecord { s with fault := { s.fault with latches := (s.fault.latched k).latches } } new :=
    fun hm h => raise_of_new hm h pt
  have hroom (kept : List FaultRec) (lost : Nat) (hm : k ∉ s.fault.mask) (h : ∀ r ∈ s.fault.queue, ¬ same r)
      (hr : (if s.fault.queue.length < 32 then some { s.fault with latches := (s.fault.latched k).latches }
          else FaultUnit.makeRoom { s.fault with latches := (s.fault.latched k).latches } k.severity)
        = some { s.fault with latches := (s.fault.latched k).latches, queue := kept, lost := lost }) :
      joins kept lost := by
    have := joins_of_room (new := new) rfl hr
    rw [← hnew hm h] at this
    exact this
  refine ⟨mem_latches_raise s k c w pt, (flags_raise s k c w pt).2, fun hm => ?_, fun hm hex => ?_, fun hm hno => ⟨fun hlen => ?_, ?_, ?_, ?_⟩⟩
  · have ht : t = _ := raise_of_masked hm c w pt
    rw [ht]
    exact ⟨rfl, rfl⟩
  · have ht : t = _ := raise_of_coalesces hm hex pt
    rw [ht]
    refine ⟨List.length_map _, rfl, fun i r hi hr => ?_, fun i r hi hr => ?_⟩
    · exact (List.getElem?_map ..).trans (by rw [hi]; exact congrArg some (if_neg fun h => hr ((coalesces_iff ..).1 h)))
    · exact (List.getElem?_map ..).trans (by rw [hi]; exact congrArg some (if_pos ((coalesces_iff ..).2 hr)))
  · exact hroom _ _ hm hno (if_pos hlen)
  · intro before r after hlen hq ht hs hb
    exact hroom _ _ hm hno ((if_neg (Nat.not_lt.2 hlen)).trans (makeRoom_of_taken _ hq ht hs hb))
  · intro before r after hlen hq hn hlow hb hsev
    exact hroom _ _ hm hno ((if_neg (Nat.not_lt.2 hlen)).trans (makeRoom_of_lowest hq hn hlow hb hsev))
  · intro hlen hn hlow
    have ht := (hnew hm hno).trans
      (appendRecord_of_none ((if_neg (Nat.not_lt.2 hlen)).trans (makeRoom_none hn hlow)))
    rw [ht]
    exact ⟨rfl, rfl, rfl, rfl⟩

end Sys2Proof.Proofs

/-! What outcomes of outbound frames leave at the ports (R59), and what a trunk's records keep: the rules on which the
obligations about lost, discarded and moved frames rest. -/

namespace Sys2Proof.Proofs
open Sys2Proof.Machine

/-! ### Outcomes of a list of frames (R59) -/

/-- The frames of a port. -/
abbrev framesOf (l : List Frame) (pt : Port) : List Frame := l.filter fun f => f.src = pt.src

/-- The completion of a SEND with its result (R59, R194). -/
abbrev sendRecord (res : Result) (f : Frame) : Completion := ⟨f.cmdTag, 0x01, res, sendData f.loc f.bound⟩

/-- `t` is `s` after the frames of `l` have had the outcome `res`, as the ports see it. -/
structure Answered (res : Result) (l : List Frame) (s t : State) : Prop where
  completions : ∀ pt, (t.port pt).completions = (s.port pt).completions
    ++ (l.filter fun f => f.src = pt.src ∧ f.marked = false).map (sendRecord res)
  outstanding : ∀ pt, (t.port pt).outstanding = (s.port pt).outstanding - (framesOf l pt).length
  marks : ∀ pt, (t.port pt).marks = (s.port pt).marks - ((framesOf l pt).filter fun f => f.marked).length
  held : ∀ pt : Port, t.pool.held pt.holder = s.pool.held pt.holder - (framesOf l pt).length
  inbound : t.pool.heldInbound = s.pool.heldInbound
  enables : ∀ pt, (t.port pt).enables = (s.port pt).enables
  channel : ∀ pt, (s.port pt).latches.channel = true → (t.port pt).latches.channel = true

theorem Answered.refl (res : Result) (s : State) : Answered res [] s s :=
  ⟨fun _ => (List.append_nil _).symm, fun _ => rfl, fun _ => rfl, fun _ => rfl, rfl, fun _ => rfl, fun _ => id⟩

theorem Answered.trans {res : Result} {l m : List Frame} {s t u : State} (h : Answered res l s t)
    (k : Answered res m t u) : Answered res (l ++ m) s u where
  completions pt := by simp [k.completions, h.completions, List.filter_append]
  outstanding pt := by rw [k.outstanding, h.outstanding]; simp [List.filter_append, Nat.sub_sub]
  marks pt := by rw [k.marks, h.marks]; simp [List.filter_append, Nat.sub_sub]
  held pt := by rw [k.held, h.held]; simp [List.filter_append, Nat.sub_sub]
  inbound := k.inbound.trans h.inbound
  enables pt := (k.enables pt).trans (h.enables pt)
  channel pt x := k.channel pt (h.channel pt x)

/-- What the ports see of an operation on the fault unit: nothing but port M's FAULT latch. -/
theorem Answered.of_ports {res : Result} {s t : State}
    (hport : ∀ pt, t.port pt = { s.port pt with latches := { (s.port pt).latches with
      fault := (t.port pt).latches.fault } })
    (hpool : ∀ h : Holder, h ≠ .control → t.pool.held h = s.pool.held h) : Answered res [] s t where
  completions pt := by rw [hport pt]; simp
  outstanding pt := by rw [hport pt]; rfl
  marks pt := by rw [hport pt]; rfl
  held pt := by rw [hpool pt.holder (by cases pt <;> nofun)]; rfl
  inbound := hpool .inbound nofun
  enables pt := by rw [hport pt]
  channel pt h := by rw [hport pt]; exact h

theorem answered_reportTest (res : Result) (s : State) (b : Bool) : Answered res [] s (s.reportTest b) := by
  rw [reportTest_eq]
  split
  · exact .of_ports (fun pt => by cases pt <;> rfl) fun h hh => by cases h <;> first | rfl | exact absurd rfl hh
  · exact .refl res s

theorem answered_reportOutcome (res : Result) (s : State) (sent : Bool) : Answered res [] s (s.reportOutcome sent) := by
  cases h : s.fault.report with
  | none => simp only [State.reportOutcome, h]; exact .refl res s
  | some rep =>
    rw [reportOutcome_of_report h]
    have hanswered : Answered res [] s { s with fault := FaultUnit.answered s.fault rep sent } :=
      .of_ports (fun pt => by cases pt <;> rfl) fun _ _ => rfl
    exact hanswered.trans (answered_reportTest res _ false)

theorem held_giveBuf (s : State) (h k : Holder) :
    (s.giveBuf h).pool.held k = if k = h then s.pool.held k - 1 else s.pool.held k := by
  simp only [State.giveBuf, Pool.give]
  by_cases hp : 0 < s.pool.held h
  · rw [if_pos hp]
    cases h <;> cases k <;> rfl
  · rw [if_neg hp]
    split
    next e => subst e; omega
    next => rfl

theorem answered_giveControl (res : Result) (s : State) : Answered res [] s (s.giveBuf .control) :=
  .of_ports (fun pt => by cases pt <;> rfl) fun h hh => by rw [held_giveBuf, if_neg hh]

theorem port_complete (s : State) (pt q : Port) (c : Completion) (outstanding marked : Bool) :
    (s.complete pt c outstanding marked).port q = if q = pt then
      { s.port pt with
        outstanding := if outstanding then (s.port pt).outstanding - 1 else (s.port pt).outstanding
        marks := if marked then (s.port pt).marks - 1 else (s.port pt).marks
        completions := if marked then (s.port pt).completions else (s.port pt).completions ++ [c]
        latches := if marked then (s.port pt).latches else { (s.port pt).latches with completion := true } }
    else s.port q := by
  cases outstanding <;> cases marked <;> cases pt <;> cases q <;> rfl

theorem src_eq_port {f : Frame} {pt : Port} (h : f.src.port = some pt) : f.src = pt.src := by
  cases hf : f.src <;> rw [hf] at h <;> cases h <;> rfl

theorem src_inj {a b : Port} : a.src = b.src ↔ a = b := by cases a <;> cases b <;> simp [Port.src]

theorem answered_outcome (s : State) (f : Frame) (res : Result) : Answered res [f] s (s.outcome f res) := by
  cases hp : f.src.port with
  | none =>
    have hsrc : f.src = .control := by cases hf : f.src <;> rw [hf] at hp <;> first | rfl | cases hp
    have hno : ∀ pt : Port, ¬ f.src = pt.src := fun pt h => by rw [hsrc] at h; cases pt <;> cases h
    have hnil : Answered res [] s (s.outcome f res) := by
      simp only [State.outcome, hp]
      rw [hsrc]
      split
      · exact (answered_giveControl res s).trans (answered_reportOutcome ..)
      · exact answered_giveControl res s
    refine ⟨fun pt => ?_, fun pt => ?_, fun pt => ?_, fun pt => ?_, hnil.inbound, hnil.enables, hnil.channel⟩
    · rw [hnil.completions]; simp [hno]
    · rw [hnil.outstanding]; simp [hno]
    · rw [hnil.marks]; simp [hno]
    · rw [hnil.held]; simp [hno]
  | some pt =>
    have hsrc := src_eq_port hp
    have hout : s.outcome f res = (s.giveBuf pt.holder).complete pt (sendRecord res f) true f.marked := by
      simp only [State.outcome, hp]
      rw [hsrc]
      cases pt <;> rfl
    have hpool : (s.outcome f res).pool = (s.giveBuf pt.holder).pool := by rw [hout]; exact State.modPort_pool ..
    have hport (q : Port) : (s.giveBuf pt.holder).port q = s.port q := by cases q <;> rfl
    refine ⟨fun q => ?_, fun q => ?_, fun q => ?_, fun q => ?_, ?_, fun q => ?_, fun q h => ?_⟩
    · rw [hout, port_complete, hport, hport]
      by_cases hq : q = pt
      · cases hm : f.marked <;> simp [hq, hsrc, hm]
      · simp [hq, hsrc, src_inj, Ne.symm hq]
    · rw [hout, port_complete, hport, hport]
      by_cases hq : q = pt
      · simp [hq, hsrc]
      · simp [hq, hsrc, src_inj, Ne.symm hq]
    · rw [hout, port_complete, hport, hport]
      by_cases hq : q = pt
      · cases hm : f.marked <;> simp [hq, hsrc, hm]
      · simp [hq, hsrc, src_inj, Ne.symm hq]
    · rw [hpool, held_giveBuf]
      by_cases hq : q = pt
      · simp [hq, hsrc]
      · rw [if_neg fun h => hq (by cases q <;> cases pt <;> first | rfl | cases h)]
        simp [hsrc, src_inj, Ne.symm hq]
    · exact (congrArg (Pool.held · .inbound) hpool).trans
        ((held_giveBuf ..).trans (if_neg (by cases pt <;> nofun)))
    · rw [hout, port_complete, hport, hport]
      split
      next e => rw [e]
      next => rfl
    · rw [hout, port_complete, hport, hport]
      split
      next e => rw [e] at h; cases f.marked <;> exact h
      next => exact h

theorem answered_foldl (res : Result) (l : List Frame) (s : State) :
    Answered res l s (l.foldl (fun t f => t.outcome f res) s) := by
  induction l generalizing s with
  | nil => exact .refl res s
  | cons f l ih => exact (answered_outcome s f res).trans (ih _)

/-! ### The latches of the fault unit under outcomes -/

theorem latches_reportOutcome (s : State) (sent : Bool) : (s.reportOutcome sent).fault.latches = s.fault.latches := by
  cases h : s.fault.report with
  | none => simp only [State.reportOutcome, h]
  | some rep =>
    rw [reportOutcome_of_report h, latches_reportTest]
    cases sent <;> rfl

@[simp] theorem latches_outcome (s : State) (f : Frame) (res : Result) :
    (s.outcome f res).fault.latches = s.fault.latches := by
  cases hp : f.src.port with
  | none =>
    simp only [State.outcome, hp]
    split
    · exact latches_reportOutcome ..
    · rfl
  | some pt => simp only [State.outcome, hp, State.complete, State.modPort_fault]; rfl

end Sys2Proof.Proofs

/-! The trunk unit: carrier events, a trunk that leaves UP with its frames, transmission, hold, stall and proving
(R136 to R143). -/

namespace Sys2Proof.Proofs
open Sys2Proof.Machine

/-! ### Trunks and carrier (R136) -/

theorem Trunk.other_ne (k : Trunk) : k.other ≠ k := by cases k <;> nofun

theorem Trunk.eq_or_other (k j : Trunk) : j = k ∨ j = k.other := by
  cases k <;> cases j <;> simp [Trunk.other]

/-- Carrier is the business of the trunk's line alone (R136, R178). -/
theorem carrier_eq (s : State) (k : Trunk) : s.carrier k = ((s.line k.line).fn
    && bif (s.line k.line).dirOut then (s.line k.line).latch else (s.line k.line).ext) := by
  cases k <;> cases h : (s.line (Trunk.line _)).dirOut <;>
    simp_all [State.carrier, State.readBack, State.pin, State.drive, State.fnLevel, Trunk.line]

theorem carrier_of_lines {s t : State} (h : t.lines = s.lines) (k : Trunk) : t.carrier k = s.carrier k := by
  rw [carrier_eq, carrier_eq, State.line, State.line, h]

theorem line_modLine (s : State) (i j : Fin 8) (f : Line → Line) :
    (s.modLine i f).line j = if j = i then f (s.line i) else s.line j := by
  simp only [State.line, State.modLine, Vector.getElem_set, Fin.ext_iff, eq_comm]

theorem carrier_modLine_of_ne (s : State) (k : Trunk) {i : Fin 8} (h : k.line ≠ i) (f : Line → Line) :
    (s.modLine i f).carrier k = s.carrier k := by
  rw [carrier_eq, carrier_eq, line_modLine, if_neg h]

theorem Trunk.line_other_ne (k : Trunk) : k.other.line ≠ k.line := by cases k <;> decide

theorem lines_of_outcomeStep {s t : State} (h : OutcomeStep s t) : t.lines = s.lines := by
  obtain ⟨_, _, _, _, _, _, rfl, -⟩ := h
  rfl

theorem foldl_keeps {α β : Type} {f : State → α → State} (g : State → β) (h : ∀ s a, g (f s a) = g s) (l : List α)
    (s : State) : g (l.foldl f s) = g s := by
  induction l generalizing s with
  | nil => rfl
  | cons a l ih => exact (ih _).trans (h s a)

/-! ### A trunk that has left UP (R139, R143) -/

/-- The record of a trunk that has left UP (R143). -/
def TrunkRec.vacated (r : TrunkRec) (draws : Nat) : TrunkRec :=
  { r with
    queue := [], reserved := 0, transmitting := false, stall := none
    out := if r.transmitting = true ∧ r.hold = false then r.out.take (max r.given (Config.taken draws)) else r.out
    given := 0 }

/-- The part after a trunk's queue, reservation and transmission have ended and the active trunk is set again (R139,
R143), before NO_TRUNK and the fate of the frames. -/
def vacated (s : State) (k : Trunk) : State :=
  { s.modTrunk k fun r => TrunkRec.vacated r s.draws with
    draws := if (s.trunk k).transmitting = true ∧ (s.trunk k).hold = false then s.draws + 1 else s.draws
    core := s.core.unplaced k
    active := if (s.trunk k.other).state = .up then some k.other else none }

/-- The active trunk goes from a trunk to none when trunk `k` leaves UP (R139). -/
abbrev Falls (s : State) (k : Trunk) : Prop := s.active ≠ none ∧ (s.trunk k.other).state ≠ .up

theorem cut_emptied (s : State) (k : Trunk) : (s.cut k).modTrunk k TrunkRec.emptied
    = { s.modTrunk k fun r => TrunkRec.vacated r s.draws with
        draws := if (s.trunk k).transmitting = true ∧ (s.trunk k).hold = false then s.draws + 1 else s.draws } := by
  rcases State.cut_cases s k with ⟨h, e⟩ | ⟨h, e⟩
  · rw [e, if_pos h]
    cases k <;> simp only [State.trunk] at h <;>
      simp [State.modTrunk, TrunkRec.emptied, TrunkRec.vacated, TrunkRec.cutAt, h]
  · rw [e, if_neg h]
    cases k <;> simp only [State.trunk] at h <;> simp only [State.modTrunk, TrunkRec.emptied, TrunkRec.vacated, if_neg h]

theorem queue_cut (s : State) (k : Trunk) : ((s.cut k).trunk k).queue = (s.trunk k).queue := by
  rcases State.cut_cases s k with ⟨h, e⟩ | ⟨h, e⟩ <;> rw [e]
  cases k <;> rfl

theorem upTrunk_eq {s : State} {k : Trunk} (h : (s.trunk k).state ≠ .up) :
    s.upTrunk = if (s.trunk k.other).state = .up then some k.other else none := by
  cases k
  · exact if_neg h
  · exact ite_congr rfl (fun _ => rfl) fun _ => if_neg h

theorem refreshActive_eq {s : State} {k : Trunk} (h : (s.trunk k).state ≠ .up) :
    s.refreshActive = (fun t : State => if Falls s k then t.raise .noTrunk else t)
      { s with active := if (s.trunk k.other).state = .up then some k.other else none } := by
  have hfalls : (s.active.isSome && s.upTrunk.isNone) = true ↔ Falls s k := by
    rw [upTrunk_eq h]
    by_cases ho : (s.trunk k.other).state = .up <;> simp [Falls, ho, Option.ne_none_iff_isSome]
  simp only [State.refreshActive, hfalls]
  rw [upTrunk_eq h]

theorem leaveUp_eq {s : State} {k : Trunk} (h : (s.trunk k).state ≠ .up) : s.leaveUp k
    = (s.trunk k).queue.foldl State.moveOrLose (if Falls s k then (vacated s k).raise .noTrunk else vacated s k) := by
  unfold State.leaveUp
  simp only [queue_cut, cut_emptied]
  rw [refreshActive_eq (k := k) (by cases k <;> exact h)]
  rcases State.cut_cases s k with ⟨h', e⟩ | ⟨h', e⟩
  · cases k <;> rfl
  · cases k <;> rfl

/-- A frame whose record names the trunk it now waits at (R140, Table 3-1). -/
abbrev Frame.onTrunk (f : Frame) (a : Trunk) : Frame := { f with bound := f.bound.map fun b => { b with trunk := a } }

/-- The free places of the active trunk; none with no active trunk (R143). -/
def room (s : State) : Nat :=
  match s.active with
  | some a => (s.trunk a).depth - ((s.trunk a).queue.length + (s.trunk a).reserved)
  | none => 0

/-- The frame follows the active trunk (R143). -/
def follows (s : State) (f : Frame) : Bool := decide ((s.chan f.chan).limits.route = .follow)

theorem moveOrLose_of_room {s : State} {a : Trunk} (ha : s.active = some a) {f : Frame} (hf : follows s f = true)
    (hr : 0 < room s) : s.moveOrLose f = s.enqueue a f := by
  have hplace : (s.trunk a).placeFree = true := by
    simp only [room, ha] at hr
    exact decide_eq_true (by omega)
  simp only [State.moveOrLose, ha]
  exact if_pos ⟨of_decide_eq_true hf, hplace⟩

theorem moveOrLose_of_lost {s : State} {f : Frame} (h : follows s f = false ∨ room s = 0) :
    s.moveOrLose f = s.outcome f (.refused .linkLost) := by
  cases ha : s.active with
  | none => simp only [State.moveOrLose, ha]
  | some a =>
    simp only [State.moveOrLose, ha]
    refine if_neg fun ⟨hf, hp⟩ => ?_
    rcases h with h | h
    · exact absurd hf (of_decide_eq_false h)
    · have := of_decide_eq_true hp
      simp only [room, ha] at h
      omega

/-- The frames of a queue that are lost (R143): those that do not follow, and those for which no place is left. -/
def lostFrames (follow : Frame → Bool) : Nat → List Frame → List Frame
  | _, [] => []
  | 0, f :: q => f :: lostFrames follow 0 q
  | n + 1, f :: q => if follow f then lostFrames follow n q else f :: lostFrames follow (n + 1) q

/-- `t` is `s` after the frames of `q` have joined the active trunk's queue or have been lost (R143). -/
structure MovedOrLost (q : List Frame) (s t : State) : Prop where
  answered : Answered (.refused .linkLost) (lostFrames (follows s) (room s) q) s t
  latches : t.fault.latches = s.fault.latches
  active : t.active = s.active
  core : t.core = s.core
  draws : t.draws = s.draws
  chans : t.chans = s.chans
  trunk : ∀ j, s.active ≠ some j → t.trunk j = s.trunk j
  joined : ∀ a, s.active = some a → t.trunk a = { s.trunk a with
    queue := (s.trunk a).queue ++ ((q.filter (follows s)).take (room s)).map (Frame.onTrunk · a) }

theorem follows_of_chans {s t : State} (h : t.chans = s.chans) : follows t = follows s := by
  funext f
  have hchan : t.chan f.chan = s.chan f.chan := by rw [State.chan, h]; rfl
  rw [follows, hchan]
  rfl

theorem trunk_modTrunk (s : State) (k j : Trunk) (f : TrunkRec → TrunkRec) :
    (s.modTrunk k f).trunk j = if j = k then f (s.trunk k) else s.trunk j := by
  cases k <;> cases j <;> rfl

theorem trunk_of_outcomeStep {s t : State} (h : OutcomeStep s t) (j : Trunk) : t.trunk j = s.trunk j := by
  obtain ⟨_, _, _, _, _, _, rfl, -⟩ := h
  cases j <;> rfl

theorem trunk_enqueue (s : State) (a : Trunk) (f : Frame) : (s.enqueue a f).trunk a
    = { s.trunk a with queue := (s.trunk a).queue ++ [Frame.onTrunk f a] } := by cases a <;> rfl

theorem room_enqueue {s : State} {a : Trunk} (ha : s.active = some a) (f : Frame) :
    room (s.enqueue a f) = room s - 1 := by
  have hactive : (s.enqueue a f).active = some a := (State.modTrunk_active ..).trans ha
  simp only [room, hactive, trunk_enqueue, List.length_append, List.length_singleton]
  simp only [ha]
  omega

theorem chan_of_outcomeStep {s t : State} (h : OutcomeStep s t) (c : ChanId) : t.chan c = s.chan c := by
  obtain ⟨_, _, _, _, _, _, rfl, -⟩ := h
  rfl

theorem movedOrLost (q : List Frame) (s : State) : MovedOrLost q s (q.foldl State.moveOrLose s) := by
  induction q generalizing s with
  | nil =>
    exact ⟨by cases room s <;> exact .refl _ s, rfl, rfl, rfl, rfl, rfl, fun _ _ => rfl, fun a _ => by simp⟩
  | cons f q ih =>
    rw [List.foldl_cons]
    by_cases hj : follows s f = true ∧ 0 < room s
    · obtain ⟨hf, hr⟩ := hj
      obtain ⟨a, ha⟩ : ∃ a, s.active = some a := by
        cases h : s.active with
        | none => simp [room, h] at hr
        | some a => exact ⟨a, rfl⟩
      rw [moveOrLose_of_room ha hf hr]
      have hchans : (s.enqueue a f).chans = s.chans := State.modTrunk_chans ..
      have hactive : (s.enqueue a f).active = some a := (State.modTrunk_active ..).trans ha
      have htrunk := trunk_enqueue s a f
      obtain ⟨n, hn⟩ : ∃ n, room s = n + 1 := ⟨room s - 1, by omega⟩
      have hroom : room (s.enqueue a f) = n := by rw [room_enqueue ha, hn]; rfl
      have hport (pt : Port) : (s.enqueue a f).port pt = s.port pt := by cases pt <;> cases a <;> rfl
      have hpool : (s.enqueue a f).pool = s.pool := State.modTrunk_pool ..
      have hsame : Answered (.refused .linkLost) [] s (s.enqueue a f) :=
        .of_ports (fun pt => by rw [hport]) fun h _ => by rw [hpool]
      have h := ih (s.enqueue a f)
      have hanswered := hsame.trans h.answered
      rw [follows_of_chans hchans, hroom] at hanswered
      refine ⟨by rw [hn, lostFrames, if_pos hf]; exact hanswered, ?_, h.active.trans (hactive.trans ha.symm), ?_, ?_,
        h.chans.trans hchans, fun j hj => ?_, fun b hb => ?_⟩
      · exact h.latches.trans (congrArg FaultUnit.latches (State.modTrunk_fault ..))
      · exact h.core.trans (State.modTrunk_core ..)
      · exact h.draws.trans (State.modTrunk_draws ..)
      · rw [h.trunk j (by rw [hactive, ← ha]; exact hj)]
        exact (trunk_modTrunk ..).trans (if_neg fun (e : j = a) => hj (e ▸ ha))
      · cases ha.symm.trans hb
        rw [h.joined a hactive, htrunk, follows_of_chans hchans, hroom, hn, List.filter_cons_of_pos hf]
        simp
    · have hlost : follows s f = false ∨ room s = 0 := by
        cases hf : follows s f
        · exact .inl rfl
        · exact .inr (Nat.eq_zero_of_not_pos fun hr => hj ⟨hf, hr⟩)
      rw [moveOrLose_of_lost hlost]
      have hstep := State.outcome_step s f (.refused .linkLost)
      have htrunk := trunk_of_outcomeStep hstep
      have hactive : (s.outcome f (.refused .linkLost)).active = s.active := by
        obtain ⟨_, _, _, _, _, _, e, -⟩ := hstep
        rw [e]
      have hchans : (s.outcome f (.refused .linkLost)).chans = s.chans := by
        obtain ⟨_, _, _, _, _, _, e, -⟩ := hstep
        rw [e]
      have hcore : (s.outcome f (.refused .linkLost)).core = s.core := by
        obtain ⟨_, _, _, _, _, _, e, -⟩ := hstep
        rw [e]
      have hdraws : (s.outcome f (.refused .linkLost)).draws = s.draws := by
        obtain ⟨_, _, _, _, _, _, e, -⟩ := hstep
        rw [e]
      have hroom : room (s.outcome f (.refused .linkLost)) = room s := by simp only [room, hactive, htrunk]
      have h := ih (s.outcome f (.refused .linkLost))
      have hanswered := (answered_outcome s f _).trans h.answered
      rw [follows_of_chans hchans, hroom] at hanswered
      refine ⟨?_, h.latches.trans (latches_outcome ..), h.active.trans hactive, h.core.trans hcore,
        h.draws.trans hdraws, h.chans.trans hchans, fun j hj => ?_, fun a ha => ?_⟩
      · cases hr : room s with
        | zero => rw [hr] at hanswered; exact hanswered
        | succ n =>
          have hf : ¬ follows s f = true := by simpa [hr] using hlost
          rw [lostFrames, if_neg hf]
          rw [hr] at hanswered
          exact hanswered
      · exact (h.trunk j (by rw [hactive]; exact hj)).trans (htrunk j)
      · rw [h.joined a (hactive.trans ha), htrunk, follows_of_chans hchans, hroom]
        rcases hlost with hf | hr
        · rw [List.filter_cons_of_neg (by simp [hf])]
        · rw [hr, List.take_zero, List.take_zero]

/-- The lost frames by their places in the queue (R143): a frame that does not follow, or one whose place is taken by the
frames before it. -/
theorem lostFrames_eq (follow : Frame → Bool) (n : Nat) (q : List Frame) : lostFrames follow n q
    = (List.range q.length).filterMap fun i =>
      q[i]?.filter fun f => !(follow f && decide (((q.take i).filter follow).length < n)) := by
  induction q generalizing n with
  | nil => cases n <;> rfl
  | cons f q ih =>
    rw [List.length_cons, List.range_succ_eq_map, List.filterMap_cons, List.filterMap_map]
    cases n with
    | zero =>
      rw [lostFrames, ih]
      simp [Option.filter_some]
    | succ n =>
      rw [lostFrames]
      cases hf : follow f with
      | true => simp [Option.filter_some, hf, ih]
      | false => simp [Option.filter_some, hf, ih]

/-- With every route FOLLOW and room for all, the frames join the queue and nothing else changes (R143). -/
theorem foldl_moveOrLose_of_room {a : Trunk} (q : List Frame) (s : State) (ha : s.active = some a)
    (hf : ∀ f ∈ q, follows s f = true) (hr : q.length ≤ room s) : q.foldl State.moveOrLose s
      = s.modTrunk a fun r => { r with queue := r.queue ++ q.map (Frame.onTrunk · a) } := by
  induction q generalizing s with
  | nil => cases a <;> simp [State.modTrunk]
  | cons f q ih =>
    have hchans : (s.enqueue a f).chans = s.chans := State.modTrunk_chans ..
    have hactive : (s.enqueue a f).active = some a := (State.modTrunk_active ..).trans ha
    have hroom := room_enqueue ha f
    rw [List.length_cons] at hr
    rw [List.foldl_cons, moveOrLose_of_room ha (hf f (by simp)) (by omega), ih _ hactive
      (fun g hg => by rw [follows_of_chans hchans]; exact hf g (by simp [hg])) (by omega)]
    cases a <;> simp [State.enqueue, State.modTrunk]

theorem answered_fault (res : Result) (s : State) (u : FaultUnit) : Answered res [] s { s with fault := u } :=
  .of_ports (fun pt => by cases pt <;> rfl) fun _ _ => rfl

theorem answered_appendRecord (res : Result) (s : State) (r : FaultRec) : Answered res [] s (s.appendRecord r) := by
  cases h : (if s.fault.queue.length < 32 then some s.fault else s.fault.makeRoom r.kind.severity) with
  | none =>
    rw [appendRecord_of_none h]
    exact answered_fault ..
  | some u =>
    have hqueued : Answered res [] s (queued s u r) := .of_ports (fun pt => by cases pt <;> rfl) fun _ _ => rfl
    rw [appendRecord_of_room h]
    split
    · exact hqueued.trans (answered_reportTest ..)
    · exact hqueued

theorem answered_raise (res : Result) (s : State) (k : FaultKind) (c : Option ChanId) (w : Option Trunk)
    (pt : Option Port) : Answered res [] s (s.raise k c w pt) := by
  by_cases hm : k ∈ s.fault.mask
  · rw [raise_of_masked hm]
    exact answered_fault ..
  · by_cases h : ∃ r ∈ s.fault.queue, r.taken = false ∧ r.kind = k ∧ r.chan = c ∧ r.trunk = w
    · rw [raise_of_coalesces hm h]
      exact answered_fault ..
    · rw [raise_of_new hm fun r hr hx => h ⟨r, hr, hx⟩]
      exact (answered_fault res s _).trans (answered_appendRecord ..)

theorem port_vacated (s : State) (k : Trunk) (pt : Port) : (vacated s k).port pt = s.port pt := by
  cases k <;> cases pt <;> rfl

/-- Settles O46, from the fate of the queue's frames one after the other. -/
theorem leavingUpMovesOrLosesFrames : Obligations.LeavingUpMovesOrLosesFrames := by
  intro s k hup t sends out
  let u : State := if Falls s k then (vacated s k).raise .noTrunk else vacated s k
  have ht : t = (s.trunk k).queue.foldl State.moveOrLose u := leaveUp_eq hup
  have hmoved : MovedOrLost (s.trunk k).queue u t := ht ▸ movedOrLost _ u
  have hu : OutcomeStep (vacated s k) u := by
    unfold u
    split
    · exact (State.raise_step ..).outcome
    · exact .refl _
  have huanswered : Answered (.refused .linkLost) [] s u := by
    have hvacated : Answered (.refused .linkLost) [] s (vacated s k) :=
      .of_ports (fun pt => by rw [port_vacated]) fun h _ => congrArg (Pool.held · h) (State.modTrunk_pool ..)
    unfold u
    split
    · exact hvacated.trans (answered_raise ..)
    · exact hvacated
  have hactive : u.active = if (s.trunk k.other).state = .up then some k.other else none := by
    obtain ⟨_, _, _, _, _, _, e, -⟩ := hu
    rw [e]
    rfl
  have hne : u.active ≠ some k := by
    rw [hactive]
    split
    · simp [Trunk.other_ne]
    · nofun
  have hcore : u.core = s.core.unplaced k := by
    obtain ⟨_, _, _, _, _, _, e, -⟩ := hu
    rw [e]
    rfl
  have hdraws : u.draws = if sends then s.draws + 1 else s.draws := by
    obtain ⟨_, _, _, _, _, _, e, -⟩ := hu
    rw [e]
    rfl
  have hchans : u.chans = s.chans := by
    obtain ⟨_, _, _, _, _, _, e, -⟩ := hu
    rw [e]
    exact State.modTrunk_chans ..
  have htrunk (j : Trunk) : u.trunk j = if j = k then TrunkRec.vacated (s.trunk k) s.draws else s.trunk j := by
    rw [trunk_of_outcomeStep hu]
    cases k <;> cases j <;> rfl
  have hother : u.trunk k.other = s.trunk k.other := (htrunk _).trans (if_neg (Trunk.other_ne k))
  refine ⟨?_, hmoved.draws.trans hdraws, fun f d hc => ?_, ⟨fun hf => ?_, fun hf => ?_, fun hq => ⟨fun hf => ?_, fun hf => ?_⟩⟩,
    fun ho hfollow hroom => ?_, ?_⟩
  · rw [hmoved.trunk k hne, htrunk, if_pos rfl]
    rfl
  · rw [hmoved.core, hcore, hc]
    exact congrArg (Core.outbound f · d) (if_pos rfl)
  · have hu : u = (vacated s k).raise .noTrunk := if_pos hf
    have hj (x : FaultKind) : x ∈ t.fault.latches ↔ x ∈ s.fault.latches ∨ x = .noTrunk := by
      rw [hmoved.latches, hu, mem_latches_raise]
      exact or_congr_left (by rw [vacated, State.modTrunk_fault])
    exact ⟨(hj _).2 (.inr rfl), fun x hx => ((hj x).1 hx).symm⟩
  · have hu : u = vacated s k := if_neg hf
    rw [hmoved.latches, hu]
    exact congrArg FaultUnit.latches (State.modTrunk_fault ..)
  · rw [ht, hq]
    refine (if_pos hf).trans (congrArg (State.raise · .noTrunk) ?_)
    cases k <;> cases hc : s.core <;> simp only [vacated, Core.unplaced, hc] <;> rfl
  · rw [ht, hq]
    refine (if_neg hf).trans ?_
    cases k <;> cases hc : s.core <;> simp only [vacated, Core.unplaced, hc] <;> rfl
  · have hu : u = vacated s k := if_neg fun hf => hf.2 ho
    have hactive := hactive.trans (if_pos ho)
    have hroom : (s.trunk k).queue.length ≤ room u := by
      simp only [room, hactive, hother]
      omega
    have hfold := ht.trans (foldl_moveOrLose_of_room _ u hactive
      (fun f hf => by rw [follows_of_chans hchans]; exact decide_eq_true (hfollow f hf)) hroom)
    rw [hfold, hu]
    refine ⟨(State.modTrunk_active ..).trans (if_pos ho), ?_, ?_⟩
    · rw [trunk_modTrunk, if_pos rfl, ← hu, hother]
    · cases k <;> rfl
  · intro q fol rm lost
    have hfol : follows u = fol := follows_of_chans hchans
    have hrm : room u = rm := by
      simp only [room, hactive]
      by_cases ho : (s.trunk k.other).state = .up
      · simp only [if_pos ho, hother, rm]
      · simp only [if_neg ho, rm]
    have hlost : lostFrames (follows u) (room u) q = lost := by rw [hfol, hrm, lostFrames_eq]
    have hall := huanswered.trans hmoved.answered
    rw [List.nil_append, hlost] at hall
    refine ⟨hmoved.active.trans hactive, ?_, fun pt => ⟨hall.completions pt, hall.outstanding pt, hall.held pt⟩⟩
    by_cases ho : (s.trunk k.other).state = .up
    · rw [hmoved.joined k.other (hactive.trans (if_pos ho)), hother, hfol, hrm]
    · have hrm0 : rm = 0 := if_neg ho
      rw [hmoved.trunk k.other (by rw [hactive, if_neg ho]; nofun), hother, hrm0]
      simp

end Sys2Proof.Proofs

/-! Carrier events, holds, transmissions, proving and stalls (R136, R137, R139, R141, R142). -/

namespace Sys2Proof.Proofs
open Sys2Proof.Machine

/-! ### Carrier events -/

theorem lines_raise (s : State) (k : FaultKind) (c : Option ChanId) (w : Option Trunk) (pt : Option Port) :
    (s.raise k c w pt).lines = s.lines := lines_of_outcomeStep (State.raise_step ..).outcome

theorem lines_moveOrLose (s : State) (f : Frame) : (s.moveOrLose f).lines = s.lines := by
  by_cases h : follows s f = true ∧ 0 < room s
  · obtain ⟨a, ha⟩ : ∃ a, s.active = some a := by
      cases ha : s.active with
      | none => simp [room, ha] at h
      | some a => exact ⟨a, rfl⟩
    rw [moveOrLose_of_room ha h.1 h.2]
    exact State.modTrunk_lines ..
  · rw [moveOrLose_of_lost ?_]
    · exact lines_of_outcomeStep (State.outcome_step ..)
    · cases hf : follows s f
      · exact .inl rfl
      · exact .inr (Nat.eq_zero_of_not_pos fun hr => h ⟨hf, hr⟩)

theorem lines_leaveUp {s : State} {k : Trunk} (h : (s.trunk k).state ≠ .up) : (s.leaveUp k).lines = s.lines := by
  rw [leaveUp_eq h, foldl_keeps State.lines lines_moveOrLose]
  split
  · exact (lines_raise ..).trans (State.modTrunk_lines ..)
  · exact State.modTrunk_lines ..

theorem trunk_raise (s : State) (k : FaultKind) (c : Option ChanId) (w : Option Trunk) (pt : Option Port) (j : Trunk) :
    (s.raise k c w pt).trunk j = s.trunk j := trunk_of_outcomeStep (State.raise_step ..).outcome j

theorem lines_carrierFall (s : State) (k : Trunk) : (s.carrierFall k).lines = s.lines := by
  unfold State.carrierFall
  split
  · exact (lines_raise ..).trans (State.modTrunk_lines ..)
  · refine (lines_leaveUp ?_).trans ((lines_raise ..).trans (State.modTrunk_lines ..))
    rw [trunk_raise, trunk_modTrunk, if_pos rfl]
    nofun
  · rfl

theorem lines_carrierEvent (s : State) (k : Trunk) (before : Bool) : (s.carrierEvent k before).lines = s.lines := by
  unfold State.carrierEvent
  split
  · rfl
  · split
    · exact State.modTrunk_lines ..
    · exact lines_carrierFall ..

theorem carrierEvent_same {s : State} {k : Trunk} {before : Bool} (h : s.carrier k = before) :
    s.carrierEvent k before = s := if_pos h

/-- A trunk whose own carrier stands has no event, whatever the other trunk does (R136). -/
theorem carrierEvents_of_other {s t : State} {k : Trunk} (h : t.carrier k.other = s.carrier k.other) :
    t.carrierEvents s = t.carrierEvent k (s.carrier k) := by
  cases k with
  | t0 => exact carrierEvent_same ((carrier_of_lines (lines_carrierEvent ..) .t1).trans h)
  | t1 => exact congrArg (State.carrierEvent · .t1 (s.carrier .t1)) (carrierEvent_same h)

theorem carrierPin_eq (s : State) (k : Trunk) (level : Bool) : s.carrierPin k level
    = (s.modLine k.line fun l => { l with ext := level }).carrierEvent k (s.carrier k) :=
  carrierEvents_of_other (carrier_modLine_of_ne s k.other (Trunk.line_other_ne k) _)

/-- A high pin takes no carrier away, and a low one gives none (R136, R178). -/
theorem carrier_pin (s : State) (k : Trunk) (level : Bool)
    (h : (s.modLine k.line fun l => { l with ext := level }).carrier k ≠ s.carrier k) :
    (s.modLine k.line fun l => { l with ext := level }).carrier k = level := by
  rw [carrier_eq, carrier_eq, line_modLine, if_pos rfl] at h
  rw [carrier_eq, line_modLine, if_pos rfl]
  revert h
  cases (s.line k.line).fn <;> cases (s.line k.line).dirOut <;> simp

theorem trunk_modLine (s : State) (i : Fin 8) (f : Line → Line) (k : Trunk) : (s.modLine i f).trunk k = s.trunk k := by
  cases k <;> rfl

/-- Settles O45: the carrier event of the pin's trunk. -/
theorem carrierMovesTheTrunk : Obligations.CarrierMovesTheTrunk := by
  intro s k pin
  have hrise : exec (.carrierRising k) s = .next ((pin true).carrierEvent k (s.carrier k)) :=
    congrArg _ (carrierPin_eq s k true)
  have hfall : exec (.carrierFalling k) s = .next ((pin false).carrierEvent k (s.carrier k)).rest :=
    congrArg (fun t : State => Host.Outcome.next t.rest) (carrierPin_eq s k false)
  have hrises (h : (pin true).carrier k ≠ s.carrier k) :
      (pin true).carrierEvent k (s.carrier k) = (pin true).carrierRise k :=
    (if_neg h).trans (if_pos (carrier_pin s k true h))
  have hfalls (h : (pin false).carrier k ≠ s.carrier k) :
      (pin false).carrierEvent k (s.carrier k) = (pin false).carrierFall k :=
    (if_neg h).trans (if_neg (by rw [carrier_pin s k false h]; nofun))
  have hstate (b : Bool) : (pin b).trunk k = s.trunk k := trunk_modLine ..
  have hmod {f g : TrunkRec → TrunkRec} (h : f (s.trunk k) = g (s.trunk k)) :
      (pin true).modTrunk k f = (pin true).modTrunk k g := by
    cases k <;> simp only [State.trunk] at h <;> simp only [State.modTrunk] <;> congr 1
  refine ⟨fun h => ?_, fun h hs => ?_, fun h hs => ?_, fun h => ?_, fun h hs => ?_, fun h hs => ?_, fun h hs => ?_⟩
  · rw [hrise, carrierEvent_same h]
  · rw [hrise, hrises h]
    exact congrArg _ (hmod (if_pos hs))
  · rw [hrise, hrises h]
    have hid : (pin true).carrierRise k = (pin true).modTrunk k id := hmod (if_neg hs)
    rw [hid]
    cases k <;> rfl
  · rw [hfall, carrierEvent_same h]
  · rw [hfall, hfalls h]
    rcases hs with hs | hs <;> simp only [State.carrierFall, hstate, hs]
  · rw [hfall, hfalls h]
    simp only [State.carrierFall, hstate, hs]
  · rw [hfall, hfalls h]
    simp only [State.carrierFall, hstate, hs]

end Sys2Proof.Proofs

/-! Holds, transmissions, proving and stalls (R137, R139, R141, R142). -/

namespace Sys2Proof.Proofs
open Sys2Proof.Machine

theorem modTrunk_congr {s : State} {k : Trunk} {f g : TrunkRec → TrunkRec} (h : f (s.trunk k) = g (s.trunk k)) :
    s.modTrunk k f = s.modTrunk k g := by
  cases k <;> simp only [State.trunk] at h <;> simp only [State.modTrunk] <;> congr 1

/-- A second hold leaves with the modem all that the first had (R142). -/
theorem cutAt_released_cutAt (r : TrunkRec) (m n : Nat) :
    (r.cutAt m).out <+: ((TrunkRec.released { r.cutAt m with hold := true }).cutAt n).out := by
  have hgiven : (TrunkRec.released { r.cutAt m with hold := true }).given = (r.cutAt m).out.length := by
    simp [TrunkRec.released, TrunkRec.cutAt]
  have hout : (r.cutAt m).out <+: (TrunkRec.released { r.cutAt m with hold := true }).out := by
    unfold TrunkRec.released
    dsimp only
    split
    · exact List.prefix_append ..
    · exact List.prefix_rfl
  obtain ⟨l, hl⟩ := hout
  refine List.prefix_take_iff.2 ⟨⟨l, hl⟩, ?_⟩
  rw [hgiven]
  exact Nat.le_max_left ..

/-- What the completion of a frame leaves at its port (R59). -/
theorem outcome_of_port {s : State} {f : Frame} {pt : Port} (h : f.src = pt.src) (hheld : 0 < s.pool.held pt.holder)
    (res : Result) : s.outcome f res = State.modPort
      { s with pool := { s.pool.setHeld pt.holder (s.pool.held pt.holder - 1) with free := s.pool.free + 1 } } pt
      fun r =>
        if f.marked then { r with outstanding := r.outstanding - 1, marks := r.marks - 1 }
        else { r with
          outstanding := r.outstanding - 1
          completions := r.completions ++ [⟨f.cmdTag, 0x01, res, sendData f.loc f.bound⟩]
          latches := { r.latches with completion := true } } := by
  have hport : f.src.port = some pt := by rw [h]; cases pt <;> rfl
  have hholder : f.src.holder = pt.holder := by rw [h]; cases pt <;> rfl
  have hgive : s.giveBuf pt.holder = { s with
      pool := { s.pool.setHeld pt.holder (s.pool.held pt.holder - 1) with free := s.pool.free + 1 } } := by
    rw [State.giveBuf, Pool.give, if_pos hheld]
  simp only [State.outcome, hport, hholder, hgive]
  cases f.marked <;> rfl

/-- A CONTROL frame's outcome goes to its builder (R111, R163). -/
theorem outcome_of_control {s : State} {f : Frame} (h : f.src = .control) (hheld : 0 < s.pool.heldControl)
    (res : Result) : s.outcome f res = (fun t : State => if f.kind = .faultReport then
        t.reportOutcome (decide (res = .sent)) else t)
      { s with pool := { s.pool with heldControl := s.pool.heldControl - 1, free := s.pool.free + 1 } } := by
  have hport : f.src.port = none := by rw [h]; rfl
  have hgive : s.giveBuf .control = { s with
      pool := { s.pool with heldControl := s.pool.heldControl - 1, free := s.pool.free + 1 } } := by
    rw [State.giveBuf, Pool.give, if_pos (show 0 < s.pool.held .control from hheld)]
    rfl
  simp only [State.outcome, hport]
  rw [h]
  exact congrArg (fun t : State => if f.kind = .faultReport then t.reportOutcome (decide (res = .sent)) else t) hgive

theorem proven_eq (s : State) (k : Trunk) : s.proven k
    = { s.modTrunk k fun r => { r with state := .up, proving := none } with
        active := if k = .t0 ∨ s.t0.state = .up then some .t0 else some .t1 } := by
  have hup : (s.modTrunk k fun r => { r with state := .up, proving := none }).upTrunk
      = if k = .t0 ∨ s.t0.state = .up then some .t0 else some .t1 := by
    cases k
    · rfl
    · by_cases h : s.t0.state = .up <;> simp [State.upTrunk, State.modTrunk, h]
  have hsome : ((s.modTrunk k fun r => { r with state := .up, proving := none }).upTrunk).isNone = false := by
    rw [hup]
    split <;> rfl
  simp only [State.proven, State.refreshActive, hsome, Bool.and_false]
  rw [hup]
  rfl

/-- What a stalled trunk leaves (R142). -/
theorem stallOut_eq (s : State) (k : Trunk) : s.stallOut k = State.leaveUp
    (((s.modTrunk k fun r => { r with transmitting := false, stall := none }).raise .trunkStall none (some k)).modTrunk k
      fun r => { r with
        state := if s.carrier k then .proving else .down
        proving := if s.carrier k then some (s.uptime + (s.trunk k).provingInterval) else none }) k := by
  have hcarrier : ((s.modTrunk k fun r => { r with transmitting := false, stall := none }).raise .trunkStall none
      (some k)).carrier k = s.carrier k := carrier_of_lines ((lines_raise ..).trans (State.modTrunk_lines ..)) k
  have huptime : ((s.modTrunk k fun r => { r with transmitting := false, stall := none }).raise .trunkStall none
      (some k)).uptime = s.uptime := by
    obtain ⟨_, _, _, _, e, -⟩ := State.raise_step (s.modTrunk k fun r => { r with transmitting := false, stall := none })
      .trunkStall none (some k) none
    rw [e]
    exact State.modTrunk_uptime ..
  unfold State.stallOut
  dsimp only
  rw [enterByCarrier_eq, hcarrier, huptime]
  refine congrArg (State.leaveUp · k) (modTrunk_congr ?_)
  rw [trunk_raise, trunk_modTrunk, if_pos rfl]
  cases s.carrier k <;> rfl

theorem latches_leaveUp {s : State} {k : Trunk} (h : (s.trunk k).state ≠ .up) {x : FaultKind}
    (hx : x ∈ s.fault.latches) : x ∈ (s.leaveUp k).fault.latches := by
  have hv : (vacated s k).fault = s.fault := State.modTrunk_fault ..
  rw [leaveUp_eq h, (movedOrLost _ _).latches]
  split
  · exact (mem_latches_raise ..).2 (.inl (hv ▸ hx))
  · exact hv ▸ hx

/-- A stall at its limit, and before it (R142, R143). -/
theorem stallLimitReached_cases (s : State) (k : Trunk) :
    let stalls := (s.trunk k).state = .up ∧ (s.trunk k).transmitting = true ∧ (s.trunk k).hold = true
      ∧ ∃ n, (s.trunk k).stall = some n ∧ s.settings.stallLimit ≤ n
    (stalls →
      let halted : State := (s.modTrunk k fun r => { r with transmitting := false, stall := none }).raise .trunkStall
        none (some k)
      let t := (halted.modTrunk k fun r => { r with
        state := if s.carrier k then .proving else .down
        proving := if s.carrier k then some (s.uptime + (s.trunk k).provingInterval) else none }).leaveUp k
      exec (.stallLimitReached k) s = .next t.rest ∧ FaultKind.trunkStall ∈ t.fault.latches
        ∧ t.trunk k = { s.trunk k with
            state := if s.carrier k then .proving else .down
            proving := if s.carrier k then some (s.uptime + (s.trunk k).provingInterval) else none
            queue := [], reserved := 0, transmitting := false, stall := none, given := 0 })
    ∧ (¬ stalls → exec (.stallLimitReached k) s = .next s) := by
  intro stalls
  have hiff : ((s.trunk k).state = .up ∧ (s.trunk k).transmitting = true ∧ (s.trunk k).hold = true
      ∧ s.stallReached k = true) ↔ stalls := by rw [State.stallReached_iff]
  refine ⟨fun h => ?_, fun h => if_neg fun x => h (hiff.1 x)⟩
  intro halted t
  have htrunk (f : TrunkRec → TrunkRec) : (halted.modTrunk k f).trunk k
      = f { s.trunk k with transmitting := false, stall := none } := by
    rw [trunk_modTrunk, if_pos rfl, trunk_raise, trunk_modTrunk, if_pos rfl]
  have hup (x : Option Nat) : ((halted.modTrunk k fun r => { r with
      state := if s.carrier k then .proving else .down, proving := x }).trunk k).state ≠ .up := by
    rw [htrunk]
    cases s.carrier k <;> nofun
  refine ⟨(if_pos (hiff.2 h)).trans (congrArg (fun t : State => Host.Outcome.next t.rest) (stallOut_eq s k)), ?_, ?_⟩
  · refine latches_leaveUp (hup _) ?_
    rw [State.modTrunk_fault]
    exact (mem_latches_raise ..).2 (.inr rfl)
  · obtain ⟨hleft, -⟩ := leavingUpMovesOrLosesFrames _ k (hup _)
    refine hleft.trans ?_
    rw [htrunk]
    simp

/-- Settles O47: stalls, holds and their releases, and the two ends of a transmission. -/
theorem transmissionsStallsAndProving : Obligations.TransmissionsStallsAndProving := by
  refine ⟨stallLimitReached_cases, fun s k => ?_⟩
  intro bytes sends
  have hsymbols {f : Frame} {b : Binding} {a : Sixteen} (hb : f.bound = some b) (ha : f.auth = some a) :
      f.symbols = bytes f b a := Frame.symbols_eq f b a hb ha
  have hold_of_sends (s : State) (h : (s.trunk k).transmitting = true ∧ (s.trunk k).hold = false) :
      exec (.holdAsserted k) s = .next { s.modTrunk k fun r => { r.cutAt (Config.taken s.draws) with hold := true } with
        draws := s.draws + 1 } := by
    rcases State.cut_cases s k with ⟨-, e⟩ | ⟨hno, -⟩
    · refine (congrArg (fun t : State => Host.Outcome.next (t.modTrunk k fun r => { r with hold := true })) e).trans ?_
      cases k <;> rfl
    · exact absurd h hno
  refine ⟨fun h => ?_, hold_of_sends s, fun t u v h ht hu hv => ?_, fun h => ?_, fun f b a rest hx hq hb ha => ?_,
    fun f b a rest hup hx hq hb ha => ?_, fun h => ?_, fun d hp hd hle => ?_, fun f b a rest hq hx hh hb ha => ?_,
    fun h => ?_⟩
  · rcases State.cut_cases s k with ⟨hyes, -⟩ | ⟨-, e⟩
    · exact absurd hyes h
    · exact congrArg (fun t : State => Host.Outcome.next (t.modTrunk k fun r => { r with hold := true })) e
  · cases (hold_of_sends s h).symm.trans ht
    cases hu
    have hsends : (((State.modTrunk { s.modTrunk k fun r => { r.cutAt (Config.taken s.draws) with hold := true } with
        draws := s.draws + 1 } k TrunkRec.released).trunk k).transmitting = true)
        ∧ (((State.modTrunk { s.modTrunk k fun r => { r.cutAt (Config.taken s.draws) with hold := true } with
        draws := s.draws + 1 } k TrunkRec.released).trunk k).hold = false) := by
      cases k <;> exact ⟨h.1, rfl⟩
    cases (hold_of_sends _ hsends).symm.trans hv
    have := cutAt_released_cutAt (s.trunk k) (Config.taken s.draws)
    cases k <;> exact this _
  · refine congrArg Host.Outcome.next (modTrunk_congr ?_)
    rcases h with h | h
    · simp only [TrunkRec.released, h]
    · cases hx : (s.trunk k).transmitting <;> simp only [TrunkRec.released, h, hx]
  · refine congrArg Host.Outcome.next (modTrunk_congr ?_)
    rw [← hsymbols hb ha]
    simp only [TrunkRec.released, hx, hq]
  · rw [← hsymbols hb ha]
    have hexec : exec (.transmissionStart k) s = execTransmissionStart k s := rfl
    rw [hexec]
    simp only [execTransmissionStart, hup, hx, hq]
    rfl
  · have hexec : exec (.transmissionStart k) s = execTransmissionStart k s := rfl
    rw [hexec, execTransmissionStart]
    split
    next hup hx hq => rcases h with h | h | h <;> simp_all
    next => rfl
  · have hexec : exec (.provingDeadline k) s = execProvingDeadline k s := rfl
    rw [hexec]
    simp only [execProvingDeadline, hp, hd, if_pos hle, proven_eq]
  · have hexec (t : State) (h : (s.modTrunk k fun r => r.finish f rest).outcome f .sent = t) :
        exec (.transmissionEnd k) s = .next t.rest := by
      have hrow : exec (.transmissionEnd k) s = execTransmissionEnd k s := rfl
      rw [hrow]
      simp only [execTransmissionEnd, hq, hx, hh, h]
    have hleft : (s.modTrunk k fun r => r.finish f rest) = s.modTrunk k fun r => { r with
        queue := rest, transmitting := false, stall := none, out := bytes f b a ++ [.endMarker], given := 0 } := by
      rw [← hsymbols hb ha]
      rfl
    have hpool : (s.modTrunk k fun r => r.finish f rest).pool = s.pool := State.modTrunk_pool ..
    refine ⟨fun pt hsrc hheld => hexec _ ?_, fun hsrc hheld => hexec _ ?_⟩
    · rw [outcome_of_port hsrc (hpool ▸ hheld), hpool, hleft]
    · rw [outcome_of_control hsrc (hpool ▸ hheld), hpool, hleft]
      rfl
  · have hexec : exec (.transmissionEnd k) s = execTransmissionEnd k s := rfl
    rw [hexec, execTransmissionEnd]
    split
    next hq hx hh => rcases h with h | h | h <;> simp_all
    next => rfl

end Sys2Proof.Proofs

/-! SET_TRUNK (R138). -/

namespace Sys2Proof.Proofs
open Sys2Proof.Machine

theorem lastTrunk_iff (s : State) (k : Trunk) (b : Bool) : s.lastTrunk k b = true
    ↔ b = false ∧ (s.trunk k).enable = true ∧ (s.trunk k.other).enable = false := by
  simp [State.lastTrunk, and_assoc]

/-- A SET_TRUNK that is not refused carries out its enable and completes. -/
theorem exec_setTrunk {s : State} {tag : Byte} {k : Trunk} {b : Bool} (ht : s.Takes .m) (hrun : s.mode = .running)
    (hlast : s.lastTrunk k b = false) {t : State} (hu : s.applyEnable k b = t) :
    exec (.setTrunk .m tag k b) s = .next (State.consulted (t.modPort .m fun r => { r with
      completions := r.completions ++ [⟨tag, 0x0F, .done, t.trunkFigures⟩]
      latches := { r.latches with completion := true } }) .m) := by
  refine exec_of_finish_rest rfl ht ?_
  rw [← hu]
  simp only [decision, State.setTrunk, State.onlyM_of_running hrun]
  exact if_neg (by rw [hlast]; nofun)

/-- Settles O32, by the branches of `applyEnable`. -/
theorem setTrunkEnablesAndDisables : Obligations.SetTrunkEnablesAndDisables := by
  intro s tag k ht hrun done off
  have hoff : (s.trunk k).enable = true → (s.trunk k.other).enable = true → s.lastTrunk k false = false :=
    fun _ h => by simp [State.lastTrunk, h]
  refine ⟨fun he ho => ?_, fun b he => ?_, fun he => ?_, fun he ho hup => ?_, fun he ho hup => ⟨?_, ?_⟩⟩
  · refine exec_of_refuse rfl ht ?_
    simp only [decision, State.setTrunk, State.onlyM_of_running hrun]
    exact if_pos ((lastTrunk_iff s k false).2 ⟨rfl, he, ho⟩)
  · refine exec_setTrunk ht hrun ?_ (if_pos he.symm)
    cases b <;> simp [State.lastTrunk, he]
  · refine exec_setTrunk ht hrun rfl ?_
    have hcarrier : (s.modTrunk k fun r => { r with enable := true }).carrier k = s.carrier k :=
      carrier_of_lines (State.modTrunk_lines ..) k
    rw [State.applyEnable, if_neg (by rw [he]; nofun), if_pos rfl, enterByCarrier_eq, hcarrier]
    cases k <;> cases s.carrier _ <;> rfl
  · refine exec_setTrunk ht hrun (hoff he ho) ?_
    rw [State.applyEnable, if_neg (by rw [he]; nofun), if_neg nofun]
    exact if_neg (by simpa using hup)
  · refine exec_setTrunk ht hrun (hoff he ho) ?_
    rw [State.applyEnable, if_neg (by rw [he]; nofun), if_neg nofun]
    exact if_pos (by simpa using hup)
  · have htrunk : off.trunk k = { s.trunk k with enable := false, state := .off, proving := none } :=
      (trunk_modTrunk ..).trans (if_pos rfl)
    obtain ⟨hleft, -⟩ := leavingUpMovesOrLosesFrames off k (by rw [htrunk]; nofun)
    refine hleft.trans ?_
    rw [htrunk, State.modTrunk_draws]

end Sys2Proof.Proofs

/-! What a consultation of the sources leaves, what a source offers, and whom the arbiter chooses (R50 to R53, R79 to
R84). -/

namespace Sys2Proof.Proofs
open Sys2Proof.Machine

/-! ### The sendability test (Table 3-2) -/

/-- The ACTIVE slot that a frame would be charged to, with what the wear after it and the limit must be (Table 3-2). -/
def Wears (s : State) (f : Frame) (fits : Nat → Nat → Prop) : Prop :=
  ∃ i k, (s.chan f.chan).cur = some i ∧ (s.slot i).wipePending = false ∧ (s.slot i).keyed = some k
    ∧ fits (k.wear + (f.payload.length + 15) / 16 + 1)
        (if f.chan = 0 ∧ f.kind ≠ .hello ∧ f.kind ≠ .turnAsk ∧ f.kind ≠ .turnDone
          then (s.chan f.chan).limits.hard - 1024 else (s.chan f.chan).limits.hard)

theorem turnover_eq_false (k : Kind) : k.turnover = false ↔ k ≠ .hello ∧ k ≠ .turnAsk ∧ k ≠ .turnDone := by
  cases k <;> simp [Kind.turnover]

theorem wearLimit_eq (s : State) (c : ChanId) (k : Kind) : s.wearLimit c k
    = if c = 0 ∧ k ≠ .hello ∧ k ≠ .turnAsk ∧ k ≠ .turnDone then (s.chan c).limits.hard - 1024
      else (s.chan c).limits.hard :=
  ite_congr (by rw [turnover_eq_false]) (fun _ => rfl) fun _ => rfl

theorem chargeable_iff (s : State) (c : ChanId) (i : SlotId) (k : Keyed) : s.chargeable c = some (i, k)
    ↔ (s.chan c).cur = some i ∧ (s.slot i).wipePending = false ∧ (s.slot i).keyed = some k := by
  unfold State.chargeable
  cases (s.chan c).cur with
  | none => simp
  | some j =>
    simp only [Option.bind_some]
    cases hw : (s.slot j).wipePending with
    | true =>
      simp only [if_true]
      refine ⟨nofun, fun ⟨e, h, _⟩ => ?_⟩
      cases e
      rw [hw] at h
      cases h
    | false =>
      cases hk : (s.slot j).keyed with
      | none =>
        refine ⟨nofun, fun ⟨e, _, h⟩ => ?_⟩
        cases e
        rw [hk] at h
        cases h
      | some x =>
        constructor
        · intro h
          cases h
          exact ⟨rfl, hw, hk⟩
        · rintro ⟨e, -, h⟩
          cases e
          rw [hk] at h
          cases h
          rfl

theorem frameCost_eq (f : Frame) : f.cost = (f.payload.length + 15) / 16 + 1 := rfl

theorem wearOk_iff (s : State) (f : Frame) : s.wearOk f = true ↔ Wears s f fun need most => need ≤ most := by
  simp only [Wears, ← wearLimit_eq, Nat.add_assoc, ← frameCost_eq]
  constructor
  · intro h
    cases hc : s.chargeable f.chan with
    | none => simp only [State.wearOk, hc] at h; cases h
    | some p =>
      obtain ⟨i, k⟩ := p
      simp only [State.wearOk, hc] at h
      obtain ⟨hcur, hwipe, hkeyed⟩ := (chargeable_iff ..).1 hc
      exact ⟨i, k, hcur, hwipe, hkeyed, of_decide_eq_true h⟩
  · rintro ⟨i, k, hcur, hwipe, hkeyed, h⟩
    simp only [State.wearOk, (chargeable_iff ..).2 ⟨hcur, hwipe, hkeyed⟩]
    exact decide_eq_true h

theorem wearFails_iff (s : State) (f : Frame) : s.wearFails f = true ↔ Wears s f fun need most => most < need := by
  simp only [Wears, ← wearLimit_eq, Nat.add_assoc, ← frameCost_eq]
  constructor
  · intro h
    cases hc : s.chargeable f.chan with
    | none => simp only [State.wearFails, hc] at h; cases h
    | some p =>
      obtain ⟨i, k⟩ := p
      simp only [State.wearFails, State.wearOk, hc] at h
      obtain ⟨hcur, hwipe, hkeyed⟩ := (chargeable_iff ..).1 hc
      exact ⟨i, k, hcur, hwipe, hkeyed, by simpa using h⟩
  · rintro ⟨i, k, hcur, hwipe, hkeyed, h⟩
    simp only [State.wearFails, State.wearOk, (chargeable_iff ..).2 ⟨hcur, hwipe, hkeyed⟩]
    simpa using h

/-! ### What a test can do: a freeze (R13, R53) -/

/-- A raise of a kind that is not CRITICAL changes the fault unit and port M's FAULT latch only (R155, R166). -/
theorem raise_of_not_critical (s : State) {k : FaultKind} (hk : k.severity ≠ .critical) (c : Option ChanId)
    (w : Option Trunk) (pt : Option Port) : ∃ u b, s.raise k c w pt
      = { s with fault := u, portM := { s.portM with latches := { s.portM.latches with fault := b } } } := by
  by_cases hm : k ∈ s.fault.mask
  · exact ⟨_, s.portM.latches.fault, raise_of_masked hm ..⟩
  · by_cases h : ∃ r ∈ s.fault.queue, r.taken = false ∧ r.kind = k ∧ r.chan = c ∧ r.trunk = w
    · exact ⟨_, s.portM.latches.fault, raise_of_coalesces hm h ..⟩
    · rw [raise_of_new hm fun r hr hx => h ⟨r, hr, hx⟩]
      generalize ht : ({ s with fault := { s.fault with latches := (s.fault.latched k).latches } } : State) = t
      cases h : (if t.fault.queue.length < 32 then some t.fault else t.fault.makeRoom
          (FaultRec.made k c w pt s.uptime).kind.severity) with
      | none =>
        rw [appendRecord_of_none h, ← ht]
        exact ⟨_, s.portM.latches.fault, rfl⟩
      | some u =>
        rw [appendRecord_of_room h, if_neg (show (FaultRec.made k c w pt s.uptime).kind.severity ≠ .critical from hk), ← ht]
        exact ⟨_, true, rfl⟩

/-- `t` is `s` after tests of frames of `l` (R53), with whatever the sources have become: LIVE channels may have frozen,
each told to its port and latched; nothing else has changed. -/
structure Tested (l : List Frame) (s t : State) : Prop where
  frame : { t with
    chans := s.chans, fault := s.fault, portG := s.portG, portP := s.portP, portM := s.portM
    srcG := s.srcG, srcP := s.srcP, srcM := s.srcM, srcControl := s.srcControl } = s
  chan : ∀ c, t.chan c = s.chan c ∨ ((s.chan c).state = .live ∧ t.chan c = { s.chan c with state := .frozen }
    ∧ ∃ f ∈ l, f.chan = c ∧ s.wearFails f = true)
  port : ∀ pt, { t.port pt with latches := (s.port pt).latches } = s.port pt
    ∧ (t.port pt).latches.completion = (s.port pt).latches.completion
    ∧ (t.port pt).latches.delivery = (s.port pt).latches.delivery
  latches : ∀ k ∈ t.fault.latches, k ∈ s.fault.latches ∨ k = .channelFrozen
  grows : ∀ k ∈ s.fault.latches, k ∈ t.fault.latches
  quiet : t.chans = s.chans → t.fault = s.fault

theorem Tested.refl (l : List Frame) (s : State) : Tested l s s :=
  ⟨rfl, fun _ => .inl rfl, fun _ => ⟨rfl, rfl, rfl⟩, fun _ h => .inl h, fun _ h => h, fun _ => rfl⟩

section
variable {l : List Frame} {s t : State}

theorem Tested.cur (h : Tested l s t) (c : ChanId) : (t.chan c).cur = (s.chan c).cur := by
  rcases h.chan c with e | ⟨-, e, -⟩ <;> rw [e]

theorem Tested.limits (h : Tested l s t) (c : ChanId) : (t.chan c).limits = (s.chan c).limits := by
  rcases h.chan c with e | ⟨-, e, -⟩ <;> rw [e]

theorem Tested.slot (h : Tested l s t) (i : SlotId) : t.slot i = s.slot i := by
  have hslots := congrArg State.slots h.frame
  exact congrArg (fun v : Vector Slot 48 => v[i.val]) hslots

theorem Tested.chargeable (h : Tested l s t) (c : ChanId) : t.chargeable c = s.chargeable c := by
  unfold State.chargeable
  rw [h.cur]
  congr 1
  funext i
  rw [h.slot]

theorem Tested.wearLimit (h : Tested l s t) (c : ChanId) (k : Kind) : t.wearLimit c k = s.wearLimit c k := by
  rw [wearLimit_eq, wearLimit_eq, h.limits]

theorem Tested.wearOk (h : Tested l s t) (f : Frame) : t.wearOk f = s.wearOk f := by
  unfold State.wearOk
  rw [h.chargeable, h.wearLimit]

theorem Tested.wearFails (h : Tested l s t) (f : Frame) : t.wearFails f = s.wearFails f := by
  unfold State.wearFails
  rw [h.chargeable, h.wearOk]

theorem Tested.mono {m : List Frame} (h : Tested l s t) (hlm : ∀ f ∈ l, f ∈ m) : Tested m s t :=
  { h with chan := fun c => (h.chan c).imp_right fun ⟨hs, e, f, hf, hfc⟩ => ⟨hs, e, f, hlm f hf, hfc⟩ }

theorem Tested.trans {u : State} (h : Tested l s t) (k : Tested l t u) : Tested l s u where
  frame := by
    have hk := congrArg (fun x : State => { x with
      chans := s.chans, fault := s.fault, portG := s.portG, portP := s.portP, portM := s.portM
      srcG := s.srcG, srcP := s.srcP, srcM := s.srcM, srcControl := s.srcControl }) k.frame
    exact hk.trans h.frame
  chan c := by
    rcases h.chan c with e | ⟨hs, e, hf⟩
    · rcases k.chan c with e' | ⟨hs', e', f, hf, hfc, hw⟩
      · exact .inl (e'.trans e)
      · exact .inr ⟨e ▸ hs', e ▸ e', f, hf, hfc, h.wearFails f ▸ hw⟩
    · rcases k.chan c with e' | ⟨hs', -⟩
      · exact .inr ⟨hs, e'.trans e, hf⟩
      · rw [e] at hs'
        cases hs'
  port pt := by
    obtain ⟨h1, h2, h3⟩ := h.port pt
    obtain ⟨k1, k2, k3⟩ := k.port pt
    refine ⟨?_, k2.trans h2, k3.trans h3⟩
    exact (congrArg (fun r : PortRec => { r with latches := (s.port pt).latches }) k1).trans h1
  latches x hx := (k.latches x hx).elim (h.latches x) .inr
  grows x hx := k.grows x (h.grows x hx)
  quiet e := by
    have hchan (c : ChanId) : u.chan c = s.chan c := by rw [State.chan, e]; rfl
    have hmid : t.chans = s.chans := by
      refine Vector.ext fun i hi => ?_
      rcases h.chan ⟨i, hi⟩ with e' | ⟨hs, e', -⟩
      · exact e'
      · rcases k.chan ⟨i, hi⟩ with e'' | ⟨hs', -⟩
        · rw [hchan, e'] at e''
          rw [e''] at hs
          cases hs
        · rw [e'] at hs'
          cases hs'
    exact (k.quiet (e.trans hmid.symm)).trans (h.quiet hmid)

end

/-- A freeze request for a channel whose frame failed the wear condition (R13, R53). -/
theorem tested_freeze {s : State} {f : Frame} {l : List Frame} (hf : f ∈ l) (hw : s.wearFails f = true) :
    Tested l s (s.freeze f.chan) := by
  unfold State.freeze
  split
  case isFalse => exact .refl l s
  case isTrue hlive =>
    generalize hx : (s.modChan f.chan fun ch => { ch with state := .frozen }) = x
    have hchan (c : ChanId) : x.chan c = if c = f.chan then { s.chan c with state := .frozen } else s.chan c := by
      rw [← hx]
      exact State.chan_modChan ..
    obtain ⟨u, b, e⟩ := raise_of_not_critical x (k := .channelFrozen) (by decide) (some f.chan) none none
    have hlatches (k : FaultKind) : k ∈ u.latches ↔ k ∈ s.fault.latches ∨ k = .channelFrozen := by
      have h := mem_latches_raise x .channelFrozen (some f.chan) none none k
      rw [e, ← hx] at h
      exact h
    rw [e]
    refine ⟨?_, fun c => ?_, fun pt => ?_, fun k hk => ?_, fun k hk => ?_, fun h => ?_⟩
    · rw [← hx]
      unfold State.tellChannel State.latchChannel State.modPort
      split <;> rfl
    · rw [chan_tellChannel]
      refine (em (c = f.chan)).symm.imp (fun hc => (hchan c).trans (if_neg hc)) fun hc => ?_
      exact ⟨hc ▸ hlive, (hchan c).trans (if_pos hc), f, hf, hc.symm, hw⟩
    · have hport : x.port pt = s.port pt := by rw [← hx]; cases pt <;> rfl
      rw [← hport, State.tellChannel, port_latchChannel]
      split
      next hpt => rw [← hpt]; cases pt <;> exact ⟨rfl, rfl, rfl⟩
      next => cases pt <;> exact ⟨rfl, rfl, rfl⟩
    · exact (hlatches k).1 (by simpa [State.tellChannel, State.latchChannel] using hk)
    · simpa [State.tellChannel, State.latchChannel] using (hlatches k).2 (.inl hk)
    · have hc : x.chan f.chan = s.chan f.chan := by
        have hchans : x.chans = s.chans := by simpa [State.tellChannel, State.latchChannel] using h
        rw [State.chan, hchans]
        rfl
      rw [hchan, if_pos rfl] at hc
      have := congrArg Chan.state hc
      rw [hlive] at this
      cases this

theorem src_freeze (s : State) (c : ChanId) (o : OutSrc) : (s.freeze c).src o = s.src o := by
  unfold State.freeze
  split
  · obtain ⟨u, b, e⟩ := raise_of_not_critical (s.modChan c fun ch => { ch with state := .frozen })
      (k := .channelFrozen) (by decide) (some c) none none
    rw [e]
    cases o <;> simp [State.tellChannel, State.latchChannel, State.src]
  · rfl

/-! ### Sendability in the course of a consultation -/

theorem testFrame_fst (s : State) (f : Frame) :
    (s.testFrame f).1 = if s.wearFails f = true then s.freeze f.chan else s := by
  unfold State.testFrame
  split <;> rfl

theorem testFrame_snd (s : State) (f : Frame) : (s.testFrame f).2 = s.sendable f := by
  unfold State.testFrame
  split <;> rfl

theorem tested_testFrame {f : Frame} {l : List Frame} (hf : f ∈ l) (s : State) : Tested l s (s.testFrame f).1 := by
  rw [testFrame_fst]
  split
  case isTrue hw => exact tested_freeze hf hw
  case isFalse => exact .refl l s

theorem src_testFrame (s : State) (f : Frame) (o : OutSrc) : (s.testFrame f).1.src o = s.src o := by
  rw [testFrame_fst]
  split
  · exact src_freeze ..
  · rfl

theorem Tested.placeFor {l : List Frame} {s t : State} (h : Tested l s t) (f : Frame) : t.placeFor f = s.placeFor f := by
  have h0 : t.t0 = s.t0 := by have := congrArg State.t0 h.frame; exact this
  have h1 : t.t1 = s.t1 := by have := congrArg State.t1 h.frame; exact this
  have ha : t.active = s.active := by have := congrArg State.active h.frame; exact this
  have htrunk (k : Trunk) : t.trunk k = s.trunk k := by cases k <;> assumption
  simp only [State.placeFor, State.routeTrunk, h.limits, h0, h1, ha, htrunk]

/-- A consultation makes no frame sendable: it only freezes LIVE channels. -/
theorem Tested.sendable {l : List Frame} {s t : State} (h : Tested l s t) {f : Frame} (ht : t.sendable f = true) :
    s.sendable f = true := by
  unfold State.sendable at ht ⊢
  rw [h.wearOk, h.placeFor] at ht
  rcases h.chan f.chan with e | ⟨hlive, e, -⟩
  · rwa [e] at ht
  · rw [e] at ht
    rw [hlive]
    cases hk : f.kind <;> simp_all [Kind.allows]

theorem testHeld_cons (f : Frame) (l : List Frame) (s : State) (best : Option Frame) : State.testHeld (f :: l) s best
    = State.testHeld l (s.testFrame f).1 (if s.sendable f = true then earlier best f else best) := by
  cases htest : s.testFrame f with
  | mk t b =>
    have hb : s.sendable f = b := by rw [← testFrame_snd, htest]
    rw [State.testHeld, htest, hb]
    cases b <;> rfl

theorem earlier_spec (best : Option Frame) (f : Frame) : ∃ b, earlier best f = some b ∧ b.sub ≤ f.sub
    ∧ (∀ g, best = some g → b.sub ≤ g.sub) ∧ (b = f ∨ best = some b) := by
  cases best with
  | none => exact ⟨f, rfl, Nat.le_refl _, nofun, .inl rfl⟩
  | some g =>
    by_cases h : f.sub < g.sub
    · exact ⟨f, if_pos h, Nat.le_refl _, fun x e => by cases e; omega, .inl rfl⟩
    · exact ⟨g, if_neg h, by omega, fun x e => by cases e; exact Nat.le_refl _, .inr rfl⟩

/-- Step 1 of R51: of the tested frames that are sendable the earliest is the best. -/
theorem testHeld_spec (l : List Frame) (s : State) (best : Option Frame) {m : List Frame} (hm : ∀ f ∈ l, f ∈ m) :
    Tested m s (State.testHeld l s best).1
    ∧ (∀ o, (State.testHeld l s best).1.src o = s.src o)
    ∧ (∀ f, (State.testHeld l s best).2 = some f → best = some f ∨ (f ∈ l ∧ s.sendable f = true))
    ∧ (∀ g, best = some g ∨ (g ∈ l ∧ (State.testHeld l s best).1.sendable g = true) →
      ∃ f, (State.testHeld l s best).2 = some f ∧ f.sub ≤ g.sub) := by
  induction l generalizing s best with
  | nil =>
    exact ⟨.refl m s, fun _ => rfl, fun _ h => .inl h, fun g h => h.elim (fun h => ⟨g, h, Nat.le_refl _⟩) fun h => by
      simp at h⟩
  | cons f l ih =>
    have hf := tested_testFrame (hm f (by simp)) s
    obtain ⟨htested, hsrc, hres, hbest⟩ := ih (s.testFrame f).1
      (if s.sendable f = true then earlier best f else best) fun g hg => hm g (by simp [hg])
    rw [testHeld_cons]
    obtain ⟨b, hb, hbf, hbg, hbor⟩ := earlier_spec best f
    refine ⟨hf.trans htested, fun o => (hsrc o).trans (src_testFrame s f o), fun x hx => ?_, fun g hg => ?_⟩
    · rcases hres x hx with h | ⟨hx, hs⟩
      · split at h
        next hs =>
          rw [hb] at h
          cases h
          rcases hbor with e | e
          · exact .inr ⟨by simp [e], e ▸ hs⟩
          · exact .inl e
        next => exact .inl h
      · exact .inr ⟨by simp [hx], hf.sendable hs⟩
    · rcases hg with h | ⟨hmem, hs⟩
      · by_cases hsf : s.sendable f = true
        · obtain ⟨x, hx, hxb⟩ := hbest b (.inl ((if_pos hsf).trans hb))
          exact ⟨x, hx, hxb.trans (hbg g h)⟩
        · exact hbest g (.inl ((if_neg hsf).trans h))
      · rcases List.mem_cons.1 hmem with e | hmem
        · subst e
          have hsf : s.sendable g = true := (hf.trans htested).sendable hs
          obtain ⟨x, hx, hxb⟩ := hbest b (.inl ((if_pos hsf).trans hb))
          exact ⟨x, hx, hxb.trans hbf⟩
        · exact hbest g (.inr ⟨hmem, hs⟩)

/-! ### Heads that join their hold lists (R49, R51) -/

/-- The first `n` frames of the FIFO of a source have joined their hold lists (R49). -/
def Moved (s t : State) (o : OutSrc) (n : Nat) : Prop :=
  n ≤ (s.src o).fifo.length ∧ (t.src o).fifo = (s.src o).fifo.drop n ∧ (t.src o).nextSub = (s.src o).nextSub
  ∧ ∀ c : ChanId, (t.src o).holds[c.val] = (s.src o).holds[c.val]
    ++ (((s.src o).fifo.take n).filter fun f => f.chan = c).map fun f => { f with held := some s.uptime }

theorem moved_zero {s t : State} {o : OutSrc} (h : t.src o = s.src o) : Moved s t o 0 := by
  simp [Moved, h]

/-- Two frames of one source are in the same group: for CONTROL the group of their kinds (R52). -/
abbrev SameGroup (o : OutSrc) (h f : Frame) : Prop := o = .control → h.kind.turnover = f.kind.turnover

theorem holdsBack_iff (r : Source) (o : OutSrc) (f : Frame) :
    r.holdsBack o f = true ↔ ∃ h ∈ r.holds[f.chan.val], SameGroup o h f := by
  have hne : (!r.holds[f.chan.val].isEmpty) = true ↔ ∃ h ∈ r.holds[f.chan.val], True := by
    rw [Bool.not_eq_true', List.isEmpty_eq_false_iff_exists_mem]
    simp
  cases o with
  | control => simp [Source.holdsBack, SameGroup]
  | g => exact hne.trans (by simp [SameGroup])
  | p => exact hne.trans (by simp [SameGroup])
  | m => exact hne.trans (by simp [SameGroup])

theorem src_modSrc (s : State) (o p : OutSrc) (f : Source → Source) :
    (s.modSrc o f).src p = if p = o then f (s.src o) else s.src p := by
  cases o <;> cases p <;> rfl

theorem moved_holdHead {s : State} {o : OutSrc} {f : Frame} {l : List Frame} (h : (s.src o).fifo = f :: l) :
    Moved s (s.holdHead o f) o 1 := by
  have hsrc : (s.holdHead o f).src o = { s.src o with
      fifo := (s.src o).fifo.drop 1
      holds := (s.src o).holds.set f.chan.val ((s.src o).holds[f.chan.val] ++ [{ f with held := some s.uptime }]) } :=
    (src_modSrc ..).trans (if_pos rfl)
  refine ⟨by simp [h], by rw [hsrc], by rw [hsrc], fun c => ?_⟩
  rw [hsrc, h]
  by_cases hc : f.chan = c
  · subst hc
    simp
  · have hv : f.chan.val ≠ c.val := fun e => hc (Fin.ext e)
    simp [hv, hc]

theorem Moved.trans {s t u : State} {o : OutSrc} {m n : Nat} (h : Moved s t o m) (k : Moved t u o n)
    (huptime : t.uptime = s.uptime) : Moved s u o (m + n) := by
  obtain ⟨hlen, hfifo, hsub, hholds⟩ := h
  obtain ⟨klen, kfifo, ksub, kholds⟩ := k
  rw [hfifo] at klen
  rw [List.length_drop] at klen
  refine ⟨by omega, ?_, ksub.trans hsub, fun c => ?_⟩
  · rw [kfifo, hfifo, List.drop_drop]
  · rw [kholds, hholds, hfifo, huptime, List.take_add, List.filter_append, List.map_append, List.append_assoc]

theorem tested_holdHead (l : List Frame) (s : State) (o : OutSrc) (f : Frame) : Tested l s (s.holdHead o f) := by
  refine ⟨by cases o <;> rfl, fun c => .inl ?_, fun pt => ?_, fun k hk => .inl ?_, fun k hk => ?_, fun _ => ?_⟩
  · cases o <;> rfl
  · have hport : (s.holdHead o f).port pt = s.port pt := by cases o <;> cases pt <;> rfl
    rw [hport]
    exact ⟨rfl, rfl, rfl⟩
  · cases o <;> exact hk
  · cases o <;> exact hk
  · cases o <;> rfl

/-- What becomes of the head that a scan of the FIFO does not offer (R51 step 2). -/
def passed (s : State) (o : OutSrc) (f : Frame) : State :=
  (if (s.src o).holdsBack o f = true then s else (s.testFrame f).1).holdHead o f

theorem scanFifo_cons (o : OutSrc) (f : Frame) (l : List Frame) (s : State) : State.scanFifo o (f :: l) s
    = if (s.src o).holdsBack o f = false ∧ s.sendable f = true then ((s.testFrame f).1, some f)
      else State.scanFifo o l (passed s o f) := by
  unfold passed
  rw [State.scanFifo]
  cases hb : (s.src o).holdsBack o f with
  | true => simp
  | false =>
    cases htest : s.testFrame f with
    | mk t b =>
      have hb : s.sendable f = b := by rw [← testFrame_snd, htest]
      rw [hb]
      cases b <;> simp

/-- `t` is what a scan of the FIFO `l` of a source leaves of `s`, and `r` what it offers (R51 steps 2 and 3): `n` heads
have joined their hold lists, each not sendable or held back. -/
structure Scanned (m : List Frame) (o : OutSrc) (l : List Frame) (n : Nat) (s t : State) (r : Option Frame) : Prop where
  tested : Tested m s t
  other : ∀ p, p ≠ o → t.src p = s.src p
  sendable : ∀ f, r = some f → s.sendable f = true
  moved : Moved s t o n
  back : ∀ j g, j < n → l[j]? = some g → t.sendable g = true →
    (∃ h ∈ (s.src o).holds[g.chan.val], SameGroup o h g)
      ∨ ∃ i h, i < j ∧ l[i]? = some h ∧ h.chan = g.chan ∧ SameGroup o h g
  empty : r = none → n = l.length
  offered : ∀ f, r = some f → l[n]? = some f
    ∧ ∀ h ∈ (t.src o).holds[f.chan.val], o = .control ∧ h.kind.turnover ≠ f.kind.turnover

theorem scanned_nil (m : List Frame) (o : OutSrc) (s : State) : Scanned m o [] 0 s s none where
  tested := .refl m s
  other _ _ := rfl
  sendable _ h := by cases h
  moved := moved_zero rfl
  back j _ h := absurd h (Nat.not_lt_zero j)
  empty _ := rfl
  offered _ h := by cases h

/-- The head is sendable and not held back: it is offered. -/
theorem scanned_ready {m : List Frame} {o : OutSrc} {f : Frame} {l : List Frame} {s : State} (hf : f ∈ m)
    (hback : (s.src o).holdsBack o f = false) (hs : s.sendable f = true) :
    Scanned m o (f :: l) 0 s (s.testFrame f).1 (some f) where
  tested := tested_testFrame hf s
  other p _ := src_testFrame s f p
  sendable x h := by cases h; exact hs
  moved := moved_zero (src_testFrame s f o)
  back j _ h := absurd h (Nat.not_lt_zero j)
  empty h := by cases h
  offered x hx := by
    cases hx
    refine ⟨rfl, fun h hh => ?_⟩
    rw [src_testFrame] at hh
    have hno : ¬ SameGroup o h f := fun hg => by
      have := (holdsBack_iff (s.src o) o f).2 ⟨h, hh, hg⟩
      rw [hback] at this
      cases this
    by_cases ho : o = .control
    · exact ⟨ho, fun hg => hno fun _ => hg⟩
    · exact absurd (fun e => absurd e ho) hno

/-- What the head that is not offered leaves of the state, and where it goes. -/
theorem passed_spec {m : List Frame} {o : OutSrc} {f : Frame} {l : List Frame} {s : State} (hf : f ∈ m)
    (hl : (s.src o).fifo = f :: l) :
    Tested m s (passed s o f) ∧ Moved s (passed s o f) o 1 ∧ ∀ p, p ≠ o → (passed s o f).src p = s.src p := by
  unfold passed
  have htested : Tested m s (if (s.src o).holdsBack o f = true then s else (s.testFrame f).1) := by
    split
    · exact .refl m s
    · exact tested_testFrame hf s
  have hsrc (p : OutSrc) : (if (s.src o).holdsBack o f = true then s else (s.testFrame f).1).src p = s.src p := by
    split
    · rfl
    · exact src_testFrame ..
  generalize (if (s.src o).holdsBack o f = true then s else (s.testFrame f).1) = s1 at htested hsrc
  have huptime : s1.uptime = s.uptime := by have := congrArg State.uptime htested.frame; exact this
  exact ⟨htested.trans (tested_holdHead m s1 o f),
    (moved_zero (hsrc o)).trans (moved_holdHead ((congrArg Source.fifo (hsrc o)).trans hl)) huptime,
    fun p hp => (src_modSrc ..).trans ((if_neg hp).trans (hsrc p))⟩

/-- The head is passed over, and the scan goes on behind it. -/
theorem scanned_passed {m : List Frame} {o : OutSrc} {f : Frame} {l : List Frame} {n : Nat} {s t : State}
    {r : Option Frame} (hf : f ∈ m) (hl : (s.src o).fifo = f :: l)
    (hno : ¬ ((s.src o).holdsBack o f = false ∧ s.sendable f = true)) (k : Scanned m o l n (passed s o f) t r) :
    Scanned m o (f :: l) (1 + n) s t r := by
  obtain ⟨htested, hmoved, hother⟩ := passed_spec hf hl
  have huptime : (passed s o f).uptime = s.uptime := by have := congrArg State.uptime htested.frame; exact this
  obtain ⟨-, -, -, hholds⟩ := id hmoved
  refine ⟨htested.trans k.tested, fun p hp => (k.other p hp).trans (hother p hp),
    fun x hx => htested.sendable (k.sendable x hx), hmoved.trans k.moved huptime, fun j g hj hg hs => ?_,
    fun hx => by rw [k.empty hx, List.length_cons, Nat.add_comm], fun x hx => ?_⟩
  · cases j with
    | zero =>
      cases hg
      have hsf := (htested.trans k.tested).sendable hs
      have hback : (s.src o).holdsBack o f = true := by
        cases hb : (s.src o).holdsBack o f with
        | true => rfl
        | false => exact absurd ⟨hb, hsf⟩ hno
      exact .inl ((holdsBack_iff ..).1 hback)
    | succ j =>
      rcases k.back j g (by omega) hg hs with ⟨h, hh, hgroup⟩ | ⟨i, h, hi, hh, hc, hgroup⟩
      · rw [hholds g.chan, hl] at hh
        rcases List.mem_append.1 hh with hh | hh
        · exact .inl ⟨h, hh, hgroup⟩
        · obtain ⟨x, hx, rfl⟩ := List.mem_map.1 hh
          obtain ⟨hx, hxc⟩ := List.mem_filter.1 hx
          have hxf : x = f := by simpa using hx
          subst hxf
          exact .inr ⟨0, x, by omega, rfl, of_decide_eq_true hxc, hgroup⟩
      · exact .inr ⟨i + 1, h, by omega, hh, hc, hgroup⟩
  · obtain ⟨hget, hgroup⟩ := k.offered x hx
    refine ⟨?_, hgroup⟩
    rw [Nat.add_comm]
    exact hget

theorem scanned_scanFifo (o : OutSrc) (l : List Frame) (s : State) {m : List Frame} (hm : ∀ f ∈ l, f ∈ m)
    (hl : (s.src o).fifo = l) : ∃ n, Scanned m o l n s (State.scanFifo o l s).1 (State.scanFifo o l s).2 := by
  induction l generalizing s with
  | nil => exact ⟨0, scanned_nil m o s⟩
  | cons f l ih =>
    rw [scanFifo_cons]
    by_cases hready : (s.src o).holdsBack o f = false ∧ s.sendable f = true
    · rw [if_pos hready]
      exact ⟨0, scanned_ready (hm f (by simp)) hready.1 hready.2⟩
    · rw [if_neg hready]
      obtain ⟨-, ⟨-, hfifo, -⟩, -⟩ := passed_spec (hm f (by simp)) hl
      obtain ⟨n, h⟩ := ih (passed s o f) (fun g hg => hm g (by simp [hg])) (by rw [hfifo, hl]; rfl)
      exact ⟨1 + n, scanned_passed (hm f (by simp)) hl hready h⟩

end Sys2Proof.Proofs

/-! What a consulted source offers, what the consultation of an event leaves, and the arbiter's choice (R51, R79, R82,
R84). -/

namespace Sys2Proof.Proofs
open Sys2Proof.Machine

/-! ### One source -/

/-- A held frame that a source tests (R51 step 1, R52). -/
def First (s : State) (o : OutSrc) (f : Frame) : Prop :=
  if o = .control then (s.src o).holds[0].find? (fun g => g.kind.turnover = f.kind.turnover) = some f
  else ∃ c : ChanId, (s.src o).holds[c.val].head? = some f

theorem mem_find_toList {l : List Frame} {p : Frame → Bool} {f : Frame} :
    f ∈ (l.find? p).toList ↔ l.find? p = some f := by
  cases l.find? p <;> simp [eq_comm]

theorem mem_firsts (s : State) (o : OutSrc) (f : Frame) : f ∈ (s.src o).firsts o ↔ First s o f := by
  have hport : f ∈ (s.src o).holds.toList.filterMap List.head?
      ↔ ∃ c : ChanId, (s.src o).holds[c.val].head? = some f := by
    rw [List.mem_filterMap]
    constructor
    · rintro ⟨l, hl, hf⟩
      obtain ⟨i, hi, e⟩ := Vector.mem_iff_getElem.1 (Vector.mem_toList_iff.1 hl)
      exact ⟨⟨i, hi⟩, by rw [e]; exact hf⟩
    · rintro ⟨c, hf⟩
      exact ⟨_, Vector.mem_toList_iff.2 (Vector.getElem_mem c.isLt), hf⟩
  cases o with
  | g => exact hport.trans (by simp [First])
  | p => exact hport.trans (by simp [First])
  | m => exact hport.trans (by simp [First])
  | control =>
    have hsome {p : Frame → Bool} (h : (s.src .control).holds[0].find? p = some f) : p f = true := List.find?_some h
    rw [Source.firsts, List.mem_append, mem_find_toList, mem_find_toList, First, if_pos rfl]
    cases hk : f.kind.turnover with
    | true =>
      refine (or_iff_left fun h => ?_).trans (by simp)
      have := hsome h
      simp [hk] at this
    | false =>
      refine (or_iff_right fun h => ?_).trans (by simp)
      have := hsome h
      simp [hk] at this

theorem first_held {s : State} {o : OutSrc} {f : Frame} (h : First s o f) : f ∈ (s.src o).waiting := by
  have hmem : ∃ c : ChanId, f ∈ (s.src o).holds[c.val] := by
    unfold First at h
    split at h
    · exact ⟨0, List.mem_of_find?_eq_some h⟩
    · obtain ⟨c, h⟩ := h
      exact ⟨c, List.mem_of_mem_head? h⟩
  obtain ⟨c, hc⟩ := hmem
  refine List.mem_append.2 (.inl (List.mem_flatten.2 ⟨_, Vector.mem_toList_iff.2 (Vector.getElem_mem c.isLt), hc⟩))

/-- A consultation offers an earliest sendable first held frame, or what the scan of the FIFO finds (R51). -/
theorem consult_cases (s : State) (o : OutSrc) :
    (∃ f, (s.consult o).2 = some f ∧ First s o f ∧ s.sendable f = true ∧ (∀ p, (s.consult o).1.src p = s.src p)
      ∧ Tested (s.src o).waiting s (s.consult o).1
      ∧ ∀ g, First s o g → (s.consult o).1.sendable g = true → f.sub ≤ g.sub)
    ∨ ∃ n t, Tested (s.src o).waiting s t ∧ (∀ p, t.src p = s.src p)
      ∧ (∀ g, First s o g → t.sendable g = false)
      ∧ Scanned (s.src o).waiting o (s.src o).fifo n t (s.consult o).1 (s.consult o).2 := by
  obtain ⟨htested, hsrc, hres, hbest⟩ := testHeld_spec ((s.src o).firsts o) s none (m := (s.src o).waiting)
    fun f hf => first_held ((mem_firsts s o f).1 hf)
  unfold State.consult
  cases h : State.testHeld ((s.src o).firsts o) s none with
  | mk t r =>
    rw [h] at htested hsrc hres hbest
    cases r with
    | some f =>
      refine .inl ⟨f, rfl, ?_⟩
      rcases hres f rfl with e | ⟨hmem, hs⟩
      · cases e
      · refine ⟨(mem_firsts s o f).1 hmem, hs, hsrc, htested, fun g hg hgs => ?_⟩
        obtain ⟨x, hx, hle⟩ := hbest g (.inr ⟨(mem_firsts s o g).2 hg, hgs⟩)
        cases hx
        exact hle
    | none =>
      have hfifo : (t.src o).fifo = (s.src o).fifo := congrArg Source.fifo (hsrc o)
      obtain ⟨n, hn⟩ := scanned_scanFifo o (t.src o).fifo t (m := (s.src o).waiting)
        (fun f hf => List.mem_append_right _ (hfifo ▸ hf)) rfl
      refine .inr ⟨n, t, htested, hsrc, fun g hg => ?_, hfifo ▸ hn⟩
      cases hgs : t.sendable g with
      | false => rfl
      | true =>
        obtain ⟨x, hx, -⟩ := hbest g (.inr ⟨(mem_firsts s o g).2 hg, hgs⟩)
        cases hx

theorem Moved.congr {s s' t t' : State} {o : OutSrc} {n : Nat} (h : Moved s t o n) (hs : s.src o = s'.src o)
    (ht : t.src o = t'.src o) (hu : s.uptime = s'.uptime) : Moved s' t' o n := by
  unfold Moved at h ⊢
  rw [← hs, ← ht, ← hu]
  exact h

/-- What a consulted source leaves of the state. -/
theorem consult_leaves (s : State) (o : OutSrc) : Tested (s.src o).waiting s (s.consult o).1
    ∧ (∀ p, p ≠ o → (s.consult o).1.src p = s.src p) ∧ ∃ n, Moved s (s.consult o).1 o n := by
  rcases consult_cases s o with ⟨f, -, -, -, hsrc, htested, -⟩ | ⟨n, t, htested, hsrc, -, hscan⟩
  · exact ⟨htested, fun p _ => hsrc p, 0, moved_zero (hsrc o)⟩
  · have huptime : t.uptime = s.uptime := by have := congrArg State.uptime htested.frame; exact this
    exact ⟨htested.trans hscan.tested, fun p hp => (hscan.other p hp).trans (hsrc p), n,
      hscan.moved.congr (hsrc o) rfl huptime⟩

/-! ### The four sources -/

/-- The frames of the four sources. -/
def waitingAll (s : State) : List Frame :=
  s.srcControl.waiting ++ s.srcP.waiting ++ s.srcG.waiting ++ s.srcM.waiting

theorem mem_waitingAll {s : State} {f : Frame} : f ∈ waitingAll s ↔ ∃ o, f ∈ (s.src o).waiting := by
  simp only [waitingAll, List.mem_append]
  constructor
  · rintro (((h | h) | h) | h)
    exacts [⟨.control, h⟩, ⟨.p, h⟩, ⟨.g, h⟩, ⟨.m, h⟩]
  · rintro ⟨o, h⟩
    cases o
    exacts [.inl (.inr h), .inl (.inl (.inr h)), .inr h, .inl (.inl (.inl h))]

theorem offers_leaves (s : State) : Tested (waitingAll s) s s.offers.1 ∧ ∀ o, ∃ n, Moved s s.offers.1 o n := by
  obtain ⟨h1, o1, n1, m1⟩ := consult_leaves s .control
  obtain ⟨h2, o2, n2, m2⟩ := consult_leaves (s.consult .control).1 .p
  obtain ⟨h3, o3, n3, m3⟩ := consult_leaves ((s.consult .control).1.consult .p).1 .g
  obtain ⟨h4, o4, n4, m4⟩ := consult_leaves (((s.consult .control).1.consult .p).1.consult .g).1 .m
  have he : s.offers.1 = ((((s.consult .control).1.consult .p).1.consult .g).1.consult .m).1 := by rw [State.offers]
  rw [he]
  generalize (s.consult .control).1 = a at *
  generalize (a.consult .p).1 = b at *
  generalize (b.consult .g).1 = c at *
  generalize (c.consult .m).1 = d at *
  have hp : a.src .p = s.src .p := o1 .p (by decide)
  have hg : b.src .g = s.src .g := (o2 .g (by decide)).trans (o1 .g (by decide))
  have hm : c.src .m = s.src .m := (o3 .m (by decide)).trans ((o2 .m (by decide)).trans (o1 .m (by decide)))
  have kc : d.src .control = a.src .control :=
    (o4 .control (by decide)).trans ((o3 .control (by decide)).trans (o2 .control (by decide)))
  have kp : d.src .p = b.src .p := (o4 .p (by decide)).trans (o3 .p (by decide))
  have kg : d.src .g = c.src .g := o4 .g (by decide)
  rw [hp] at h2
  rw [hg] at h3
  rw [hm] at h4
  have mono {o : OutSrc} {x y : State} (h : Tested (s.src o).waiting x y) : Tested (waitingAll s) x y :=
    h.mono fun f hf => mem_waitingAll.2 ⟨o, hf⟩
  have uptime {l : List Frame} {x y : State} (h : Tested l x y) : y.uptime = x.uptime := by
    have := congrArg State.uptime h.frame
    exact this
  refine ⟨(((mono h1).trans (mono h2)).trans (mono h3)).trans (mono h4), fun o => ?_⟩
  cases o with
  | control => exact ⟨n1, m1.congr rfl kc.symm rfl⟩
  | p => exact ⟨n2, m2.congr hp kp.symm (uptime h1)⟩
  | g => exact ⟨n3, m3.congr hg kg.symm ((uptime h2).trans (uptime h1))⟩
  | m => exact ⟨n4, m4.congr hm rfl ((uptime h3).trans ((uptime h2).trans (uptime h1)))⟩

theorem rest_of_none {s a : State} (hfree : s.coreFree = true) (h : s.arbitrate = (a, none)) :
    s.rest = { a with arb := a.arb.roundEnd } := by
  rw [State.rest, if_pos hfree, h]

theorem rest_of_some {s a : State} {x : Choice} (h : s.arbitrate = (a, some x)) : s.rest = s := by
  rw [State.rest, h]
  split <;> rfl

/-- The consultation that an event ends with leaves the state, or what the sources' consultation left with the round
ended. -/
theorem rest_cases (s : State) : s.rest = s
    ∨ ∃ a, s.rest = { a with arb := a.arb.roundEnd } ∧ Tested (waitingAll s) s a ∧ ∀ o, ∃ n, Moved s a o n := by
  cases hfree : s.coreFree with
  | false => exact .inl (State.rest_working s hfree)
  | true =>
    cases h : s.arbitrate with
    | mk a x =>
      have ha : s.offers.1 = a := by rw [← State.arbitrate_fst, h]
      cases x with
      | none => exact .inr ⟨a, rest_of_none hfree h, ha ▸ offers_leaves s⟩
      | some x => exact .inl (rest_of_some h)

theorem grows_rest {s : State} {k : FaultKind} (h : k ∈ s.fault.latches) : k ∈ s.rest.fault.latches := by
  rcases rest_cases s with e | ⟨a, e, htested, -⟩
  · rwa [e]
  · rw [e]
    exact htested.grows k h

/-! ### The choice (R82) -/

theorem rotation_all (a : Requester) (r : Requester) : r ∈ Machine.rotation a := by cases a <;> cases r <;> simp [Machine.rotation]

theorem pick_eq_none (a : Arbiter) (x : Offers) : a.pick x = none ↔ ∀ r, x.ready r = false := by
  unfold Arbiter.pick
  dsimp only
  cases h : ((Machine.rotation a.last).filter x.ready).find? fun r => decide (a.spent.get r < a.shares.get r) with
  | some r =>
    have hr := List.mem_of_find?_eq_some h
    simp only [reduceCtorEq, false_iff]
    intro hno
    have := (List.mem_filter.1 hr).2
    rw [hno r] at this
    cases this
  | none =>
    simp only [List.head?_eq_none_iff, List.filter_eq_nil_iff]
    exact ⟨fun hno r => by simpa using hno r (rotation_all _ r), fun hno r _ => by simp [hno r]⟩

/-- No element before the one that a search finds passes the test. -/
theorem not_of_idxOf_lt {α : Type} [BEq α] [LawfulBEq α] {l : List α} {p : α → Bool} {r q : α}
    (h : l.find? p = some r) (hq : l.idxOf q < l.idxOf r) : p q = false := by
  obtain ⟨hr, as, bs, rfl, has⟩ := List.find?_eq_some_iff_append.1 h
  have hno : r ∉ as := fun hmem => by
    have := has r hmem
    simp [hr] at this
  have hidx : (as ++ r :: bs).idxOf r = as.length := by
    rw [List.idxOf_append_of_notMem hno, List.idxOf_cons_self, Nat.add_zero]
  rw [hidx] at hq
  have hmem : q ∈ as := by
    by_contra hn
    rw [List.idxOf_append_of_notMem hn] at hq
    omega
  simpa using has q hmem

/-- The requester of steps 2 and 3 of R82: a ready one below its share, or the first ready one. -/
theorem pick_eq_some {a : Arbiter} {x : Offers} {r : Requester} (h : a.pick x = some r) :
    x.ready r = true
    ∧ ((∃ q, x.ready q = true ∧ a.spent.get q < a.shares.get q) → a.spent.get r < a.shares.get r)
    ∧ (∀ q, (Machine.rotation a.last).idxOf q < (Machine.rotation a.last).idxOf r → x.ready q = true →
        a.shares.get q ≤ a.spent.get q ∧ a.spent.get r < a.shares.get r) := by
  unfold Arbiter.pick at h
  cases hbelow : ((Machine.rotation a.last).filter x.ready).find? fun r => decide (a.spent.get r < a.shares.get r) with
  | some y =>
    simp only [hbelow, Option.some.injEq] at h
    subst h
    rw [List.find?_filter] at hbelow
    have hy := List.find?_some hbelow
    simp only [decide_eq_true_eq] at hy
    refine ⟨hy.1, fun _ => hy.2, fun q hq hready => ⟨?_, hy.2⟩⟩
    have := not_of_idxOf_lt hbelow hq
    simpa [hready] using this
  | none =>
    simp only [hbelow] at h
    rw [List.head?_filter] at h
    refine ⟨List.find?_some h, fun ⟨q, hready, hlt⟩ => ?_, fun q hq hready => ?_⟩
    · have := List.find?_eq_none.1 hbelow q (List.mem_filter.2 ⟨rotation_all _ q, hready⟩)
      simp [hlt] at this
    · rw [not_of_idxOf_lt h hq] at hready
      cases hready

/-! ### The test of a frame -/

theorem allows_iff (k : Kind) (st : ChanState) : k.allows st = true
    ↔ if k = .hello then st = .booting else st = .live ∨ ((k = .turnAsk ∨ k = .turnDone) ∧ st = .frozen) := by
  cases k <;> simp [Kind.allows]

/-- The trunk that a route names, with a free place on it (R50). -/
theorem placeFor_isSome (s : State) (f : Frame) : (s.placeFor f).isSome = true
    ↔ ∃ k, (match (s.chan f.chan).limits.route with
        | .t0Only => k = .t0
        | .t1Only => k = .t1
        | .follow => s.active = some k)
      ∧ (s.trunk k).state = .up ∧ (s.trunk k).queue.length + (s.trunk k).reserved < (s.trunk k).depth := by
  have hplace (o : Option Trunk) : (o.filter fun t => (s.trunk t).state == .up && (s.trunk t).placeFree).isSome = true
      ↔ ∃ k, o = some k ∧ (s.trunk k).state = .up
        ∧ (s.trunk k).queue.length + (s.trunk k).reserved < (s.trunk k).depth := by
    cases o <;> simp [TrunkRec.placeFree, Option.filter_some]
  rw [State.placeFor, hplace]
  refine exists_congr fun k => ?_
  cases (s.chan f.chan).limits.route with
  | follow => rfl
  | t0Only =>
    refine and_congr_left fun ⟨hup, _⟩ => ?_
    cases k with
    | t0 => simp [State.routeTrunk, show s.t0.state = .up from hup]
    | t1 => by_cases h : s.t0.state = .up <;> simp [State.routeTrunk, h]
  | t1Only =>
    refine and_congr_left fun ⟨hup, _⟩ => ?_
    cases k with
    | t0 => by_cases h : s.t1.state = .up <;> simp [State.routeTrunk, h]
    | t1 => simp [State.routeTrunk, show s.t1.state = .up from hup]

theorem sendable_iff (s : State) (f : Frame) : s.sendable f = true
    ↔ (if f.kind = .hello then (s.chan f.chan).state = .booting
        else (s.chan f.chan).state = .live
          ∨ ((f.kind = .turnAsk ∨ f.kind = .turnDone) ∧ (s.chan f.chan).state = .frozen))
      ∧ Wears s f (fun need most => need ≤ most)
      ∧ ∃ k, (match (s.chan f.chan).limits.route with
          | .t0Only => k = .t0
          | .t1Only => k = .t1
          | .follow => s.active = some k)
        ∧ (s.trunk k).state = .up ∧ (s.trunk k).queue.length + (s.trunk k).reserved < (s.trunk k).depth := by
  rw [State.sendable, Bool.and_eq_true, Bool.and_eq_true, allows_iff, wearOk_iff, and_assoc]
  exact and_congr_right fun _ => and_congr_right fun _ => placeFor_isSome s f

theorem freeze_of_live {s : State} {c : ChanId} (h : (s.chan c).state = .live) :
    (s.freeze c).chan c = { s.chan c with state := .frozen } ∧ FaultKind.channelFrozen ∈ (s.freeze c).fault.latches := by
  have he : s.freeze c = ((s.modChan c fun ch => { ch with state := .frozen }).raise .channelFrozen
      (some c)).tellChannel c := if_pos h
  rw [he]
  constructor
  · rw [chan_tellChannel, chan_of_outcomeStep (State.raise_step ..).outcome]
    exact (State.chan_modChan ..).trans (if_pos rfl)
  · rw [State.tellChannel, State.latchChannel, State.modPort_fault]
    exact (mem_latches_raise ..).2 (.inr rfl)

theorem freeze_of_not_live {s : State} {c : ChanId} (h : (s.chan c).state ≠ .live) : s.freeze c = s := if_neg h

/-- Settles O20. -/
theorem consultationAndChoice : Obligations.ConsultationAndChoice := by
  unfold Obligations.ConsultationAndChoice
  intro moved wears first
  refine ⟨fun s => ?_, fun s f => ?_, fun s t o r h => ?_, fun s a x h => ?_, fun a x => ?_⟩
  · refine ⟨fun h => State.rest_working s h, fun a hfree h => rest_of_none hfree h, fun a x h => rest_of_some h,
      by simp [State.coreFree], ?_⟩
    rcases rest_cases s with e | ⟨a, e, htested, hmoved⟩
    · rw [e]
      exact ⟨rfl, fun _ => .inl rfl, fun h => absurd rfl h, fun o => ⟨0, moved_zero rfl⟩, fun _ => ⟨rfl, rfl, rfl⟩,
        fun k hk => .inl hk, fun _ => rfl⟩
    · have harb : a.arb = s.arb := by have := congrArg State.arb htested.frame; exact this
      rw [e]
      refine ⟨?_, fun c => ?_, fun _ => ?_, hmoved, htested.port, htested.latches, htested.quiet⟩
      · have := congrArg (fun x : State => { x with arb := s.arb }) htested.frame
        exact this
      · refine (htested.chan c).imp_right fun ⟨hs, ec, f, hf, hfc, hw⟩ => ?_
        obtain ⟨o, ho⟩ := mem_waitingAll.1 hf
        exact ⟨hs, ec, o, f, ho, hfc, (wearFails_iff s f).1 hw⟩
      · rw [← harb]
        rfl
  · refine ⟨sendable_iff s f, testFrame_snd s f, fun d hd => ?_, fun hlive hw => ?_, fun hno => ?_⟩
    · rcases (tested_testFrame (List.mem_singleton_self f) s).chan d with e | ⟨-, -, g, hg, hgd, -⟩
      · exact e
      · rw [List.mem_singleton.1 hg] at hgd
        exact absurd hgd.symm hd
    · rw [testFrame_fst, if_pos ((wearFails_iff s f).2 hw)]
      exact freeze_of_live hlive
    · rw [testFrame_fst]
      split
      next hw => exact freeze_of_not_live fun hlive => hno ⟨hlive, (wearFails_iff s f).1 hw⟩
      next => rfl
  · have ht : (s.consult o).1 = t := congrArg Prod.fst h
    have hr : (s.consult o).2 = r := congrArg Prod.snd h
    rcases consult_cases s o with ⟨f, hf, hfirst, hs, hsrc, htested, hbest⟩ | ⟨n, u, htested, hsrc, hno, hscan⟩
    · rw [ht] at hsrc hbest
      rw [hr] at hf
      refine ⟨fun g hg => ?_, fun p _ => hsrc p, .inl ⟨f, hf, hfirst, hsrc o, hbest⟩⟩
      cases hf.symm.trans hg
      exact hs
    · rw [ht, hr] at hscan
      have huptime : u.uptime = s.uptime := by have := congrArg State.uptime htested.frame; exact this
      refine ⟨fun f hf => htested.sendable (hscan.sendable f hf), fun p hp => (hscan.other p hp).trans (hsrc p),
        .inr ⟨fun g hg => ?_, n, hscan.moved.congr (hsrc o) rfl huptime, fun j g hj hg hs => ?_, hscan.empty,
          hscan.offered⟩⟩
      · cases hgs : t.sendable g with
        | false => rfl
        | true =>
          rw [← hno g hg]
          exact (hscan.tested.sendable hgs).symm
      · have := hscan.back j g hj hg hs
        rw [hsrc o] at this
        exact this
  · constructor
    · intro f hf
      simp only [State.arbitrate, h, hf]
    · intro hc
      simp only [State.arbitrate, h, hc]
  · exact ⟨pick_eq_none a x, fun r hr => pick_eq_some hr⟩

end Sys2Proof.Proofs

/-! OUTBOUND_JOB_START and INBOUND_JOB_START (R31, R55, R61, R81 to R84). -/

namespace Sys2Proof.Proofs
open Sys2Proof.Machine

/-! ### Accounts -/

theorem PerReq.get_set (q : PerReq) (r x : Requester) (n : Nat) :
    (q.set r n).get x = if x = r then n else q.get x := by
  cases r <;> cases x <;> rfl

/-- The accounts after a job of a requester starts (R81), and at the end of the round (R84). -/
theorem charge_spec (a : Arbiter) (r : Requester) (u : Nat) :
    (a.charge r u).last = r ∧ (a.charge r u).shares = a.shares
    ∧ (a.total + u < 512 → (a.charge r u).total = a.total + u
      ∧ (a.charge r u).spent.get r = a.spent.get r + u ∧ ∀ q, q ≠ r → (a.charge r u).spent.get q = a.spent.get q)
    ∧ (512 ≤ a.total + u → (a.charge r u).total = 0 ∧ (a.charge r u).spent = ⟨0, 0, 0, 0⟩) := by
  by_cases h : 512 ≤ a.total + u
  · have he : a.charge r u = Arbiter.roundEnd
        { a with spent := a.spent.set r (a.spent.get r + u), total := a.total + u, last := r } := if_pos h
    rw [he]
    exact ⟨rfl, rfl, fun h' => absurd h (Nat.not_le.2 h'), fun _ => ⟨rfl, rfl⟩⟩
  · have he : a.charge r u = { a with spent := a.spent.set r (a.spent.get r + u), total := a.total + u, last := r } :=
      if_neg h
    rw [he]
    exact ⟨rfl, rfl, fun _ => ⟨rfl, (PerReq.get_set ..).trans (if_pos rfl),
      fun q hq => (PerReq.get_set ..).trans (if_neg hq)⟩, fun h' => absurd h' h⟩

/-! ### Outbound -/

theorem Source.removeSub_eq (r : Source) (sub : Nat) : r.removeSub sub
    = { r with fifo := r.fifo.filter fun g => g.sub ≠ sub, holds := r.holds.map fun l => l.filter fun g => g.sub ≠ sub } := by
  have hp : (fun g : Frame => !(g.sub == sub)) = fun g : Frame => decide (g.sub ≠ sub) := by
    funext g
    exact bne_eq_decide_ne g.sub sub
  simp only [Source.removeSub, Source.without, hp]

theorem bindSlot_eq {a : State} {f : Frame} {i : SlotId} {k : Keyed} (hslot : a.slotOf f.chan .active = some i)
    (hwipe : (a.slot i).wipePending = false) (hkey : (a.slot i).keyed = some k)
    (hwear : k.wear + f.cost ≤ a.wearLimit f.chan f.kind) : a.bindSlot f = some (i, k) := by
  simp only [State.bindSlot, hslot, Option.bind_some, hwipe, hkey, Option.filter_some, decide_eq_true hwear]
  rfl

/-- A state with what an outbound job start touches put back as it was in `a`. -/
abbrev jobUndone (a x : State) : State :=
  { x with
    core := a.core, slots := a.slots, chans := a.chans, t0 := a.t0, t1 := a.t1, srcG := a.srcG, srcP := a.srcP
    srcM := a.srcM, srcControl := a.srcControl }

theorem jobUndone_modTrunk (a x : State) (w : Trunk) (g : TrunkRec → TrunkRec) :
    jobUndone a (x.modTrunk w g) = jobUndone a x := by cases w <;> rfl

theorem jobUndone_modSrc (a x : State) (o : OutSrc) (g : Source → Source) :
    jobUndone a (x.modSrc o g) = jobUndone a x := by cases o <;> rfl

theorem jobUndone_modSlot (a x : State) (i : SlotId) (g : Slot → Slot) :
    jobUndone a (x.modSlot i g) = jobUndone a x := rfl

theorem jobUndone_modChan (a x : State) (c : ChanId) (g : Chan → Chan) :
    jobUndone a (x.modChan c g) = jobUndone a x := rfl

theorem jobUndone_beginOut (a : State) (f : Frame) (i : SlotId) (k : Keyed) (w : Trunk) :
    jobUndone a (a.beginOut f i k w) = a :=
  (jobUndone_modTrunk ..).trans ((jobUndone_modChan ..).trans ((jobUndone_modSlot ..).trans (jobUndone_modSrc ..)))

/-- What the start of a bound frame's job leaves (R31, R55). -/
theorem beginOut_spec {a : State} {f : Frame} {i : SlotId} {k : Keyed} (hkey : (a.slot i).keyed = some k) (w : Trunk) :
    (a.beginOut f i k w).core = .outbound (f.boundTo i k w) (some w) false
    ∧ (a.beginOut f i k w).slot i = { a.slot i with
        inFlight := true, keyed := some { k with wear := k.wear + f.cost, nextSeq := k.nextSeq + 1 } }
    ∧ (∀ j, j ≠ i → (a.beginOut f i k w).slot j = a.slot j)
    ∧ (a.beginOut f i k w).chan f.chan
        = { a.chan f.chan with units := min ((a.chan f.chan).units + f.cost) max32 }
    ∧ (∀ d, d ≠ f.chan → (a.beginOut f i k w).chan d = a.chan d)
    ∧ (a.beginOut f i k w).trunk w = { a.trunk w with reserved := (a.trunk w).reserved + 1 }
    ∧ (a.beginOut f i k w).trunk w.other = a.trunk w.other
    ∧ (a.beginOut f i k w).src f.src = { a.src f.src with
        fifo := (a.src f.src).fifo.filter fun g => g.sub ≠ f.sub
        holds := (a.src f.src).holds.map fun l => l.filter fun g => g.sub ≠ f.sub }
    ∧ (∀ o, o ≠ f.src → (a.beginOut f i k w).src o = a.src o) := by
  have hslot (j : SlotId) : (a.beginOut f i k w).slot j = (a.modSlot i fun x => x.charged f.cost).slot j := by
    simp only [State.beginOut, State.slot, State.modTrunk_slots, State.modChan_slots, State.modSlot, State.modSrc_slots]
  have hchan (d : ChanId) :
      (a.beginOut f i k w).chan d = (a.modChan f.chan fun ch => ch.charged f.cost).chan d := by
    simp only [State.beginOut, State.chan, State.modTrunk_chans, State.modChan, State.modSlot_chans, State.modSrc_chans]
  have htrunk (j : Trunk) : (a.beginOut f i k w).trunk j
      = (a.modTrunk w fun r => { r with reserved := r.reserved + 1 }).trunk j := by
    have h (j : Trunk) : (((a.modSrc f.src fun r => r.removeSub f.sub).modSlot i fun x => x.charged f.cost).modChan
        f.chan fun ch => ch.charged f.cost).trunk j = a.trunk j := by cases j <;> simp [State.trunk]
    refine Eq.trans (b := (State.modTrunk (((a.modSrc f.src fun r => r.removeSub f.sub).modSlot i fun x =>
      x.charged f.cost).modChan f.chan fun ch => ch.charged f.cost) w fun r => { r with reserved := r.reserved + 1 }).trunk
      j) (by cases j <;> rfl) ?_
    rw [trunk_modTrunk, trunk_modTrunk, h, h]
  have hsrc (o : OutSrc) : (a.beginOut f i k w).src o = (a.modSrc f.src fun r => r.removeSub f.sub).src o := by
    refine Eq.trans (b := (State.modTrunk (((a.modSrc f.src fun r => r.removeSub f.sub).modSlot i fun x =>
      x.charged f.cost).modChan f.chan fun ch => ch.charged f.cost) w fun r => { r with reserved := r.reserved + 1 }).src
      o) (by cases o <;> rfl) ?_
    cases o <;> simp [State.src]
  refine ⟨rfl, ?_, fun j hj => ?_, ?_, fun d hd => ?_, ?_, ?_, ?_, fun o ho => ?_⟩
  · rw [hslot, State.slot_modSlot, if_pos rfl, Slot.charged, hkey]
    rfl
  · rw [hslot, State.slot_modSlot, if_neg hj]
  · rw [hchan, State.chan_modChan, if_pos rfl]
    rfl
  · rw [hchan, State.chan_modChan, if_neg hd]
  · rw [htrunk, trunk_modTrunk, if_pos rfl]
  · rw [htrunk, trunk_modTrunk, if_neg (Trunk.other_ne w)]
  · rw [hsrc, src_modSrc, if_pos rfl, Source.removeSub_eq]
  · rw [hsrc, src_modSrc, if_neg ho]

theorem rest_of_core {s : State} (h : s.core ≠ .idle) : s.rest = s :=
  State.rest_working s (by simp [State.Working, State.coreFree, h])

theorem exec_outboundJobStart_control {s a : State} {f : Frame} (hfree : s.coreFree = true)
    (h : s.arbitrate = (a, some (.control f))) : exec .outboundJobStart s = .next (a.bindOut f none).rest := by
  have hexec : exec .outboundJobStart s = execOutboundJobStart s := rfl
  rw [hexec, execOutboundJobStart, if_pos hfree, h]

theorem exec_outboundJobStart_outbound {s a : State} {r : Requester} {f : Frame} (hfree : s.coreFree = true)
    (h : s.arbitrate = (a, some (.outbound r f))) :
    exec .outboundJobStart s = .next (a.bindOut f (some r)).rest := by
  have hexec : exec .outboundJobStart s = execOutboundJobStart s := rfl
  rw [hexec, execOutboundJobStart, if_pos hfree, h]

/-- Settles O21: the bound frame's job starts, and its requester is charged. -/
theorem outboundJobStartBindsAndCharges : Obligations.OutboundJobStartBindsAndCharges := by
  have hexec (s : State) : exec .outboundJobStart s = execOutboundJobStart s := rfl
  refine ⟨fun s => ⟨fun h => ?_, fun a hfree h => ?_, fun a h => ?_⟩,
    fun s a chosen f i k w hfree harb hchosen hslot hwipe hkey hwear hplace => ?_⟩
  · rw [hexec, execOutboundJobStart, h]
    rfl
  · rw [hexec, execOutboundJobStart, if_pos hfree, h]
    rfl
  · rw [hexec, execOutboundJobStart, h]
    split <;> rfl
  · rw [← wearLimit_eq] at hwear
    have hbind := bindSlot_eq hslot hwipe hkey hwear
    obtain ⟨hcore, hsl, hslots, hch, hchans, htr, hother, hsrc, hsrcs⟩ := beginOut_spec (f := f) hkey w
    have hframe := jobUndone_beginOut a f i k w
    have harb' : (a.beginOut f i k w).arb = a.arb := by have := congrArg State.arb hframe; exact this
    have hnot (x : Core) (h : x = .outbound (f.boundTo i k w) (some w) false) : x ≠ .idle := by rw [h]; nofun
    rcases hchosen with rfl | ⟨r, rfl⟩
    · have hout : a.bindOut f none = a.beginOut f i k w := by simp only [State.bindOut, hbind, hplace]
      refine ⟨a.beginOut f i k w, ?_, hcore, hsl, hslots, hch, hchans, htr, hother, hsrc, hsrcs, fun _ => harb', nofun,
        ?_⟩
      · rw [exec_outboundJobStart_control hfree harb, hout, rest_of_core (hnot _ hcore)]
      · exact (congrArg (fun x : State => { x with arb := a.arb }) hframe).trans rfl
    · have hout : a.bindOut f (some r)
          = { a.beginOut f i k w with arb := (a.beginOut f i k w).arb.charge r f.cost } := by
        simp only [State.bindOut, hbind, hplace]
      rw [harb'] at hout
      obtain ⟨h1, h2, h3, h4⟩ := charge_spec a.arb r f.cost
      refine ⟨{ a.beginOut f i k w with arb := a.arb.charge r f.cost }, ?_, hcore, hsl, hslots, hch, hchans, htr, hother,
        hsrc, hsrcs, nofun, fun q hq => ?_, ?_⟩
      · rw [exec_outboundJobStart_outbound hfree harb, hout]
        exact congrArg _ (rest_of_core (hnot _ hcore))
      · cases hq
        exact ⟨h1, h2, h3, h4⟩
      · exact (congrArg (fun x : State => { x with arb := a.arb }) hframe).trans rfl

/-! ### Inbound -/

theorem exec_inboundJobStart_inbound {s a : State} (hfree : s.coreFree = true)
    (h : s.arbitrate = (a, some .inbound)) : exec .inboundJobStart s = .next a.beginIn.rest := by
  have hexec : exec .inboundJobStart s = execInboundJobStart s := rfl
  rw [hexec, execInboundJobStart, if_pos hfree, h]

theorem beginIn_of_match {a : State} {f : InFrame} {fs : List InFrame} {i : SlotId} (hfifo : a.inFifo = f :: fs)
    (hmatch : a.matchSlot f.chan f.epoch = some i) : a.beginIn
      = { a.modSlot i fun k => { k with inFlight := true } with
          inFifo := fs, core := .inbound f i, arb := a.arb.charge .inbound f.cost } := by
  have h : State.matchSlot { a with inFifo := fs } f.chan f.epoch = some i := hmatch
  simp only [State.beginIn, hfifo, h]
  rfl

theorem beginIn_of_no_match {a : State} {f : InFrame} {fs : List InFrame} (hfifo : a.inFifo = f :: fs)
    (hmatch : a.matchSlot f.chan f.epoch = none) :
    a.beginIn = State.countDrop (State.giveBuf { a with inFifo := fs } .inbound) f.trunk .unknownEpoch := by
  have h : State.matchSlot { a with inFifo := fs } f.chan f.epoch = none := hmatch
  simp only [State.beginIn, hfifo, h]

/-- Settles O50: the head's job starts under its slot, or the frame is dropped. -/
theorem inboundJobStartMatchesOrDrops : Obligations.InboundJobStartMatchesOrDrops := by
  have hexec (s : State) : exec .inboundJobStart s = execInboundJobStart s := rfl
  refine ⟨fun s => ⟨fun h => ?_, fun a hfree h => ?_, fun a x h hx => ?_⟩,
    fun s a f fs hfree harb hfifo => ⟨fun i hmatch => ?_, fun hmatch hheld => ?_⟩⟩
  · rw [hexec, execInboundJobStart, h]
    rfl
  · rw [hexec, execInboundJobStart, if_pos hfree, h]
    rfl
  · rw [hexec, execInboundJobStart, h]
    cases x with
    | inbound => exact absurd rfl hx
    | control g => split <;> rfl
    | outbound r g => split <;> rfl
  · obtain ⟨hlast, -, hlt, hge⟩ := charge_spec a.arb .inbound f.cost
    have hslot (j : SlotId) := State.slot_modSlot a i j fun k => { k with inFlight := true }
    refine ⟨{ a.modSlot i fun k => { k with inFlight := true } with
        inFifo := fs, core := .inbound f i, arb := a.arb.charge .inbound f.cost }, ?_, rfl, rfl, (hslot i).trans (if_pos rfl),
      fun j hj => (hslot j).trans (if_neg hj), hlast, fun h => ?_, hge, rfl⟩
    · rw [exec_inboundJobStart_inbound hfree harb, beginIn_of_match hfifo hmatch]
      exact congrArg _ (rest_of_core nofun)
    · refine ⟨(hlt h).1, ?_⟩
      have he : a.arb.charge .inbound f.cost = { a.arb with
          spent := a.arb.spent.set .inbound (a.arb.spent.get .inbound + f.cost), total := a.arb.total + f.cost
          last := .inbound } := if_neg (Nat.not_le.2 h)
      exact congrArg Arbiter.spent he
  · rw [exec_inboundJobStart_inbound hfree harb, beginIn_of_no_match hfifo hmatch,
      giveBuf_inbound (s := { a with inFifo := fs }) hheld]
    rfl

end Sys2Proof.Proofs

/-! The window of a slot (R63), and the precheck of received frames (R147, R148, Table 7-4). -/

namespace Sys2Proof.Proofs
open Sys2Proof.Machine

/-! ### The window -/

theorem judge_accept_iff (k : Keyed) (p : Nat) : k.judge p = .accept
    ↔ k.top < p ∨ (1 ≤ p ∧ p ≤ k.top ∧ k.top < p + 64 ∧ k.marks.getLsbD (k.top - p) = false) := by
  unfold Keyed.judge
  split_ifs with h1 h2 h3 <;> simp_all
  all_goals omega

theorem judge_late_iff (k : Keyed) (p : Nat) : k.judge p = .late ↔ p = 0 ∨ p + 64 ≤ k.top := by
  unfold Keyed.judge
  split_ifs with h1 h2 h3 <;> simp_all
  omega

theorem judge_repeated_iff (k : Keyed) (p : Nat) : k.judge p = .repeated
    ↔ 1 ≤ p ∧ p ≤ k.top ∧ k.top < p + 64 ∧ k.marks.getLsbD (k.top - p) = true := by
  unfold Keyed.judge
  split_ifs with h1 h2 h3 <;> simp_all <;> omega

/-- The highest number after a record (R63). -/
theorem top_record (k : Keyed) (q : Nat) : (k.record q).top = max k.top q := by
  unfold Keyed.record
  split <;> dsimp only <;> omega

/-- The marks after a record (R63): those before, moved with the top, and the new number's. -/
theorem marks_record (k : Keyed) {q p : Nat} (hq : q ≤ k.top → k.top < q + 64) (hp : p ≤ max k.top q)
    (hwin : max k.top q < p + 64) : (k.record q).marks.getLsbD ((k.record q).top - p)
      = (decide (p = q) || (decide (p ≤ k.top) && k.marks.getLsbD (k.top - p))) := by
  rw [top_record]
  unfold Keyed.record
  split
  next h =>
    have hmax : max k.top q = q := by omega
    rw [hmax] at hp hwin ⊢
    simp only [BitVec.getLsbD_or, BitVec.getLsbD_shiftLeft, BitVec.getLsbD_one]
    have hsub : q - p - (q - k.top) = k.top - p := by omega
    rw [hsub]
    have h1 : (q - p = 0) = (p = q) := by simp only [eq_iff_iff]; omega
    have h2 : (q - p < q - k.top) = ¬ (p ≤ k.top) := by simp only [eq_iff_iff]; omega
    have h3 : q - p < 64 := by omega
    simp only [h1, h2, h3]
    cases k.marks.getLsbD (k.top - p) <;> by_cases hpq : p = q <;> by_cases hpk : p ≤ k.top <;> simp [hpq, hpk]
  next h =>
    have hmax : max k.top q = k.top := by omega
    rw [hmax] at hp hwin ⊢
    simp only [BitVec.getLsbD_or, BitVec.getLsbD_shiftLeft, BitVec.getLsbD_one]
    by_cases hpq : p = q
    · have h1 : k.top - p < 64 := by omega
      subst hpq
      simp [h1]
    · have h1 : k.top - p < k.top - q ∨ k.top - p - (k.top - q) ≠ 0 := by omega
      rcases h1 with h1 | h1 <;> simp [hpq, h1, hp]

/-- Settles O49, from the marks of a recorded window. -/
theorem windowAcceptsEachNumberOnce : Obligations.WindowAcceptsEachNumberOnce := by
  intro k q p hq after
  have htop : after.top = max k.top q := top_record k q
  have hin : q ≤ k.top → k.top < q + 64 := fun h => by
    rcases (judge_accept_iff k q).1 hq with h' | ⟨-, -, h', -⟩ <;> omega
  have hpos : 1 ≤ q := by
    rcases (judge_accept_iff k q).1 hq with h' | ⟨h', -⟩ <;> omega
  refine ⟨judge_accept_iff k p, htop, fun h => ?_, fun h h' => ?_, fun hp hne hwin => ?_⟩
  · rcases (judge_accept_iff after q).1 h with hlt | ⟨-, hle, hlt, hmark⟩
    · omega
    · rw [marks_record k hin (htop ▸ hle) (htop ▸ hlt)] at hmark
      simp at hmark
  · rcases (judge_accept_iff after p).1 h' with hlt | ⟨h1, hle, hlt, hmark⟩
    · exact h ((judge_accept_iff k p).2 (.inl (by omega)))
    · rw [marks_record k hin (htop ▸ hle) (htop ▸ hlt)] at hmark
      refine h ((judge_accept_iff k p).2 ?_)
      by_cases hkt : p ≤ k.top
      · refine .inr ⟨h1, hkt, by omega, ?_⟩
        simpa [hkt] using (Bool.or_eq_false_iff.1 hmark).2
      · exact .inl (by omega)
  · refine (judge_accept_iff after p).2 ?_
    by_cases hle : p ≤ after.top
    · refine .inr ⟨?_, hle, hwin, ?_⟩
      · rcases (judge_accept_iff k p).1 hp with h' | ⟨h', -⟩ <;> omega
      · rw [marks_record k hin (htop ▸ hle) (htop ▸ hwin)]
        rcases (judge_accept_iff k p).1 hp with h' | ⟨-, -, -, h'⟩
        · simp [hne, Nat.not_le.2 h']
        · simp [hne, h']
    · exact .inl (by omega)

end Sys2Proof.Proofs

/-! Bytes of link frames: numbers as bytes, enciphering, and what a received frame spells (R56, R147, R191, R192). -/

namespace Sys2Proof.Proofs
open Sys2Proof.Machine

/-! ### Numbers as bytes (R191) -/

theorem ofBytes_append (l m : List Byte) : ofBytes (l ++ m) = ofBytes l * 256 ^ m.length + ofBytes m := by
  have hfold (m : List Byte) (a : Nat) : m.foldl (fun a b => a * 256 + b.toNat) a
      = a * 256 ^ m.length + m.foldl (fun a b => a * 256 + b.toNat) 0 := by
    induction m generalizing a with
    | nil => simp
    | cons b m ih =>
      rw [List.foldl_cons, List.foldl_cons, ih, ih (0 * 256 + b.toNat), List.length_cons, Nat.pow_succ]
      ring
  rw [ofBytes, List.foldl_append, hfold]
  rfl

theorem ofBytes_singleton (b : Byte) : ofBytes [b] = b.toNat := by simp [ofBytes]

theorem ofBytes_lt (l : List Byte) : ofBytes l < 256 ^ l.length := by
  induction l using List.reverseRecOn with
  | nil => simp [ofBytes]
  | append_singleton l b ih =>
    rw [ofBytes_append, ofBytes_singleton, List.length_append, List.length_singleton, Nat.pow_add]
    have := b.isLt
    omega

theorem length_beBytes (n v : Nat) : (beBytes n v).length = n := by
  induction n generalizing v with
  | zero => rfl
  | succ n ih => simp [beBytes, ih]

theorem ofBytes_beBytes (n v : Nat) : ofBytes (beBytes n v) = v % 256 ^ n := by
  induction n generalizing v with
  | zero => simp [beBytes, ofBytes, Nat.mod_one]
  | succ n ih =>
    have hpow : 256 ^ (n + 1) = 256 * 256 ^ n := Nat.pow_succ'
    rw [beBytes, ofBytes_append, ofBytes_singleton, ih, BitVec.toNat_ofNat, List.length_singleton, hpow, Nat.mod_mul]
    omega

theorem beBytes_ofBytes (l : List Byte) : beBytes l.length (ofBytes l) = l := by
  induction l using List.reverseRecOn with
  | nil => rfl
  | append_singleton l b ih =>
    have hdiv : (ofBytes l * 256 + b.toNat) / 256 = ofBytes l := by have := b.isLt; omega
    have hmod : BitVec.ofNat 8 (ofBytes l * 256 + b.toNat) = b := by
      apply BitVec.eq_of_toNat_eq
      have := b.isLt
      rw [BitVec.toNat_ofNat]
      omega
    rw [List.length_append, List.length_singleton, beBytes, ofBytes_append, ofBytes_singleton, List.length_singleton,
      Nat.pow_one, hdiv, hmod, ih]

theorem sixteenBytes_ofSixteen {l : List Byte} (h : l.length = 16) : sixteenBytes (ofSixteen l) = l := by
  have hlt := ofBytes_lt l
  rw [h] at hlt
  rw [sixteenBytes, ofSixteen, BitVec.toNat_ofNat, Nat.mod_eq_of_lt (by omega), ← h, beBytes_ofBytes]

theorem ofSixteen_sixteenBytes (x : Sixteen) : ofSixteen (sixteenBytes x) = x := by
  have := x.isLt
  rw [ofSixteen, sixteenBytes, ofBytes_beBytes, Nat.mod_eq_of_lt (by omega), BitVec.ofNat_toNat, BitVec.setWidth_eq]

/-! ### Enciphering (R56) -/

theorem cipher_cipher (key : Key) (chan dir epoch seq : Nat) (payload : List Byte) :
    cipher key chan dir epoch seq (cipher key chan dir epoch seq payload) = payload := by
  refine List.ext_getElem (by simp [cipher]) fun i h h' => ?_
  simp [cipher]

/-! ### What a received frame spells (Table 11-1) -/

theorem numAt_two {l : List Byte} {i : Nat} (h : i + 2 ≤ l.length) :
    numAt l i 2 = 256 * byteAt l i + byteAt l (i + 1) := by
  rw [numAt, List.drop_eq_getElem_cons (by omega), List.drop_eq_getElem_cons (by omega)]
  simp only [List.take_succ_cons, List.take_zero, ofBytes, List.foldl_cons, List.foldl_nil, byteAt]
  rw [List.getD_eq_getElem _ _ (by omega), List.getD_eq_getElem _ _ (by omega)]
  omega

theorem numAt_four {l : List Byte} {i : Nat} (h : i + 4 ≤ l.length) : numAt l i 4
    = 256 * (256 * (256 * byteAt l i + byteAt l (i + 1)) + byteAt l (i + 2)) + byteAt l (i + 3) := by
  rw [numAt, List.drop_eq_getElem_cons (by omega), List.drop_eq_getElem_cons (by omega),
    List.drop_eq_getElem_cons (by omega), List.drop_eq_getElem_cons (by omega)]
  simp only [List.take_succ_cons, List.take_zero, ofBytes, List.foldl_cons, List.foldl_nil, byteAt]
  rw [List.getD_eq_getElem _ _ (by omega), List.getD_eq_getElem _ _ (by omega), List.getD_eq_getElem _ _ (by omega),
    List.getD_eq_getElem _ _ (by omega)]
  simp only [Nat.add_assoc, Nat.reduceAdd]
  omega

theorem ofCode_eq_some {n : Nat} {k : Kind} : Kind.ofCode n = some k ↔ k.code = n := by
  constructor
  · intro h
    simpa using List.find?_some h
  · rintro rfl
    cases k <;> rfl

theorem ofCode_eq_none {n : Nat} : Kind.ofCode n = none
    ↔ n ∉ [0x01, 0x10, 0x11, 0x20, 0x21, 0x22, 0x23, 0x24, 0x30, 0x31] := by
  simp [Kind.ofCode, Kind.all, Kind.code]
  omega

theorem code_eq_one (k : Kind) : k.code = 1 ↔ k = .data := by cases k <;> simp [Kind.code]

/-- The bytes pass tests 1 to 3 of Table 7-4, with kind `k`. -/
structure Spells (bytes : List Byte) (k : Kind) : Prop where
  length : bytes.length = 26 + numAt bytes 8 2
  low : 1 ≤ numAt bytes 8 2
  high : numAt bytes 8 2 ≤ 2048
  chan : byteAt bytes 0 < 32
  kind : k.code = byteAt bytes 1
  group : k = .data ↔ byteAt bytes 0 ≠ 0

theorem parseFrame_of_spells {bytes : List Byte} {k : Kind} (h : Spells bytes k) (t : Trunk) :
    parseFrame t bytes = some ⟨t, ⟨byteAt bytes 0, h.chan⟩, k, numAt bytes 2 2, numAt bytes 4 4,
      (bytes.drop 10).take (numAt bytes 8 2), ofSixteen (bytes.drop (10 + numAt bytes 8 2))⟩ := by
  have hgroup : ((k == .data) == (byteAt bytes 0 != 0)) = true := by
    rw [beq_iff_eq, Bool.eq_iff_iff]
    simpa using h.group
  unfold parseFrame
  simp only [if_pos (And.intro h.length (And.intro h.low h.high)), dif_pos h.chan, ofCode_eq_some.2 h.kind, hgroup,
    if_true]

theorem spells_of_parseFrame {bytes : List Byte} {t : Trunk} {f : InFrame} (h : parseFrame t bytes = some f) :
    Spells bytes f.kind := by
  unfold parseFrame at h
  simp only at h
  split at h
  next hlen =>
    split at h
    next hchan =>
      split at h
      next => cases h
      next k hk =>
        split at h
        next hg =>
          cases h
          have hg' : k = .data ↔ byteAt bytes 0 ≠ 0 := by
            rw [beq_iff_eq, Bool.eq_iff_iff] at hg
            simpa using hg
          exact ⟨hlen.1, hlen.2.1, hlen.2.2, hchan, ofCode_eq_some.1 hk, hg'⟩
        next => cases h
    next => cases h
  next => cases h

theorem numAt_field {bytes pre x post : List Byte} {i n : Nat} (h : bytes = pre ++ x ++ post) (hi : pre.length = i)
    (hn : x.length = n) : numAt bytes i n = ofBytes x := by
  subst hi hn
  rw [numAt, h, List.append_assoc, List.drop_left, List.take_left]

/-- A frame's header, payload and tag spell the frame (R147, R192). -/
theorem parseFrame_bytes (f : InFrame) (hepoch : f.epoch < 65536) (hseq : f.seq < 4294967296)
    (hlow : 1 ≤ f.payload.length) (hhigh : f.payload.length ≤ 2048) (hgroup : f.kind = .data ↔ f.chan ≠ 0) :
    parseFrame f.trunk (f.header ++ f.payload ++ sixteenBytes f.auth) = some f := by
  have hcode : f.kind.code < 256 := by cases f.kind <;> decide
  have hchan := f.chan.isLt
  have hb1 (n : Nat) : (b1 n).length = 1 := length_beBytes 1 n
  have hb2 (n : Nat) : (b2 n).length = 2 := length_beBytes 2 n
  have hb4 (n : Nat) : (b4 n).length = 4 := length_beBytes 4 n
  have htag : (sixteenBytes f.auth).length = 16 := length_beBytes 16 _
  generalize hbytes : f.header ++ f.payload ++ sixteenBytes f.auth = bytes
  have hheader : f.header.length = 10 := by simp [InFrame.header, headerBytes, hb1, hb2, hb4]
  have hlen : numAt bytes 8 2 = f.payload.length := by
    rw [numAt_field (pre := b1 f.chan.val ++ b1 f.kind.code ++ b2 f.epoch ++ b4 f.seq) (x := b2 f.payload.length)
      (post := f.payload ++ sixteenBytes f.auth) (by simp [← hbytes, InFrame.header, headerBytes])
      (by simp [hb1, hb2, hb4]) (hb2 _)]
    exact (ofBytes_beBytes 2 _).trans (Nat.mod_eq_of_lt (by omega))
  have hepochAt : numAt bytes 2 2 = f.epoch := by
    rw [numAt_field (pre := b1 f.chan.val ++ b1 f.kind.code) (x := b2 f.epoch)
      (post := b4 f.seq ++ b2 f.payload.length ++ f.payload ++ sixteenBytes f.auth)
      (by simp [← hbytes, InFrame.header, headerBytes]) (by simp [hb1]) (hb2 _)]
    exact (ofBytes_beBytes 2 _).trans (Nat.mod_eq_of_lt (by omega))
  have hseqAt : numAt bytes 4 4 = f.seq := by
    rw [numAt_field (pre := b1 f.chan.val ++ b1 f.kind.code ++ b2 f.epoch) (x := b4 f.seq)
      (post := b2 f.payload.length ++ f.payload ++ sixteenBytes f.auth)
      (by simp [← hbytes, InFrame.header, headerBytes]) (by simp [hb1, hb2]) (hb4 _)]
    exact (ofBytes_beBytes 4 _).trans (Nat.mod_eq_of_lt (by omega))
  have hchanAt : byteAt bytes 0 = f.chan.val := by
    have : byteAt bytes 0 = (BitVec.ofNat 8 f.chan.val).toNat := by rw [← hbytes]; rfl
    rw [this, BitVec.toNat_ofNat, Nat.mod_eq_of_lt (by omega)]
  have hcodeAt : byteAt bytes 1 = f.kind.code := by
    have : byteAt bytes 1 = (BitVec.ofNat 8 f.kind.code).toNat := by rw [← hbytes]; rfl
    rw [this, BitVec.toNat_ofNat, Nat.mod_eq_of_lt (by omega)]
  have hpayload : (bytes.drop 10).take f.payload.length = f.payload := by
    rw [← hbytes, List.append_assoc, ← hheader, List.drop_left, List.take_left]
  have htagAt : bytes.drop (10 + f.payload.length) = sixteenBytes f.auth := by
    rw [← hbytes, ← hheader, ← List.length_append, List.drop_left]
  have hspells : Spells bytes f.kind := by
    refine ⟨?_, by omega, by omega, by omega, hcodeAt.symm, hgroup.trans ?_⟩
    · rw [hlen, ← hbytes, List.length_append, List.length_append, hheader, htag]
      omega
    · rw [hchanAt, not_iff_not, Fin.ext_iff]
      rfl
  rw [parseFrame_of_spells hspells]
  obtain ⟨trunk, chan, kind, epoch, seq, payload, auth⟩ := f
  simp only at hlen hepochAt hseqAt hchanAt hpayload htagAt
  simp only [hlen, hepochAt, hseqAt, hchanAt, hpayload, htagAt, ofSixteen_sixteenBytes]

/-- Settles O23. -/
theorem cipheredFramesAreReadBack : Obligations.CipheredFramesAreReadBack :=
  ⟨fun key chan dir epoch seq payload => ⟨cipher_cipher key chan dir epoch seq payload, List.length_mapIdx⟩,
    parseFrame_bytes⟩

/-! ### The precheck (Table 7-4) -/

theorem parseFrame_eq_none (k : Trunk) (bytes : List Byte) : parseFrame k bytes = none ↔ ¬ ∃ x, Spells bytes x := by
  constructor
  · rintro h ⟨x, hx⟩
    rw [parseFrame_of_spells hx] at h
    cases h
  · intro h
    cases hp : parseFrame k bytes with
    | none => rfl
    | some f => exact absurd ⟨f.kind, spells_of_parseFrame hp⟩ h

theorem exec_frameReceived {s : State} {k : Trunk} (h : (s.trunk k).state ≠ .off) (bytes : List Byte) :
    exec (.frameReceived k bytes) s = .next (s.receive k bytes) := if_neg h

/-- What the precheck does with a frame that spells (tests 4 to 6 of Table 7-4). -/
theorem receive_of_drop {s : State} {k : Trunk} {bytes : List Byte} {f : InFrame} {d : Drop}
    (hp : parseFrame k bytes = some f) (hd : s.precheck f = some d) : s.receive k bytes = s.countDrop k d := by
  simp only [State.receive, hp, hd]

section
variable {s : State} {f : InFrame} {i : SlotId} {w : Keyed}

theorem precheck_of_accept (hmatch : s.matchSlot f.chan f.epoch = some i) (hkey : (s.slot i).keyed = some w)
    (h : w.judge f.seq = .accept) : s.precheck f = none := by
  simp only [State.precheck, hmatch, Option.bind_some, hkey, h]

theorem precheck_of_late (hmatch : s.matchSlot f.chan f.epoch = some i) (hkey : (s.slot i).keyed = some w)
    (h : w.judge f.seq = .late) : s.precheck f = some .late := by
  simp only [State.precheck, hmatch, Option.bind_some, hkey, h]

theorem precheck_of_repeated (hmatch : s.matchSlot f.chan f.epoch = some i) (hkey : (s.slot i).keyed = some w)
    (h : w.judge f.seq = .repeated) : s.precheck f = some .repeated := by
  simp only [State.precheck, hmatch, Option.bind_some, hkey, h]

end

theorem exists_spells (bytes : List Byte) :
    (∃ x, Spells bytes x) ↔ ¬ (bytes.length ≠ 26 + numAt bytes 8 2 ∨ numAt bytes 8 2 = 0 ∨ 2048 < numAt bytes 8 2
      ∨ 31 < byteAt bytes 0
      ∨ byteAt bytes 1 ∉ [0x01, 0x10, 0x11, 0x20, 0x21, 0x22, 0x23, 0x24, 0x30, 0x31]
      ∨ (byteAt bytes 1 = 0x01 ∧ byteAt bytes 0 = 0) ∨ (byteAt bytes 1 ≠ 0x01 ∧ byteAt bytes 0 ≠ 0)) := by
  simp only [not_or, not_and, not_not]
  constructor
  · rintro ⟨x, h⟩
    have hone : byteAt bytes 1 = 1 ↔ byteAt bytes 0 ≠ 0 := by rw [← h.kind, code_eq_one]; exact h.group
    refine ⟨h.length, ?_, ?_, ?_, ?_, hone.1, fun hn => by_contra fun h0 => hn (hone.2 h0)⟩
    · have := h.low
      omega
    · exact Nat.not_lt.2 h.high
    · have := h.chan
      omega
    · by_contra hno
      rw [← ofCode_eq_none, ← h.kind] at hno
      rw [ofCode_eq_some.2 rfl] at hno
      cases hno
  · rintro ⟨hlen, hlow, hhigh, hchan, hcode, hdata, hcontrol⟩
    cases hk : Kind.ofCode (byteAt bytes 1) with
    | none => exact absurd hcode (ofCode_eq_none.1 hk)
    | some x =>
      have hx := ofCode_eq_some.1 hk
      refine ⟨x, hlen, by omega, by omega, by omega, hx, ?_⟩
      rw [← code_eq_one, hx]
      exact ⟨hdata, fun h0 => by_contra fun h1 => h0 (hcontrol h1)⟩

theorem parse_spells (k : Trunk) (bytes : List Byte) :
    let byte (i : Nat) : Nat := (bytes.getD i 0).toNat
    let len := 256 * byte 8 + byte 9
    (parseFrame k bytes = none ↔ bytes.length ≠ 10 + len + 16 ∨ len = 0 ∨ 2048 < len ∨ 31 < byte 0
      ∨ byte 1 ∉ [0x01, 0x10, 0x11, 0x20, 0x21, 0x22, 0x23, 0x24, 0x30, 0x31] ∨ (byte 1 = 0x01 ∧ byte 0 = 0)
      ∨ (byte 1 ≠ 0x01 ∧ byte 0 ≠ 0))
    ∧ (∀ f, parseFrame k bytes = some f → f.trunk = k ∧ f.chan.val = byte 0 ∧ f.kind.code = byte 1
      ∧ f.epoch = 256 * byte 2 + byte 3 ∧ f.seq = 256 * (256 * (256 * byte 4 + byte 5) + byte 6) + byte 7
      ∧ f.payload = (bytes.drop 10).take len ∧ sixteenBytes f.auth = bytes.drop (10 + len)) := by
  intro byte len
  constructor
  · rw [parseFrame_eq_none]
    by_cases hl : 10 ≤ bytes.length
    · have hlen : numAt bytes 8 2 = len := numAt_two hl
      rw [exists_spells, hlen, not_not, show 26 + len = 10 + len + 16 by omega]
      rfl
    · refine iff_of_true (fun ⟨x, h⟩ => ?_) (.inl (by omega))
      have := h.length
      omega
  · intro f hf
    have h := spells_of_parseFrame hf
    have hlength := h.length
    rw [parseFrame_of_spells h] at hf
    have hlen : numAt bytes 8 2 = len := numAt_two (by omega)
    rw [hlen] at hf hlength
    have hf := Option.some.inj hf
    have hepoch : f.epoch = numAt bytes 2 2 := by rw [← hf]
    have hseq : f.seq = numAt bytes 4 4 := by rw [← hf]
    have hauth : f.auth = ofSixteen (bytes.drop (10 + len)) := by rw [← hf]
    refine ⟨by rw [← hf], by rw [← hf]; rfl, h.kind, hepoch.trans (numAt_two (by omega)),
      hseq.trans (numAt_four (by omega)), by rw [← hf], ?_⟩
    rw [hauth, sixteenBytes_ofSixteen]
    rw [List.length_drop]
    omega

/-- Settles O48: what the bytes spell, and the tests in order. -/
theorem precheckCountsOrAccepts : Obligations.PrecheckCountsOrAccepts := by
  refine ⟨parse_spells, fun s k bytes => ?_⟩
  intro counted up
  have hcount (d : Drop) (n : Counters → Counters) (h : ∀ x : Counters, x.bump d = n x) :
      s.countDrop k d = counted n := modTrunk_congr (by rw [h])
  refine ⟨fun h => ⟨if_pos h, if_pos h⟩, fun h => ⟨?_, fun hp => ?_, fun f hp => ⟨fun hm => ?_,
    fun i w hm hk => ⟨fun hj => ?_, fun h1 h2 h3 h4 => ?_, fun hj => ⟨fun hroom hfree => ?_, fun hfull => ?_⟩⟩⟩⟩⟩
  · exact (if_neg h).trans (congrArg _ (hcount .badHeader _ fun _ => rfl))
  · rw [exec_frameReceived h]
    simp only [State.receive, hp]
    exact congrArg _ (hcount .badHeader _ fun _ => rfl)
  · have hd : s.precheck f = some .unknownEpoch := by simp only [State.precheck, hm, Option.bind_none]
    rw [exec_frameReceived h, receive_of_drop hp hd]
    exact congrArg _ (hcount .unknownEpoch _ fun _ => rfl)
  · have hd := precheck_of_late hm hk ((judge_late_iff w f.seq).2 hj)
    rw [exec_frameReceived h, receive_of_drop hp hd]
    exact congrArg _ (hcount .late _ fun _ => rfl)
  · have hd := precheck_of_repeated hm hk ((judge_repeated_iff w f.seq).2 ⟨h1, h2, h3, h4⟩)
    rw [exec_frameReceived h, receive_of_drop hp hd]
    exact congrArg _ (hcount .repeated _ fun _ => rfl)
  · have hd := precheck_of_accept hm hk ((judge_accept_iff w f.seq).2 hj)
    rw [exec_frameReceived h]
    simp only [State.receive, hp, hd, takeBuf_of_room (h := .inbound) hroom hfree]
    rfl
  · have hd := precheck_of_accept hm hk ((judge_accept_iff w f.seq).2 hj)
    have hno : ¬ (s.pool.held .inbound < s.pool.alloc .inbound ∧ 0 < s.pool.free) := fun ⟨h1, h2⟩ =>
      hfull.elim (fun h => absurd h1 (Nat.not_lt.2 h)) fun h => absurd h (Nat.pos_iff_ne_zero.1 h2)
    rw [exec_frameReceived h]
    simp only [State.receive, hp, hd, takeBuf_eq_none hno]
    exact congrArg (fun t : State => Host.Outcome.next (t.raise .rxOverrun (some f.chan) (some k)))
      (hcount .overrun _ fun _ => rfl)

end Sys2Proof.Proofs

/-! OUTBOUND_JOB_END (R58, R144, R38) and HOLD_EXPIRY (R54). -/

namespace Sys2Proof.Proofs
open Sys2Proof.Machine

/-! ### The slot at the end of its job (R38) -/

/-- The part with a free core whose slot carries no job any more, or is wiped when that was pending (R38). -/
def freed (s : State) (i : SlotId) : State :=
  if (s.slot i).wipePending then
    { s.modSlot i fun _ => .wiped with core := .idle, derivs := s.derivs.filter fun x => !x.into i }
  else { s.modSlot i fun x => { x with inFlight := false } with core := .idle }

theorem modSlot_modSlot (s : State) (i : SlotId) (f g : Slot → Slot) :
    (s.modSlot i f).modSlot i g = s.modSlot i (fun k => g (f k)) := by
  simp [State.modSlot, Vector.set_set]

theorem releaseSlot_eq {s : State} {i : SlotId} (hcore : s.core = .idle) (hstate : (s.slot i).state ≠ .empty) :
    s.releaseSlot i = freed s i := by
  have hslot : (s.modSlot i fun k => { k with inFlight := false }).slot i = { s.slot i with inFlight := false } :=
    (State.slot_modSlot ..).trans (if_pos rfl)
  unfold State.releaseSlot freed
  dsimp only
  rw [hslot]
  split
  case isTrue =>
    rw [State.wipe, hslot]
    dsimp only
    rw [if_neg hstate, if_neg nofun, modSlot_modSlot]
    have hidle : ((s.modSlot i fun _ => Slot.wiped).core) = .idle := hcore
    simp only [State.abandonInto, hidle]
    rfl
  case isFalse => rw [← hcore]; rfl

/-- The end of a job's slot concerns the slots, the core and the waiting derivations alone. -/
theorem releaseSlot_of_frame {s t : State} {i : SlotId} (hcore : t.core = .idle) (hslots : t.slots = s.slots)
    (hderivs : t.derivs = s.derivs) (hstate : (s.slot i).state ≠ .empty) :
    t.releaseSlot i = { t with slots := (freed s i).slots, core := .idle, derivs := (freed s i).derivs } := by
  have hslot : t.slot i = s.slot i := congrArg (fun v : Vector Slot 48 => v[i.val]) hslots
  rw [releaseSlot_eq hcore (by rw [hslot]; exact hstate)]
  unfold freed
  rw [hslot]
  split
  · simp only [State.modSlot, hslots, hderivs]
  · simp only [State.modSlot, hslots, hderivs]

theorem reportTest_congr (s : State) (v : Vector Slot 48) (k : Core) (d : List Derivation) (b : Bool) :
    State.reportTest { s with slots := v, core := k, derivs := d } b
      = { s.reportTest b with slots := v, core := k, derivs := d } := by
  rw [reportTest_eq, reportTest_eq]
  by_cases h : (s.mayReport = true ∧ (b = true ∨ s.fault.unsentCritical = true))
      ∧ s.pool.heldControl < 8 ∧ 0 < s.pool.free
  · rw [if_pos h]
    exact (if_pos h).trans rfl
  · rw [if_neg h]
    exact if_neg h

theorem reportOutcome_congr (s : State) (v : Vector Slot 48) (k : Core) (d : List Derivation) (b : Bool) :
    State.reportOutcome { s with slots := v, core := k, derivs := d } b
      = { s.reportOutcome b with slots := v, core := k, derivs := d } := by
  cases h : s.fault.report with
  | none => simp only [State.reportOutcome, h]
  | some rep =>
    rw [reportOutcome_of_report h, reportOutcome_of_report (s := { s with slots := v, core := k, derivs := d }) h]
    exact reportTest_congr { s with fault := FaultUnit.answered s.fault rep b } v k d false

/-! ### OUTBOUND_JOB_END -/

theorem takeWaiting_of_none {s : State} (h : ∀ e ∈ s.exch, e.cutoverWaits = false) : s.takeWaiting = s := by
  have hfind : (s.exch.find? fun e => e.cutoverWaits) = none :=
    List.find?_eq_none.2 fun e he => by simp [h e he]
  simp only [State.takeWaiting, hfind]

theorem exec_outboundJobEnd {s : State} {f : Frame} {place : Option Trunk} {discard : Bool} {b : Binding}
    (hcore : s.core = .outbound f place discard) (hb : f.bound = some b) : exec .outboundJobEnd s
      = .next (((State.placeOut { s with core := .idle } (f.enciphered (s.slot b.slot)) place discard).releaseSlot
          b.slot).takeWaiting).rest := by
  have hexec : exec .outboundJobEnd s = execOutboundJobEnd s := rfl
  rw [hexec]
  simp only [execOutboundJobEnd, hcore, hb]

section
variable {s : State} {f : Frame} {place : Option Trunk} {discard : Bool} {b : Binding}

/-- The end of an outbound job that leaves `x` of the frame: the slot's release, then a waiting cutover (R58, R38). -/
theorem outboundJobEnds (hcore : s.core = .outbound f place discard) (hb : f.bound = some b)
    (hstate : (s.slot b.slot).state ≠ .empty) {x u : State}
    (hx : State.placeOut { s with core := .idle } (f.enciphered (s.slot b.slot)) place discard = x)
    (hidle : x.core = .idle) (hslots : x.slots = s.slots) (hderivs : x.derivs = s.derivs) (hexch : x.exch = s.exch)
    (hu : { x with slots := (freed s b.slot).slots, core := .idle, derivs := (freed s b.slot).derivs } = u) :
    exec .outboundJobEnd s = exec .waitingCutover u
      ∧ ((∀ e ∈ s.exch, e.cutoverWaits = false) → exec .outboundJobEnd s = .next u.rest) := by
  have hexec : exec .outboundJobEnd s = .next u.takeWaiting.rest := by
    rw [exec_outboundJobEnd hcore hb, hx, releaseSlot_of_frame hidle hslots hderivs hstate, hu]
  have huexch : u.exch = s.exch := by rw [← hu]; exact hexch
  refine ⟨hexec, fun h => ?_⟩
  rw [hexec, takeWaiting_of_none (by rw [huexch]; exact h)]

/-- The place that a job held is released (R17, R58). -/
abbrev placeReleased (s : State) (place : Option Trunk) : State :=
  match place with
  | some w => s.modTrunk w fun r => { r with reserved := r.reserved - 1 }
  | none => s

theorem placeReleased_fields (s : State) (place : Option Trunk) :
    (placeReleased s place).core = s.core ∧ (placeReleased s place).slots = s.slots
    ∧ (placeReleased s place).derivs = s.derivs ∧ (placeReleased s place).exch = s.exch
    ∧ (placeReleased s place).pool = s.pool := by
  cases place <;> simp

/-- A job whose frame has the outcome REFUSED (R58, R17, R144): what the port, or the builder, has of it. -/
theorem outboundJobRefused (hcore : s.core = .outbound f place discard) (hb : f.bound = some b)
    (hstate : (s.slot b.slot).state ≠ .empty) {k : Cause}
    (hx : State.placeOut { s with core := .idle } (f.enciphered (s.slot b.slot)) place discard
      = (placeReleased { s with core := .idle } place).outcome (f.enciphered (s.slot b.slot)) (.refused k)) :
    let released : State := placeReleased (freed s b.slot) place
    (∀ pt, f.src = Port.src pt → 0 < s.pool.held pt.holder →
      let u := State.modPort { released with
            pool := { s.pool.setHeld pt.holder (s.pool.held pt.holder - 1) with free := s.pool.free + 1 } } pt
          fun r =>
            if f.marked then { r with outstanding := r.outstanding - 1, marks := r.marks - 1 }
            else { r with
              outstanding := r.outstanding - 1
              completions := r.completions ++ [⟨f.cmdTag, 0x01, .refused k, sendData f.loc f.bound⟩]
              latches := { r.latches with completion := true } }
      exec .outboundJobEnd s = exec .waitingCutover u
        ∧ ((∀ e ∈ s.exch, e.cutoverWaits = false) → exec .outboundJobEnd s = .next u.rest))
    ∧ (f.src = .control → 0 < s.pool.heldControl →
      let returned : State := { released with
        pool := { s.pool with heldControl := s.pool.heldControl - 1, free := s.pool.free + 1 } }
      let u := if f.kind = .faultReport then returned.reportOutcome false else returned
      exec .outboundJobEnd s = exec .waitingCutover u
        ∧ ((∀ e ∈ s.exch, e.cutoverWaits = false) → exec .outboundJobEnd s = .next u.rest)) := by
  intro released
  obtain ⟨hidle, hslots, hderivs, hexch, hpool⟩ := placeReleased_fields { s with core := .idle } place
  have henc : f.enciphered (s.slot b.slot) = { f with
      payload := (f.enciphered (s.slot b.slot)).payload, auth := (f.enciphered (s.slot b.slot)).auth } := by
    simp only [Frame.enciphered, hb]
  have hreleased : { placeReleased { s with core := .idle } place with
      slots := (freed s b.slot).slots, core := .idle, derivs := (freed s b.slot).derivs } = released := by
    unfold released freed
    cases place with
    | none => split <;> rfl
    | some w => cases w <;> split <;> rfl
  refine ⟨fun pt hsrc hheld => ?_, fun hsrc hheld => ?_⟩
  · have hout := outcome_of_port (s := placeReleased { s with core := .idle } place)
      (f := f.enciphered (s.slot b.slot)) (pt := pt) (by rw [henc]; exact hsrc) (by rw [hpool]; exact hheld) (.refused k)
    refine outboundJobEnds hcore hb hstate (hx.trans hout) ?_ ?_ ?_ ?_ ?_
    · exact (State.modPort_core ..).trans hidle
    · exact (State.modPort_slots ..).trans hslots
    · exact (State.modPort_derivs ..).trans hderivs
    · exact (State.modPort_exch ..).trans hexch
    · rw [hpool, ← hreleased, henc]
      cases pt <;> rfl
  · have hout := outcome_of_control (s := placeReleased { s with core := .idle } place)
      (f := f.enciphered (s.slot b.slot)) (by rw [henc]; exact hsrc) (by rw [hpool]; exact hheld) (.refused k)
    have hkind : (f.enciphered (s.slot b.slot)).kind = f.kind := by rw [henc]
    rw [hkind, hpool] at hout
    by_cases hreport : f.kind = .faultReport
    · simp only [if_pos hreport] at hout ⊢
      have hstep := State.reportOutcome_step { placeReleased { s with core := .idle } place with
        pool := { s.pool with heldControl := s.pool.heldControl - 1, free := s.pool.free + 1 } } false
      refine outboundJobEnds hcore hb hstate (hx.trans hout) ?_ ?_ ?_ ?_ ?_
      · obtain ⟨_, _, _, _, e, -⟩ := hstep
        exact (congrArg State.core e).trans hidle
      · obtain ⟨_, _, _, _, e, -⟩ := hstep
        exact (congrArg State.slots e).trans hslots
      · obtain ⟨_, _, _, _, e, -⟩ := hstep
        exact (congrArg State.derivs e).trans hderivs
      · obtain ⟨_, _, _, _, e, -⟩ := hstep
        exact (congrArg State.exch e).trans hexch
      · refine (reportOutcome_congr ..).symm.trans (congrArg (State.reportOutcome · false) ?_)
        rw [← hreleased]
    · simp only [if_neg hreport] at hout ⊢
      refine outboundJobEnds hcore hb hstate (hx.trans hout) hidle hslots hderivs hexch ?_
      rw [← hreleased]

end

/-- Settles O22: the frame in its place, moved, lost or discarded; then the slot. -/
theorem outboundJobEndQueuesTheCipheredFrame : Obligations.OutboundJobEndQueuesTheCipheredFrame := by
  intro s f place discard b hcore hb hstate sl payload hdr sent freed' released ends refused
  have henc (w : Trunk) : Frame.onTrunk (f.enciphered sl) w = sent w := by
    simp only [Frame.enciphered, hb]
    rfl
  have hchan : (f.enciphered sl).chan = f.chan := by simp only [Frame.enciphered, hb]
  refine ⟨fun w hd hp => ?_, fun w hd hp ha hfollow hroom => ?_, fun hd hp hno => ?_, fun hd => ?_⟩
  · subst hd hp
    have hx : State.placeOut { s with core := .idle } (f.enciphered sl) (some w) false
        = ({ s with core := .idle } : State).modTrunk w fun r => { r with
            reserved := r.reserved - 1, queue := r.queue ++ [sent w] } := by
      rw [← henc w]
      cases w <;> rfl
    refine outboundJobEnds hcore hb hstate hx (State.modTrunk_core ..) (State.modTrunk_slots ..)
      (State.modTrunk_derivs ..) (State.modTrunk_exch ..) ?_
    unfold freed' freed
    cases w <;> split <;> rfl
  · subst hd hp
    have hfollows : follows { s with core := .idle } (f.enciphered sl) = true := by
      rw [follows, hchan]
      exact decide_eq_true hfollow
    have hroom' : 0 < room { s with core := .idle } := by
      simp only [room, ha]
      exact Nat.sub_pos_of_lt hroom
    have hx : State.placeOut { s with core := .idle } (f.enciphered sl) none false
        = ({ s with core := .idle } : State).modTrunk w fun r => { r with queue := r.queue ++ [sent w] } := by
      rw [← henc w]
      exact moveOrLose_of_room (s := { s with core := .idle }) ha hfollows hroom'
    refine outboundJobEnds hcore hb hstate hx (State.modTrunk_core ..) (State.modTrunk_slots ..)
      (State.modTrunk_derivs ..) (State.modTrunk_exch ..) ?_
    unfold freed' freed
    cases w <;> split <;> rfl
  · subst hd hp
    refine outboundJobRefused hcore hb hstate (moveOrLose_of_lost ?_)
    rcases hno with h | h
    · left
      rw [follows, hchan]
      exact decide_eq_false h
    · right
      unfold room
      split
      next w ha => exact Nat.sub_eq_zero_of_le (h w ha)
      next => rfl
  · subst hd
    exact outboundJobRefused hcore hb hstate (by cases place <;> rfl)

/-! ### HOLD_EXPIRY -/

theorem expired_iff (s : State) {f : Frame} {e : Nat} (he : f.held = some e) :
    s.expired f = true ↔ e + (s.chan f.chan).limits.hold ≤ s.uptime := by
  simp [State.expired, State.reached, he]

theorem exec_holdExpiry {s : State} {o : OutSrc} {sub : Nat} {f : Frame} (hf : s.heldFrame o sub = some f)
    (hx : s.expired f = true) : exec (.holdExpiry o sub) s = .next (s.expire { f with src := o }).rest := by
  have hexec : exec (.holdExpiry o sub) s = execHoldExpiry o sub s := rfl
  rw [hexec]
  simp only [execHoldExpiry, hf, if_pos hx]

/-- Settles O24: the frame leaves its source, the fault is raised, and the frame has its outcome. -/
theorem holdExpiryRefusesThePortFrame : Obligations.HoldExpiryRefusesThePortFrame := by
  intro s o sub
  have hexec : exec (.holdExpiry o sub) s = execHoldExpiry o sub s := rfl
  refine ⟨fun f e hf he hle => ?_, fun h => ?_⟩
  · intro raised
    have hsub : f.sub = sub := by simpa using List.find?_some hf
    have hraised : (s.modSrc o fun r => r.removeSub f.sub).raise .holdExpired (some f.chan) none o.port = raised := by
      have hremove : (fun r : Source => r.removeSub f.sub) = fun r : Source => { r with
          fifo := r.fifo.filter fun g => g.sub ≠ sub
          holds := r.holds.map fun l => l.filter fun g => g.sub ≠ sub } := by
        funext r
        rw [hsub]
        exact Source.removeSub_eq r sub
      rw [hremove]
    have hpool : raised.pool = s.pool := by
      obtain ⟨u, b, h⟩ := raise_of_not_critical (s.modSrc o fun r => { r with
          fifo := r.fifo.filter fun g => g.sub ≠ sub
          holds := r.holds.map fun l => l.filter fun g => g.sub ≠ sub }) (k := .holdExpired) (by decide) (some f.chan)
        none o.port
      exact (congrArg State.pool h).trans (State.modSrc_pool ..)
    have hexpire : exec (.holdExpiry o sub) s
        = .next (raised.outcome { f with src := o } (.refused .heldTooLong)).rest := by
      rw [exec_holdExpiry hf ((expired_iff s he).2 hle), ← hraised]
      rfl
    refine ⟨(mem_latches_raise ..).2 (.inr rfl), fun pt hpt hheld => ?_, fun ho hheld => ?_⟩
    · rw [hexpire, outcome_of_port (pt := pt) (show ({ f with src := o } : Frame).src = pt.src from hpt)
        (hpool ▸ hheld), hpool]
    · rw [hexpire, outcome_of_control (show ({ f with src := o } : Frame).src = .control from ho) (hpool ▸ hheld), hpool]
      rfl
  · rw [hexec]
    cases hf : s.heldFrame o sub with
    | none => simp only [execHoldExpiry, hf]
    | some f =>
      simp only [execHoldExpiry, hf]
      refine if_neg fun hx => ?_
      cases he : f.held with
      | none => simp [State.expired, State.reached, he] at hx
      | some e =>
        have := h f e hf he
        have := (expired_iff s he).1 hx
        omega

end Sys2Proof.Proofs

/-! SET_LINE and the lines (R178, R179, R180). -/

namespace Sys2Proof.Proofs
open Sys2Proof.Machine

/-! ### What drives a line and what it reads (R178) -/

theorem fnLevel_eq (s : State) (i : Fin 8) : s.fnLevel i = match i.val with
    | 3 => some s.fault.level
    | 4 => some s.portG.level
    | 5 => some s.portP.level
    | 6 => some s.portM.level
    | _ => none := by
  match i with
  | 0 | 1 | 2 | 3 | 4 | 5 | 6 | 7 => rfl

theorem drive_of_armed {s : State} {i : Fin 8} (h : i = 2 ∧ (s.line i).fn = true) :
    s.drive i = none ∧ s.readBack i = s.pin i := ⟨if_pos h, if_pos h⟩

theorem drive_of_not_armed {s : State} {i : Fin 8} (h : ¬ (i = 2 ∧ (s.line i).fn = true)) :
    s.drive i = (if (s.line i).fn = true ∧ (s.fnLevel i).isSome = true then s.fnLevel i
      else if (s.line i).dirOut then some (s.line i).latch else none)
    ∧ s.readBack i = if (s.line i).dirOut then (s.line i).latch else s.pin i := by
  refine ⟨(if_neg h).trans ?_, if_neg h⟩
  cases hl : s.fnLevel i with
  | none => simp
  | some b => cases hf : (s.line i).fn <;> simp

/-! ### The write of a line (R179) -/

section
variable {s : State} {i : Fin 8} {d l f : Option Bool}

/-- The part with the given values written into a line (R179). -/
abbrev lineWritten (s : State) (i : Fin 8) (d l f : Option Bool) : State :=
  s.modLine i fun x => x.written d l f

theorem line_two_of_ne (h : i ≠ 2) : (lineWritten s i d l f).line 2 = s.line 2 :=
  (line_modLine ..).trans (if_neg h.symm)

/-- A write arms L2 while its pin is high (R180). -/
theorem writeLine_eq : s.writeLine i d l f
    = if i = 2 ∧ (s.line 2).fn = false ∧ f = some true ∧ (s.line 2).ext = true then (lineWritten s i d l f).tamperNow
      else (lineWritten s i d l f).carrierEvents s := by
  have hpin : (lineWritten s i d l f).armed = true → (lineWritten s i d l f).pin 2 = ((lineWritten s i d l f).line 2).ext := by
    intro h
    rw [State.pin, (drive_of_armed ⟨rfl, h⟩).1]
    rfl
  refine ite_congr (propext ?_) (fun _ => rfl) fun _ => rfl
  by_cases hi : i = 2
  · subst hi
    have hline : (lineWritten s 2 d l f).line 2 = (s.line 2).written d l f := (line_modLine ..).trans (if_pos rfl)
    have harmed : (lineWritten s 2 d l f).armed = f.getD (s.line 2).fn := by rw [State.armed, hline]; rfl
    rw [hline] at hpin
    cases hfn : (s.line 2).fn with
    | true => simp [State.armed, hfn]
    | false =>
      cases f with
      | none => simp [harmed, hfn]
      | some b =>
        cases b with
        | false => simp [harmed]
        | true =>
          simp only [State.armed, hfn]
          rw [hpin (by rw [harmed]; rfl)]
          simp [Line.written]
  · have harmed : (lineWritten s i d l f).armed = s.armed := by rw [State.armed, line_two_of_ne hi]; rfl
    simp [harmed, hi]

theorem exec_setLine_of_ok {tag : Byte} (ht : s.Takes .m) (hok : s.lineCheck .m i.val f = .ok i) :
    exec (.setLine .m tag i.val d l f) s = .next (State.consulted ((s.writeLine i d l f).modPort .m fun r => { r with
      completions := r.completions ++ [⟨tag, 0x17, .done, (lineWritten s i d l f).lineBytes i⟩]
      latches := { r.latches with completion := true } }) .m) := by
  refine exec_of_finish_rest rfl ht ?_
  simp only [decision, State.setLine, hok]

theorem lineCheck_ok (hrun : s.mode = .running) (h7 : ¬ (i = 7 ∧ f = some true))
    (h2 : ¬ (i = 2 ∧ f = some false ∧ s.settings.tamperLock = true)) : s.lineCheck .m i.val f = .ok i := by
  have h7' : ¬ (i.val = 7 ∧ f = some true) := fun h => h7 ⟨Fin.ext h.1, h.2⟩
  have h2' : ¬ (i.val = 2 ∧ f = some false ∧ s.settings.tamperLock = true) := fun h => h2 ⟨Fin.ext h.1, h.2⟩
  simp only [State.lineCheck, State.onlyM_of_running hrun, dif_pos i.isLt, if_neg h7', if_neg h2']

theorem exec_setLine_refused {tag : Byte} {n : Nat} {k : Cause} (ht : s.Takes .m) (h : s.lineCheck .m n f = .error k) :
    exec (.setLine .m tag n d l f) s = .next (s.completedAt .m tag 0x17 (.refused k) []) := by
  refine exec_of_refuse rfl ht ?_
  simp only [decision, State.setLine, h]

/-- A line that is no carrier line leaves both trunks without an event (R136). -/
theorem carrierEvents_of_other_line (h : ∀ k : Trunk, k.line ≠ i) :
    (lineWritten s i d l f).carrierEvents s = lineWritten s i d l f :=
  (carrierEvents_of_other (k := .t0) (carrier_modLine_of_ne s .t1 (h .t1) _)).trans
    (carrierEvent_same (carrier_modLine_of_ne s .t0 (h .t0) _))

theorem carrierEvents_of_line (k : Trunk) :
    (lineWritten s k.line d l f).carrierEvents s = (lineWritten s k.line d l f).carrierEvent k (s.carrier k) :=
  carrierEvents_of_other (carrier_modLine_of_ne s k.other (Trunk.line_other_ne k) _)

end

/-- A carrier that falls puts a PROVING or UP trunk DOWN with TRUNK_DOWN raised (R137). -/
theorem carrierFall_spec {s : State} {k : Trunk} (h : (s.trunk k).state = .proving ∨ (s.trunk k).state = .up) :
    ((s.carrierFall k).trunk k).state = .down ∧ FaultKind.trunkDown ∈ (s.carrierFall k).fault.latches := by
  have htrunk (g : TrunkRec → TrunkRec) :
      ((s.modTrunk k g).raise .trunkDown none (some k)).trunk k = g (s.trunk k) :=
    (trunk_raise ..).trans ((trunk_modTrunk ..).trans (if_pos rfl))
  rcases h with h | h
  · simp only [State.carrierFall, h, htrunk]
    exact ⟨trivial, (mem_latches_raise ..).2 (.inr rfl)⟩
  · simp only [State.carrierFall, h]
    have hup : (((s.modTrunk k fun r => { r with state := .down }).raise .trunkDown none (some k)).trunk k).state ≠ .up := by
      rw [htrunk]
      nofun
    obtain ⟨hleft, -⟩ := leavingUpMovesOrLosesFrames _ k hup
    refine ⟨?_, latches_leaveUp hup ((mem_latches_raise ..).2 (.inr rfl))⟩
    rw [hleft]
    exact congrArg TrunkRec.state (htrunk _)

/-- What the consultation at the end of a command leaves alone. -/
theorem consulted_spec (s : State) (pt : Port) : (s.consulted pt).mode = s.mode
    ∧ (∀ i, (s.consulted pt).slot i = s.slot i) ∧ ∀ k ∈ s.fault.latches, k ∈ (s.consulted pt).fault.latches := by
  have hgrows : ∀ k ∈ s.fault.latches, k ∈ s.rest.fault.latches := fun k hk => grows_rest hk
  obtain ⟨_, _, _, _, _, _, _, _, _, _, _, _, e, -⟩ := s.rest_step
  rw [e] at hgrows
  unfold State.consulted
  rw [e]
  refine ⟨State.modPort_mode .., fun i => ?_, fun k hk => ?_⟩
  · exact congrArg (fun v : Vector Slot 48 => v[i.val]) (State.modPort_slots ..)
  · rw [State.modPort_fault]
    exact hgrows k hk

/-- A tamper outside LOCKDOWN locks the part down, with every slot wiped and TAMPER latched (R180, R189). -/
theorem tamperNow_spec {s : State} (h : s.mode ≠ .lockdown) : s.tamperNow.mode = .lockdown
    ∧ (∀ i, s.tamperNow.slot i = .wiped) ∧ FaultKind.tamper ∈ s.tamperNow.fault.latches := by
  have hmode := (tampered_frame s).1
  have hslots := (emptied_tampered s).slots
  rw [tamperNow_eq, if_neg h]
  generalize tampered s = t at hmode hslots
  obtain ⟨_, _, _, _, e, -⟩ := State.raise_step t .tamper none none none
  exact ⟨(congrArg State.mode e).trans hmode, fun i => (congrArg (State.slot · i) e).trans (hslots i),
    (mem_latches_raise ..).2 (.inr rfl)⟩

/-- Settles O38: a line's drive and read-back, then what its write leads to. -/
theorem setLineWritesTheLine : Obligations.SetLineWritesTheLine := by
  refine ⟨fun s i => ?_, fun s tag d l f ht hrun => ?_⟩
  · intro x armed level
    have hlevel : s.fnLevel i = level := fnLevel_eq s i
    refine ⟨drive_of_armed, fun h => ?_, fun b h => ?_, fun h => ?_, fun k => ?_⟩
    · rw [← hlevel]
      exact drive_of_not_armed h
    · rw [State.pin, h]
      rfl
    · rw [State.pin, h]
      rfl
    · rw [carrier_eq]
      cases (s.line k.line).fn <;> cases (s.line k.line).dirOut <;> simp
  · intro new done
    have hsix (n : Nat) (hn : 8 ≤ n) : s.lineCheck .m n f = .error .limit := by
      simp only [State.lineCheck, State.onlyM_of_running hrun, dif_neg (Nat.not_lt.2 hn)]
    have hplain {i : Fin 8} (hok : s.lineCheck .m i.val f = .ok i) (hk : ∀ k : Trunk, k.line ≠ i)
        (h2 : ¬ (i = 2 ∧ (s.line 2).fn = false ∧ f = some true ∧ (s.line 2).ext = true)) :
        exec (.setLine .m tag i.val d l f) s = .next (done (new i) i) := by
      rw [exec_setLine_of_ok ht hok, writeLine_eq, if_neg h2, carrierEvents_of_other_line hk]
      rfl
    have hcarrier (k : Trunk) : exec (.setLine .m tag k.line.val d l f) s
        = .next (done ((new k.line).carrierEvent k (s.carrier k)) k.line) := by
      have h2 : k.line ≠ 2 := by cases k <;> decide
      have h7 : k.line ≠ 7 := by cases k <;> decide
      rw [exec_setLine_of_ok ht (lineCheck_ok hrun (fun h => h7 h.1) fun h => h2 h.1), writeLine_eq,
        if_neg fun h => h2 h.1, carrierEvents_of_line k]
      rfl
    have hk2 (i : Fin 8) (hi : 2 ≤ i) (k : Trunk) : k.line ≠ i := by
      cases k <;> simp only [Trunk.line] <;> omega
    refine ⟨fun n hn => exec_setLine_refused ht (hsix n hn), fun hf => exec_setLine_refused ht ?_,
      fun hf hlock => exec_setLine_refused ht ?_, fun i hi h7 => ?_, fun hlock harm => ?_, fun hfn hf hext => ?_,
      fun k => ⟨fun h => ?_, fun h1 h0 => ?_, fun h0 h1 hstate => ?_⟩⟩
    · simp [State.lineCheck, State.onlyM_of_running hrun, hf]
    · simp [State.lineCheck, State.onlyM_of_running hrun, hf, hlock]
    · have hi2 : i ≠ 2 := by omega
      exact hplain (lineCheck_ok hrun h7 fun h => hi2 h.1) (hk2 i (by omega)) fun h => hi2 h.1
    · exact hplain (i := 2) (lineCheck_ok hrun nofun fun h => hlock h.2) (hk2 2 (by decide)) fun h => harm h.2
    · have hexec := exec_setLine_of_ok (i := 2) (d := d) (l := l) (tag := tag) ht
        (lineCheck_ok (f := f) hrun nofun (by simp [hf]))
      rw [writeLine_eq, if_pos ⟨rfl, hfn, hf, hext⟩] at hexec
      obtain ⟨hmode, hslots, hlatch⟩ := tamperNow_spec (s := lineWritten s 2 d l f)
        (show s.mode ≠ .lockdown by rw [hrun]; nofun)
      refine ⟨_, hexec, ?_, ?_, fun i => ?_⟩
      · rw [(consulted_spec _ _).1]
        exact hmode
      · exact (consulted_spec _ _).2.2 _ hlatch
      · rw [(consulted_spec _ _).2.1]
        exact hslots i
    · rw [hcarrier, carrierEvent_same h]
    · have hrise : (new k.line).carrierEvent k (s.carrier k) = (new k.line).modTrunk k fun r => { r with
          state := if r.state = .down then .proving else r.state
          proving := if r.state = .down then some (s.uptime + r.provingInterval) else r.proving } := by
        rw [State.carrierEvent, if_neg (by rw [h1, h0]; nofun), if_pos h1]
        refine modTrunk_congr ?_
        by_cases hd : ((new k.line).trunk k).state = .down
        · rw [if_pos hd, if_pos hd, if_pos hd]
          rfl
        · rw [if_neg hd, if_neg hd, if_neg hd]
      rw [hcarrier, hrise]
    · refine ⟨(new k.line).carrierFall k, ?_, ?_⟩
      · rw [hcarrier, State.carrierEvent, if_neg (by rw [h1, h0]; nofun), if_neg (by rw [h0]; nofun)]
      · exact carrierFall_spec (by rw [trunk_modLine]; exact hstate)

end Sys2Proof.Proofs

/-! The deadlines of slots, pauses, exchanges and HELLO retries, and the ends of derivations (R30, R41, R102, R115 to
R119, R130). -/

namespace Sys2Proof.Proofs
open Sys2Proof.Machine

theorem reached_of_le {s : State} {d : Nat} (h : d ≤ s.uptime) : s.reached (some d) = true := decide_eq_true h

theorem reached_of_lt {s : State} {d : Nat} (h : s.uptime < d) : s.reached (some d) = false :=
  decide_eq_false (Nat.not_le.2 h)

/-- What the part has of a control message it builds, read off a state that agrees with the built one there. -/
theorem builds_of_eq {s t u : State} {k : Kind} {p : List Byte} (h : s.Builds u k p)
    (hsrc : t.srcControl = u.srcControl) (hpool : t.pool = u.pool) : s.Builds t k p := by
  unfold State.Builds at h ⊢
  rwa [hsrc, hpool]

/-! ### HELLO retries (R130) -/

/-- A HELLO built anew. -/
theorem helloAgain_spec (s : State) (phase : Phase) (deadline : Nat) :
    s.Builds (s.helloAgain phase deadline) .hello (helloPayload s.settings.storeId (s.boot.count.getD 0))
    ∧ { s.helloAgain phase deadline with srcControl := s.srcControl, pool := s.pool, boot := s.boot } = s
    ∧ (s.helloAgain phase deadline).boot = { s.boot with phase := phase, deadline := some deadline } := by
  obtain ⟨hbuilds, hframe⟩ := State.build_builds { s with boot := { s.boot with phase := phase, deadline := some deadline } }
    .hello (helloPayload s.settings.storeId (s.boot.count.getD 0))
  refine ⟨hbuilds, ?_, ?_⟩
  · exact congrArg (fun x : State => { x with boot := s.boot }) hframe
  · exact congrArg State.boot hframe

/-- Settles O60. -/
theorem helloRetries : Obligations.HelloRetries := by
  intro s d hd hle asks
  have hdue : s.reached s.boot.deadline = true := hd ▸ reached_of_le hle
  refine ⟨fun hp ha => ?_, fun hp ha => ?_, fun hp => ?_, fun hp => ?_⟩
  · exact (if_pos ⟨hp, hdue⟩).trans (congrArg _ (if_pos ha))
  · refine ⟨_, (if_pos ⟨hp, hdue⟩).trans (congrArg _ (if_neg (Nat.not_lt.2 ha))), (mem_latches_raise ..).2 (.inr rfl), ?_⟩
    obtain ⟨u, b, e⟩ := raise_of_not_critical
      { s with boot := { s.boot with phase := .helloSlow, deadline := some (s.uptime + 64) } }
      (k := .renewalFailed) (by decide) (some 0) none none
    rw [e]
    exact ⟨rfl, rfl, rfl⟩
  · obtain ⟨h1, h2, h3⟩ := helloAgain_spec s .helloWait s.replyDeadline
    exact ⟨_, if_pos ⟨hp, hdue⟩, ⟨h1, h2⟩, h3⟩
  · obtain ⟨h1, h2, h3⟩ := helloAgain_spec s .helloSlow (s.uptime + 64)
    exact ⟨_, if_pos ⟨hp, hdue⟩, ⟨h1, h2⟩, h3⟩

/-! ### ASKING and BACKING_OFF (R115 to R117) -/

theorem exchOf_chan {s : State} {c : ChanId} {e : Exchange} (h : s.exchOf c = some e) : e.chan = c := by
  simpa using List.find?_some h

/-- An entry that is the only one of its channel is written whole. -/
theorem map_only {l : List Exchange} {c : ChanId} {e : Exchange} (h : ∀ y ∈ l, y.chan = c → y = e)
    (f : Exchange → Exchange) :
    (l.map fun y => if y.chan = c then f y else y) = l.map fun y => if y.chan = c then f e else y :=
  List.map_congr_left fun y hy => by
    split
    next hc => rw [h y hy hc]
    next => rfl

/-- What the end of an exchange leaves (R113): its entry, its slot and the channel's next slot field. -/
theorem endExchange_spec {s : State} {c : ChanId} {e : Exchange} (h : s.exchOf c = some e) :
    (∀ j, (s.endExchange c).slot j = if j = e.slot then wipeOrdered (s.slot e.slot) else s.slot j)
    ∧ (s.endExchange c).exch = s.exch.filter (fun y => y.chan ≠ c)
    ∧ (∀ d, (s.endExchange c).chan d = if d = c then { s.chan d with next := none } else s.chan d)
    ∧ { s.endExchange c with slots := s.slots, chans := s.chans, derivs := s.derivs, core := s.core, exch := s.exch }
      = s := by
  have he : s.endExchange c = ((s.dropExch c).wipe e.slot).modChan c fun ch => { ch with next := none } := by
    simp only [State.endExchange, h]
  have hwipe : { (s.dropExch c).wipe e.slot with
      slots := s.slots, derivs := s.derivs, core := s.core, exch := s.exch } = s := by
    unfold State.wipe
    dsimp only
    split
    · rfl
    · split <;> rfl
  rw [he]
  refine ⟨fun j => ?_, ?_, fun d => ?_, ?_⟩
  · exact slot_wipe (s.dropExch c) e.slot j
  · have hexch : ((s.dropExch c).wipe e.slot).exch = (s.dropExch c).exch := by
      unfold State.wipe
      dsimp only
      split
      · rfl
      · split <;> rfl
    refine hexch.trans (List.filter_congr fun y _ => bne_eq_decide_ne y.chan c)
  · rw [State.chan_modChan]
    have hchan : ((s.dropExch c).wipe e.slot).chan d = s.chan d := by
      have := congrArg (State.chan · d) hwipe
      exact this
    rw [hchan]
  · exact (congrArg (fun x : State => { x with chans := s.chans }) hwipe).trans rfl

theorem failExchange_spec {s : State} {e : Exchange} (h : s.exchOf e.chan = some e) :
    FaultKind.renewalFailed ∈ (s.failExchange e).fault.latches
    ∧ (∀ j, (s.failExchange e).slot j = if j = e.slot then wipeOrdered (s.slot e.slot) else s.slot j)
    ∧ (s.failExchange e).exch = s.exch.filter (fun y => y.chan ≠ e.chan)
    ∧ (∀ d, (s.failExchange e).chan d = if d = e.chan then { s.chan d with
        next := none, renewal := .paused, pause := some (s.uptime + 64), pauseReason := some e.reason } else s.chan d) := by
  obtain ⟨u, b, hraise⟩ := raise_of_not_critical s (k := .renewalFailed) (by decide) (some e.chan) none none
  have hmem : FaultKind.renewalFailed ∈ (s.raise .renewalFailed (some e.chan)).fault.latches :=
    (mem_latches_raise ..).2 (.inr rfl)
  generalize hx : s.raise .renewalFailed (some e.chan) = x at hraise hmem
  have hexchOf : x.exchOf e.chan = some e := by rw [hraise]; exact h
  have hxslot (j : SlotId) : x.slot j = s.slot j := by rw [hraise]; rfl
  have hxexch : x.exch = s.exch := by rw [hraise]
  have hxchan (d : ChanId) : x.chan d = s.chan d := by rw [hraise]; rfl
  have hxuptime : x.uptime = s.uptime := by rw [hraise]
  obtain ⟨hslot, hexch, hchan, hframe⟩ := endExchange_spec hexchOf
  have hfault : (x.endExchange e.chan).fault = x.fault := by have := congrArg State.fault hframe; exact this
  have huptime : (x.endExchange e.chan).uptime = x.uptime := by have := congrArg State.uptime hframe; exact this
  have hf : s.failExchange e = ((x.endExchange e.chan).modChan e.chan fun ch => { ch with
      renewal := .paused, pause := some ((x.endExchange e.chan).uptime + 64)
      pauseReason := some e.reason }).tellChannel e.chan := by rw [← hx]; rfl
  rw [hf]
  refine ⟨?_, fun j => ?_, ?_, fun d => ?_⟩
  · simp only [State.tellChannel, State.latchChannel, State.modPort_fault, State.modChan_fault, hfault]
    exact hmem
  · refine Eq.trans ?_ (hslot j |>.trans (by rw [hxslot, hxslot]))
    simp only [State.tellChannel, State.latchChannel, State.slot, State.modPort_slots, State.modChan_slots]
  · refine Eq.trans ?_ (hexch.trans (by rw [hxexch]))
    simp only [State.tellChannel, State.latchChannel, State.modPort_exch, State.modChan_exch]
  · rw [chan_tellChannel, State.chan_modChan, hchan, huptime, hxuptime, hxchan]
    split <;> rfl

theorem askEpoch_of_some {s : State} {c : ChanId} {k : Keyed} (h : s.curKeyed c = some k) : s.askEpoch c = k.epoch := by
  rw [State.askEpoch, h]; rfl

theorem askEpoch_of_none {s : State} {c : ChanId} (h : s.curKeyed c = none) : s.askEpoch c = 0 := by
  rw [State.askEpoch, h]; rfl

/-- Settles O57. -/
theorem askingBacksOffOrFails : Obligations.AskingBacksOffOrFails := by
  intro s c e d he hd put
  obtain rfl := exchOf_chan he
  have hasking : exec (.askingDeadline e.chan) s = execAskingDeadline e.chan s := rfl
  have hbacking : exec (.backingOffDeadline e.chan) s = execBackingOffDeadline e.chan s := rfl
  refine ⟨fun hlt => ?_, fun hle hst hatt honly => ?_, fun hle hst hatt hfly hne => ?_, fun hle hst honly => ?_⟩
  · rw [hasking, hbacking]
    simp only [execAskingDeadline, execBackingOffDeadline, he, hd, reached_of_lt hlt]
    exact ⟨if_neg nofun, if_neg nofun⟩
  · rw [hasking]
    simp only [execAskingDeadline, he, hd, reached_of_le hle, hst, and_self, if_true, State.askingEnds, hatt]
    exact congrArg (fun l => Host.Outcome.next { s with exch := l }) (map_only honly _)
  · refine ⟨s.failExchange e, ?_, ?_⟩
    · rw [hasking]
      simp only [execAskingDeadline, he, hd, reached_of_le hle, hst, and_self, if_true, State.askingEnds,
        if_neg (Nat.not_lt.2 hatt)]
    · obtain ⟨hlatch, hslot, hexch, hchans⟩ := failExchange_spec he
      refine ⟨hlatch, ?_, fun j hj => (hslot j).trans (if_neg hj), hexch, (hchans e.chan).trans (if_pos rfl),
        fun x hx => (hchans x).trans (if_neg hx)⟩
      rw [hslot, if_pos rfl, wipeOrdered, if_neg hne, hfly]
      rfl
  · obtain ⟨hbuilds, hframe⟩ := State.build_builds s .turnAsk
      (turnAskPayload e.chan.val (s.askEpoch e.chan) e.reason e.store)
    refine ⟨s.askAgain e, ?_, ?_, ?_, ?_⟩
    · rw [hbacking]
      simp only [execBackingOffDeadline, he, hd, reached_of_le hle, hst, and_self, if_true]
    · have hexch : (s.buildAsk e.chan e.reason e.store).exch = s.exch := by
        have := congrArg State.exch hframe
        exact this
      rw [State.askAgain, State.modExch, hexch]
      exact map_only honly _
    · have hasked : s.Builds (s.askAgain e) .turnAsk (turnAskPayload e.chan.val (s.askEpoch e.chan) e.reason e.store) :=
        builds_of_eq hbuilds rfl rfl
      split
      next k hk => rwa [askEpoch_of_some hk] at hasked
      next hk => rwa [askEpoch_of_none hk] at hasked
    · exact (congrArg (fun x : State => { x with exch := s.exch }) hframe).trans rfl

/-! ### Settle and pause deadlines (R30, R102) -/

theorem wipe_frame (s : State) (i : SlotId) :
    { s.wipe i with slots := s.slots, derivs := s.derivs, core := s.core } = s := by
  unfold State.wipe
  dsimp only
  split
  · rfl
  · split <;> rfl

theorem chan_wipe (s : State) (i : SlotId) (c : ChanId) : (s.wipe i).chan c = s.chan c := by
  have := congrArg (State.chan · c) (wipe_frame s i)
  exact this

theorem latched_tellChannel (s : State) (c : ChanId) : ((s.tellChannel c).port (s.chan c).owner.port).latches.channel
    = true := by
  rw [State.tellChannel, port_latchChannel, if_pos rfl]

/-- The request of a pause that ends (R102). -/
theorem request_of_pause {s : State} {c : ChanId} {r : Reason} (hclosed : (s.chan c).state ≠ .closed)
    (hboot : (s.chan c).state ≠ .booting) (hpaused : (s.chan c).renewal = .paused) :
    s.request c r true = s.join c (if (s.chan c).state = .openWait then .openKey else r) false := by
  unfold State.request
  cases hst : (s.chan c).state <;> simp_all

/-- What a pause deadline leads to: the reason that the channel is listed with, or none after AHEAD (R102). -/
def asked (ch : Chan) (r : Reason) : Option Reason :=
  if ch.state = .frozen then some .hard
  else if ch.state = .openWait then some .openKey
  else if r = .ahead then none
  else some r

theorem pauseEnds_of_asked {s : State} {c : ChanId} {r q : Reason}
    (hstate : (s.chan c).state = .live ∨ (s.chan c).state = .frozen ∨ (s.chan c).state = .openWait)
    (hpaused : (s.chan c).renewal = .paused) (hr : (s.chan c).pauseReason = some r)
    (hq : asked (s.chan c) r = some q) : s.pauseEnds c = (s.join c q false).1 := by
  have hclosed : (s.chan c).state ≠ .closed := by rcases hstate with h | h | h <;> rw [h] <;> nofun
  have hboot : (s.chan c).state ≠ .booting := by rcases hstate with h | h | h <;> rw [h] <;> nofun
  unfold asked at hq
  unfold State.pauseEnds
  simp only [request_of_pause hclosed hboot hpaused, hr]
  split at hq
  next hf => cases hq; rw [if_pos hf, if_neg (by rw [hf]; nofun)]
  next hf =>
    rw [if_neg hf]
    split at hq
    next ho => cases hq; rw [if_pos ho, if_pos ho]
    next ho =>
      rw [if_neg ho]
      split at hq
      next => cases hq
      next hne =>
        cases hq
        split
        next h => exact absurd (Option.some.inj h) hne
        next h => cases h; rw [if_neg ho]
        next h => cases h

theorem pauseEnds_of_none {s : State} {c : ChanId} {r : Reason} (hr : (s.chan c).pauseReason = some r)
    (hnone : asked (s.chan c) r = none) : s.pauseEnds c = s.unpause c := by
  unfold asked at hnone
  unfold State.pauseEnds
  simp only [hr]
  split at hnone
  next => cases hnone
  next hf =>
    split at hnone
    next => cases hnone
    next ho =>
      split at hnone
      next ha => subst ha; rw [if_neg hf, if_neg ho]
      next => cases hnone

theorem settleDeadlines {s : State} {i : SlotId} {c : ChanId} {d : Nat} (hst : (s.slot i).state = .settling)
    (hd : (s.slot i).settle = some d) (hc : (s.slot i).chan = some c) :
    (d ≤ s.uptime → ∃ t, exec (.settleDeadline i) s = .next t
      ∧ t.slot i = (if (s.slot i).inFlight then { s.slot i with wipePending := true } else .wiped)
      ∧ (∀ j, j ≠ i → t.slot j = s.slot j) ∧ t.chan c = { s.chan c with prev := none }
      ∧ (∀ e, e ≠ c → t.chan e = s.chan e)
      ∧ { t with slots := s.slots, chans := s.chans, derivs := s.derivs, core := s.core } = s)
    ∧ (s.uptime < d → exec (.settleDeadline i) s = .next s) := by
  have hexec : exec (.settleDeadline i) s = execSettleDeadline i s := rfl
  have hends : s.settleEnds i = (s.wipe i).modChan c fun ch => { ch with prev := none } := by
    simp only [State.settleEnds, hc]
  refine ⟨fun hle => ⟨s.settleEnds i, ?_, ?_, fun j hj => ?_, ?_, fun e he => ?_, ?_⟩, fun hlt => ?_⟩
  · rw [hexec, execSettleDeadline, hd, if_pos ⟨hst, reached_of_le hle⟩]
  · rw [hends]
    refine (slot_wipe s i i).trans ?_
    rw [if_pos rfl, wipeOrdered, if_neg (by rw [hst]; nofun)]
  · rw [hends]
    exact (slot_wipe s i j).trans (if_neg hj)
  · rw [hends, State.chan_modChan, if_pos rfl, chan_wipe]
  · rw [hends, State.chan_modChan, if_neg he, chan_wipe]
  · rw [hends]
    exact (congrArg (fun x : State => { x with chans := s.chans }) (wipe_frame s i)).trans rfl
  · rw [hexec, execSettleDeadline, hd, reached_of_lt hlt, if_neg (by rintro ⟨-, h⟩; cases h)]

/-- Settles O54: a pause that ends lists the channel as any request does, or returns it to IDLE. -/
theorem settleAndPauseDeadlines : Obligations.SettleAndPauseDeadlines := by
  refine ⟨fun s i c d hst hd hc => settleDeadlines hst hd hc, fun s c d r hpaused hd hr => ?_⟩
  have hexec : exec (.pauseDeadline c) s = execPauseDeadline c s := rfl
  refine ⟨fun hlt => ?_, fun hle hstate => ?_⟩
  · rw [hexec, execPauseDeadline, hd, reached_of_lt hlt, if_neg (by rintro ⟨-, h⟩; cases h)]
  · have hnext : exec (.pauseDeadline c) s = .next (s.pauseEnds c) := by
      rw [hexec, execPauseDeadline, hd, if_pos ⟨hpaused, reached_of_le hle⟩]
    refine ⟨s.pauseEnds c, hnext, ?_⟩
    change _ ∧ _ ∧ (asked (s.chan c) r = none → _) ∧ (∀ q, asked (s.chan c) r = some q → _) ∧
      (∀ q, asked (s.chan c) r = some q → _)
    cases hq : asked (s.chan c) r with
    | none =>
      rw [pauseEnds_of_none hr hq]
      refine ⟨fun e he => ?_, ?_, fun _ => ⟨?_, ?_, ?_⟩, nofun, nofun⟩
      · simp only [State.unpause, State.setRenewal, chan_tellChannel, State.chan_modChan, if_neg he]
      · exact (((adminFrame.refl s).modChan _ _).modChan _ _).tellChannel _
      · simp only [State.unpause, State.setRenewal, chan_tellChannel, State.chan_modChan, if_true]
        rfl
      · simp only [State.unpause, State.setRenewal, tellChannel_sched]
        rfl
      · have h := latched_tellChannel (State.modChan (s.modChan c Chan.unpaused) c fun ch => { ch with renewal := .idle }) c
        simp only [State.chan_modChan, if_true] at h
        exact h
    | some q =>
      rw [pauseEnds_of_asked hstate hpaused hr hq]
      by_cases hroom : s.sched.waitList.length < 31
      · obtain ⟨hown, hothers, -, -, -, hframe⟩ := joinedList_join hroom c q false
        refine ⟨hothers, hframe, nofun, fun q' hq' _ => ?_, fun _ _ hfull => absurd hroom (Nat.not_lt.2 hfull)⟩
        obtain rfl := Option.some.inj hq'
        refine ⟨hown, ?_, ?_⟩
        · rw [join_of_room hroom, tellChannel_sched]
          rfl
        · rw [join_of_room hroom]
          have h := latched_tellChannel (State.modChan
            { s with sched := { s.sched with waitList := placeEntry s.sched.waitList ⟨c, q⟩ false } } c
            fun ch => { ch.unpaused with renewal := .listed }) c
          rw [State.chan_modChan, if_pos rfl] at h
          exact h
      · rw [join_of_full (Nat.not_lt.1 hroom)]
        exact ⟨fun _ _ => rfl, rfl, nofun, fun _ _ h => absurd h hroom, fun _ _ _ => rfl⟩

end Sys2Proof.Proofs

/-! The ends of derivations and the start of exchanges (R26, R39 to R41, R105, R114, R119). -/

namespace Sys2Proof.Proofs
open Sys2Proof.Machine

/-! ### The lowest-numbered EMPTY slot (R26) -/

theorem allSlots_find {p : SlotId → Bool} {i : SlotId} (h : p i = true) (hlow : ∀ j, j < i → p j = false) :
    allSlots.find? p = some i := by
  refine List.find?_eq_some_iff_getElem.2 ⟨h, i.val, by simp [allSlots], by simp [allSlots], fun j hj => ?_⟩
  have hlt : (⟨j, Nat.lt_trans hj i.isLt⟩ : SlotId) < i := hj
  simpa [allSlots] using hlow _ hlt

theorem freeSlot_of_lowest {s : State} {i : SlotId} (h : (s.slot i).state = .empty)
    (hlow : ∀ j, j < i → (s.slot j).state ≠ .empty) : s.freeSlot = some i :=
  allSlots_find (by rw [h]; rfl) fun j hj => beq_eq_false_iff_ne.2 (hlow j hj)

theorem freeSlot_eq_none {s : State} (h : ∀ i, (s.slot i).state ≠ .empty) : s.freeSlot = none :=
  List.find?_eq_none.2 fun i _ => by simpa using h i

/-! ### The derivations (R39 to R41, R119) -/

/-- Settles O58. -/
theorem turnoverDerivationStagesTheKey : Obligations.TurnoverDerivationStagesTheKey := by
  intro s c i epoch store hd hcore
  have hexec : exec .turnoverDerivationEnd s = if (s.slot i).state = .reserved ∧ (s.slot i).chan = some c then
      .next (State.staged { s with core := .idle } c i epoch store hd).rest
      else .next (State.rest { s with core := .idle }) := by
    have hend : exec .turnoverDerivationEnd s = execTurnoverDerivationEnd s := rfl
    rw [hend]
    simp only [execTurnoverDerivationEnd, hcore]
    rfl
  refine ⟨fun hno => hexec.trans (if_neg hno), ?_⟩
  intro hres hchan keys proof
  refine ⟨State.staged { s with core := .idle } c i epoch store hd, hexec.trans (if_pos ⟨hres, hchan⟩), ?_⟩
  generalize hu : State.modExch (State.modChan (State.modSlot { s with core := .idle } i
    fun _ => .keyedAs .staged c keys epoch) c fun ch => { ch with next := some i }) c
    (fun x => { x with state := .confirming, proof := some proof, deadline := some (s.uptime + s.settings.confirm) }) = u
  have hstaged : State.staged { s with core := .idle } c i epoch store hd
      = u.build .turnDone (b1 c.val ++ b2 epoch ++ sixteenBytes proof) := by rw [← hu]; rfl
  obtain ⟨hbuilds, hframe⟩ := State.build_builds u .turnDone (b1 c.val ++ b2 epoch ++ sixteenBytes proof)
  rw [hstaged]
  generalize u.build .turnDone (b1 c.val ++ b2 epoch ++ sixteenBytes proof) = t at hbuilds hframe
  have hslot (j : SlotId) : t.slot j = u.slot j := by
    have := congrArg (State.slot · j) hframe
    exact this
  have hchans (d : ChanId) : t.chan d = u.chan d := by
    have := congrArg (State.chan · d) hframe
    exact this
  have hexch : t.exch = u.exch := by
    have := congrArg State.exch hframe
    exact this
  have hidle : t.core = u.core := by
    have := congrArg State.core hframe
    exact this
  have huslot (j : SlotId) : u.slot j = if j = i then .keyedAs .staged c keys epoch else s.slot j := by
    rw [← hu]
    exact State.slot_modSlot { s with core := .idle } i j fun _ => .keyedAs .staged c keys epoch
  have huchan (d : ChanId) : u.chan d = if d = c then { s.chan d with next := some i } else s.chan d := by
    rw [← hu]
    exact State.chan_modChan (State.modSlot { s with core := .idle } i fun _ => .keyedAs .staged c keys epoch) c d
      fun ch => { ch with next := some i }
  refine ⟨?_, fun j hj => ?_, ?_, fun d hne => ?_, ?_, ?_, ?_⟩
  · rw [hslot, huslot, if_pos rfl]
    rfl
  · rw [hslot, huslot, if_neg hj]
  · rw [hchans, huchan, if_pos rfl]
  · rw [hchans, huchan, if_neg hne]
  · rw [hexch, ← hu]
    rfl
  · rw [hidle, ← hu]
    rfl
  · have hsrc : u.srcControl = s.srcControl := by rw [← hu]; rfl
    have hpool : u.pool = s.pool := by rw [← hu]; rfl
    unfold State.Builds at hbuilds ⊢
    rwa [hsrc, hpool] at hbuilds

/-- Settles O40. -/
theorem bootstrapRunsToHello : Obligations.BootstrapRunsToHello := by
  have hexec (s : State) : exec .derivationStart s = execDerivationStart s := rfl
  refine ⟨fun s d rest hcore hderivs hwrite => ?_, fun s hno => ?_, ?_⟩
  · have hmay : s.mayDerive d = true := by
      cases d with
      | turnover => rfl
      | selfCheck => rfl
      | bootstrap n =>
        simp only [State.mayDerive, Store.writesCount]
        split
        next m h => exact absurd h (hwrite n rfl m)
        next => rfl
    rw [hexec]
    simp only [execDerivationStart, hcore, hderivs, hmay, if_true]
  · rw [hexec]
    unfold execDerivationStart
    split
    next hcore hderivs =>
      rcases hno with h | h
      · exact absurd hcore h
      · rw [h] at hderivs
        cases hderivs
    next => rfl
  · intro s n i hcore hempty hlow keys
    have hfree : State.freeSlot { s with core := .idle } = some i := freeSlot_of_lowest hempty hlow
    refine ⟨State.bootstrapped { s with core := .idle } i n, ?_, ?_⟩
    · have hend : exec .bootstrapDerivationEnd s = execBootstrapDerivationEnd s := rfl
      rw [hend]
      simp only [execBootstrapDerivationEnd, hcore, hfree]
    generalize hw : State.tellChannel (State.modChan (State.modSlot { s with core := .idle } i
      fun _ => .keyedAs .active 0 keys 1) 0 fun ch => ch.booted s.settings.control i) 0 = w
    have hboot : State.bootstrapped { s with core := .idle } i n = State.build
        { w with boot := ⟨.helloWait, 1, some w.replyDeadline, some n⟩ } .hello
        (helloPayload w.settings.storeId n) := by rw [← hw]; rfl
    have hwslot (j : SlotId) : w.slot j = if j = i then .keyedAs .active 0 keys 1 else s.slot j := by
      rw [← hw, State.tellChannel, State.latchChannel, State.slot, State.modPort_slots]
      exact State.slot_modSlot { s with core := .idle } i j fun _ => .keyedAs .active 0 keys 1
    have hwchan (d : ChanId) : w.chan d = if d = 0 then (s.chan d).booted s.settings.control i else s.chan d := by
      rw [← hw, chan_tellChannel]
      exact State.chan_modChan (State.modSlot { s with core := .idle } i fun _ => .keyedAs .active 0 keys 1) 0 d
        fun ch => ch.booted s.settings.control i
    have hwlatch : (w.port (s.chan 0).owner.port).latches.channel = true := by
      have h := latched_tellChannel (State.modChan (State.modSlot { s with core := .idle } i
        fun _ => .keyedAs .active 0 keys 1) 0 fun ch => ch.booted s.settings.control i) 0
      rw [hw, State.chan_modChan, if_pos rfl] at h
      exact h
    have hwrest : w.core = .idle ∧ w.uptime = s.uptime ∧ w.settings = s.settings ∧ w.srcControl = s.srcControl
        ∧ w.pool = s.pool := by
      rw [← hw]
      simp [State.tellChannel, State.latchChannel, State.modChan, State.modSlot]
    obtain ⟨hidle, huptime, hsettings, hsrc, hpool⟩ := hwrest
    rw [hboot]
    obtain ⟨hbuilds, hframe⟩ := State.build_builds { w with boot := ⟨.helloWait, 1, some w.replyDeadline, some n⟩ }
      .hello (helloPayload w.settings.storeId n)
    generalize State.build { w with boot := ⟨.helloWait, 1, some w.replyDeadline, some n⟩ } .hello
      (helloPayload w.settings.storeId n) = t at hbuilds hframe
    have hslot (j : SlotId) : t.slot j = w.slot j := by
      have := congrArg (State.slot · j) hframe
      exact this
    have hchans (d : ChanId) : t.chan d = w.chan d := by
      have := congrArg (State.chan · d) hframe
      exact this
    refine ⟨?_, fun j hj => ?_, ?_, fun d hne => ?_, ?_, ?_, ?_, ?_⟩
    · rw [hslot, hwslot, if_pos rfl]
      rfl
    · rw [hslot, hwslot, if_neg hj]
    · rw [hchans, hwchan, if_pos rfl]
      rfl
    · rw [hchans, hwchan, if_neg hne]
    · have := congrArg State.boot hframe
      refine Eq.trans this ?_
      simp only [State.replyDeadline, huptime, hsettings]
    · have := congrArg State.core hframe
      exact Eq.trans this hidle
    · rw [hsettings] at hbuilds
      unfold State.Builds at hbuilds ⊢
      dsimp only at hbuilds
      rwa [hsrc, hpool] at hbuilds
    · have hport : t.port (s.chan 0).owner.port = w.port (s.chan 0).owner.port := by
        have := congrArg (State.port · (s.chan 0).owner.port) hframe
        exact this
      rw [hport]
      exact hwlatch

end Sys2Proof.Proofs

/-! The start of an exchange (R26, R105, R106, R114). -/

namespace Sys2Proof.Proofs
open Sys2Proof.Machine

/-- An exchange that starts: its entry, its nonce, the channel's status and its TURN_ASK (R105, R114). -/
structure Started (s t : State) (c : ChanId) (r : Reason) (i : SlotId) : Prop where
  exch : t.exch = s.exch ++ [⟨c, r, .asking, 1, Config.nonce s.draws, i, none, none,
    some (s.uptime + s.settings.reply + 2), none, false⟩]
  draws : t.draws = s.draws + 1
  chan : ∀ d, t.chan d = if d = c then { s.chan c with renewal := .exchanging } else s.chan d
  builds : s.Builds t .turnAsk (turnAskPayload c.val (s.askEpoch c) r (Config.nonce s.draws))
  frame : { t with
    chans := s.chans, exch := s.exch, draws := s.draws, srcControl := s.srcControl, pool := s.pool, portG := s.portG
    portP := s.portP, portM := s.portM } = s

theorem askEpoch_congr {s t : State} {c : ChanId} (hcur : (t.chan c).cur = (s.chan c).cur) (hslots : t.slots = s.slots) :
    t.askEpoch c = s.askEpoch c := by
  have hkeyed : t.curKeyed c = s.curKeyed c := by simp only [State.curKeyed, State.slot, hcur, hslots]
  rw [State.askEpoch, hkeyed, State.askEpoch]

theorem started (s : State) (c : ChanId) (r : Reason) (i : SlotId) : Started s (s.startExchange c r i) c r i := by
  generalize hu : State.setRenewal { s with
    draws := s.draws + 1
    exch := s.exch ++ [⟨c, r, .asking, 1, Config.nonce s.draws, i, none, none, some s.replyDeadline, none, false⟩] }
    c .exchanging = u
  have hchan (d : ChanId) : u.chan d = if d = c then { s.chan c with renewal := .exchanging } else s.chan d := by
    rw [← hu, State.setRenewal, chan_tellChannel, State.chan_modChan]
    by_cases h : d = c
    · subst h; rfl
    · rw [if_neg h, if_neg h]; rfl
  have hframe : { u with
      chans := s.chans, exch := s.exch, draws := s.draws, portG := s.portG, portP := s.portP, portM := s.portM } = s := by
    rw [← hu]
    exact congrArg (fun x : State => { x with chans := s.chans, exch := s.exch, draws := s.draws })
      (latchChannel_frame (State.modChan { s with
        draws := s.draws + 1
        exch := s.exch ++ [⟨c, r, .asking, 1, Config.nonce s.draws, i, none, none, some s.replyDeadline, none, false⟩] }
        c fun ch => { ch with renewal := .exchanging }) _)
  have hexch : u.exch = s.exch ++ [⟨c, r, .asking, 1, Config.nonce s.draws, i, none, none,
      some (s.uptime + s.settings.reply + 2), none, false⟩] := by
    rw [← hu]; simp [State.setRenewal, State.tellChannel, State.latchChannel, State.replyDeadline]
  have hdraws : u.draws = s.draws + 1 := by
    rw [← hu]; simp [State.setRenewal, State.tellChannel, State.latchChannel]
  have hslots : u.slots = s.slots := by
    have := congrArg State.slots hframe
    exact this
  have hsrc : u.srcControl = s.srcControl := by
    have := congrArg State.srcControl hframe
    exact this
  have hpool : u.pool = s.pool := by
    have := congrArg State.pool hframe
    exact this
  have hask : u.askEpoch c = s.askEpoch c := askEpoch_congr (by rw [hchan, if_pos rfl]) hslots
  have hstart : s.startExchange c r i = u.build .turnAsk (turnAskPayload c.val (s.askEpoch c) r (Config.nonce s.draws)) := by
    rw [← hask, ← hu]; rfl
  rw [hstart]
  obtain ⟨hbuilds, hbuilt⟩ := State.build_builds u .turnAsk (turnAskPayload c.val (s.askEpoch c) r (Config.nonce s.draws))
  generalize u.build .turnAsk (turnAskPayload c.val (s.askEpoch c) r (Config.nonce s.draws)) = t at hbuilds hbuilt
  refine ⟨?_, ?_, fun d => ?_, ?_, ?_⟩
  · have := congrArg State.exch hbuilt
    exact Eq.trans this hexch
  · have := congrArg State.draws hbuilt
    exact Eq.trans this hdraws
  · have := congrArg (State.chan · d) hbuilt
    exact Eq.trans this (hchan d)
  · unfold State.Builds at hbuilds ⊢
    rwa [hsrc, hpool] at hbuilds
  · have := congrArg (fun x : State => { x with
      chans := s.chans, exch := s.exch, draws := s.draws, srcControl := s.srcControl, pool := s.pool, portG := s.portG
      portP := s.portP, portM := s.portM }) hbuilt
    refine Eq.trans ?_ (Eq.trans this ?_)
    · rfl
    · have := congrArg (fun x : State => { x with srcControl := s.srcControl, pool := s.pool }) hframe
      exact this

/-- The slot that a channel's exchange reserves (R26). -/
def reserved (s : State) (c : ChanId) (i : SlotId) : State :=
  s.modSlot i fun _ => { Slot.wiped with state := .reserved, chan := some c }

theorem reserve_of_lowest {s : State} {i : SlotId} (hmode : s.mode = .running) (h : (s.slot i).state = .empty)
    (hlow : ∀ j, j < i → (s.slot j).state ≠ .empty) (c : ChanId) : s.reserve c = some (reserved s c i, i) := by
  rw [State.reserve, if_pos hmode, freeSlot_of_lowest h hlow]; rfl

theorem reserve_of_full {s : State} (h : ∀ i, (s.slot i).state ≠ .empty) (c : ChanId) : s.reserve c = none := by
  rw [State.reserve, freeSlot_eq_none h]
  split <;> rfl

theorem slot_reserved (s : State) (c : ChanId) (i j : SlotId) : (reserved s c i).slot j =
    if j = i then { Slot.wiped with state := .reserved, chan := some c } else s.slot j :=
  State.slot_modSlot s i j fun _ => { Slot.wiped with state := .reserved, chan := some c }

/-- Reserving an EMPTY slot changes no current slot's key. -/
theorem askEpoch_reserved {s : State} (hlaw : s.SlotLaw) {i : SlotId} (h : (s.slot i).state = .empty) (c d : ChanId) :
    (reserved s d i).askEpoch c = s.askEpoch c := by
  have hkeyed (j : SlotId) : ((reserved s d i).slot j).keyed = (s.slot j).keyed := by
    rw [slot_reserved]
    split
    next hj => rw [hj, (hlaw i).1 h]
    next => rfl
  have hchan : (reserved s d i).chan c = s.chan c := rfl
  have hcur : (reserved s d i).curKeyed c = s.curKeyed c := by simp only [State.curKeyed, hchan, hkeyed]
  rw [State.askEpoch, hcur, State.askEpoch]

/-! ### The start test (R105, R106) -/

theorem startOne_of_none {s : State} (h : s.candidate = none) : s.startOne = (s, false) := by
  simp only [State.startOne, h]

theorem startOne_of_full {s : State} (h : 4 ≤ s.exch.length) : s.startOne = (s, false) := by
  unfold State.startOne
  split
  · rfl
  · rw [if_neg (Nat.not_lt.2 h)]

theorem startOne_of_candidate {s : State} {e : WaitEntry} (h : s.candidate = some e) (hroom : s.exch.length < 4)
    (hfull : ∀ i, (s.slot i).state ≠ .empty) : s.startOne = (s.keyStoreFull e.chan, false) := by
  simp only [State.startOne, h, hroom, if_true, reserve_of_full hfull]

theorem startOne_of_lowest {s : State} {e : WaitEntry} {i : SlotId} (h : s.candidate = some e) (hroom : s.exch.length < 4)
    (hmode : s.mode = .running) (hempty : (s.slot i).state = .empty) (hlow : ∀ j, j < i → (s.slot j).state ≠ .empty) :
    s.startOne = (((reserved s e.chan i).unlist e.chan).startExchange e.chan e.reason i, true) := by
  simp only [State.startOne, h, hroom, if_true, reserve_of_lowest hmode hempty hlow]

theorem candidate_of_live {s : State} (h : (s.chan 0).state = .live) : s.candidate = s.sched.waitList.head? := by
  simp only [State.candidate, h]

theorem candidate_of_frozen {s : State} (h : (s.chan 0).state = .frozen) : s.candidate = s.entryOf 0 := by
  simp only [State.candidate, h]

theorem candidate_of_else {s : State} (hl : (s.chan 0).state ≠ .live) (hf : (s.chan 0).state ≠ .frozen) :
    s.candidate = none := by
  unfold State.candidate
  split
  next h => exact absurd h hl
  next h => exact absurd h hf
  next => rfl

/-- A list without its only entry of a channel. -/
theorem filter_only {before more : List WaitEntry} {e : WaitEntry} (h : ∀ x ∈ before ++ more, x.chan ≠ e.chan) :
    (before ++ e :: more).filter (fun x => x.chan != e.chan) = before ++ more := by
  have hkeep {l : List WaitEntry} (hl : ∀ x ∈ l, x ∈ before ++ more) : l.filter (fun x => x.chan != e.chan) = l :=
    List.filter_eq_self.2 fun x hx => bne_iff_ne.2 (h x (hl x hx))
  rw [List.filter_append, List.filter_cons_of_neg (by simp), hkeep (fun x hx => List.mem_append_left _ hx),
    hkeep fun x hx => List.mem_append_right _ hx]

theorem candidate_of_split {s : State} {before more : List WaitEntry} {e : WaitEntry}
    (hlist : s.sched.waitList = before ++ e :: more) (honly : ∀ x ∈ before ++ more, x.chan ≠ e.chan)
    (hcase : ((s.chan 0).state = .live ∧ before = []) ∨ ((s.chan 0).state = .frozen ∧ e.chan = 0)) :
    s.candidate = some e := by
  rcases hcase with ⟨hlive, rfl⟩ | ⟨hfrozen, h0⟩
  · rw [candidate_of_live hlive, hlist]; rfl
  · rw [candidate_of_frozen hfrozen, State.entryOf, hlist]
    refine List.find?_eq_some_iff_append.2 ⟨by rw [h0]; rfl, before, more, rfl, fun x hx => ?_⟩
    simpa [h0] using honly x (List.mem_append_left _ hx)

theorem startsWithLowest {s : State} {before more : List WaitEntry} {e : WaitEntry} {i : SlotId} (hlaw : s.SlotLaw)
    (hlist : s.sched.waitList = before ++ e :: more) (honly : ∀ x ∈ before ++ more, x.chan ≠ e.chan)
    (hempty : (s.slot i).state = .empty) :
    let t := ((reserved s e.chan i).unlist e.chan).startExchange e.chan e.reason i
    t.slot i = { Slot.wiped with state := .reserved, chan := some e.chan } ∧ (∀ j, j ≠ i → t.slot j = s.slot j)
    ∧ t.exch = s.exch ++ [⟨e.chan, e.reason, .asking, 1, Config.nonce s.draws, i, none, none,
        some (s.uptime + s.settings.reply + 2), none, false⟩]
    ∧ t.sched = { s.sched with waitList := before ++ more } ∧ t.draws = s.draws + 1
    ∧ t.chan e.chan = { s.chan e.chan with renewal := .exchanging } ∧ (∀ d, d ≠ e.chan → t.chan d = s.chan d)
    ∧ s.Builds t .turnAsk (turnAskPayload e.chan.val (s.askEpoch e.chan) e.reason (Config.nonce s.draws)) := by
  intro t
  obtain ⟨hexch, hdraws, hchan, hbuilds, hframe⟩ := started ((reserved s e.chan i).unlist e.chan) e.chan e.reason i
  have hslot (j : SlotId) : t.slot j = (reserved s e.chan i).slot j := by
    have := congrArg (State.slot · j) hframe
    exact this
  refine ⟨?_, fun j hj => ?_, hexch, ?_, hdraws, ?_, fun d hd => ?_, ?_⟩
  · rw [hslot, slot_reserved, if_pos rfl]
  · rw [hslot, slot_reserved, if_neg hj]
  · have hsched : t.sched = ((reserved s e.chan i).unlist e.chan).sched := by
      have := congrArg State.sched hframe
      exact this
    have hfilter : s.sched.waitList.filter (fun x => x.chan != e.chan) = before ++ more := by
      rw [hlist]; exact filter_only honly
    rw [hsched, ← hfilter]
    rfl
  · exact (hchan _).trans (if_pos rfl)
  · exact (hchan _).trans (if_neg hd)
  · have hask : ((reserved s e.chan i).unlist e.chan).askEpoch e.chan = s.askEpoch e.chan :=
      askEpoch_reserved hlaw hempty _ _
    rw [hask] at hbuilds
    exact hbuilds

/-- Settles O55. -/
theorem exchangeStartTakesTheHead : Obligations.ExchangeStartTakesTheHead := by
  intro s hlaw hmode live frozen
  have hexec : exec .exchangeStart s = .next s.startOne.1.rest := rfl
  refine ⟨fun hno => ?_, fun before e more hlist honly hcase => ?_⟩
  · have hnone : s.candidate = none := by
      rcases hno with ⟨hlive, hlist⟩ | ⟨hfrozen, hlist⟩ | ⟨hl, hf⟩
      · rw [candidate_of_live hlive, hlist]; rfl
      · rw [candidate_of_frozen hfrozen]
        exact List.find?_eq_none.2 fun x hx => by simpa using hlist x hx
      · exact candidate_of_else hl hf
    rw [hexec, startOne_of_none hnone]
  · have hcand := candidate_of_split hlist honly hcase
    refine ⟨fun hfull => ?_, fun hroom hfull => ?_, ?_⟩
    · rw [hexec, startOne_of_full hfull]
    · rw [hexec, startOne_of_candidate hcand hroom hfull, State.keyStoreFull]
      split <;> rfl
    · intro i hroom hempty hlow nonce epoch
      have hepoch : s.askEpoch e.chan = epoch := by
        cases hk : s.curKeyed e.chan with
        | some k =>
          have : epoch = k.epoch := by simp only [epoch, hk]
          rw [this, askEpoch_of_some hk]
        | none =>
          have : epoch = 0 := by simp only [epoch, hk]
          rw [this, askEpoch_of_none hk]
      have hspec := startsWithLowest hlaw hlist honly hempty
      rw [hepoch] at hspec
      refine ⟨_, ?_, hspec⟩
      rw [hexec, startOne_of_lowest hcand hroom hmode hempty hlow]

end Sys2Proof.Proofs

/-! The cutover (R28, R29, R122) and the wipes of a channel's slots (R17, R36). -/

namespace Sys2Proof.Proofs
open Sys2Proof.Machine

/-! ### Wipes of several slots -/

/-- Each slot that qualifies has its wipe ordered once. -/
theorem slot_wipes (p : Slot → Prop) [DecidablePred p] {l : List SlotId} (hl : l.Nodup) (s : State) (j : SlotId) :
    (l.foldl (fun s i => if p (s.slot i) then s.wipe i else s) s).slot j
      = if j ∈ l ∧ p (s.slot j) then wipeOrdered (s.slot j) else s.slot j := by
  induction l generalizing s with
  | nil => simp
  | cons i l ih =>
    obtain ⟨hi, hl⟩ := List.nodup_cons.1 hl
    rw [List.foldl_cons, ih hl]
    have hfirst : (if p (s.slot i) then s.wipe i else s).slot j
        = if j = i ∧ p (s.slot j) then wipeOrdered (s.slot j) else s.slot j := by
      by_cases hj : j = i
      · subst hj
        by_cases hp : p (s.slot j) <;> simp [hp, slot_wipe]
      · by_cases hp : p (s.slot i) <;> simp [hp, hj, slot_wipe]
    rw [hfirst]
    by_cases hj : j = i
    · subst hj
      simp [hi]
    · simp [hj]

theorem wipes_frame (p : State → SlotId → Prop) [∀ s i, Decidable (p s i)] (l : List SlotId) (s : State) :
    { l.foldl (fun s i => if p s i then s.wipe i else s) s with
      slots := s.slots, derivs := s.derivs, core := s.core } = s := by
  induction l generalizing s with
  | nil => rfl
  | cons i l ih =>
    rw [List.foldl_cons]
    have hrest := ih (if p s i then s.wipe i else s)
    generalize l.foldl (fun s i => if p s i then s.wipe i else s) (if p s i then s.wipe i else s) = t at hrest
    have hfirst : { (if p s i then s.wipe i else s) with slots := s.slots, derivs := s.derivs, core := s.core } = s := by
      split
      · exact wipe_frame s i
      · rfl
    generalize (if p s i then s.wipe i else s) = u at hrest hfirst
    have := congrArg (fun x : State => { x with slots := s.slots, derivs := s.derivs, core := s.core }) hrest
    exact Eq.trans this hfirst

theorem slot_wipeState (s : State) (c : ChanId) (st : SlotState) (j : SlotId) : (s.wipeState c st).slot j =
    if (s.slot j).state = st ∧ (s.slot j).chan = some c then wipeOrdered (s.slot j) else s.slot j := by
  refine (slot_wipes (fun k => k.state = st ∧ k.chan = some c) (List.nodup_finRange 48) s j).trans ?_
  simp only [List.mem_finRange, true_and]

theorem wipeState_frame (s : State) (c : ChanId) (st : SlotState) :
    { s.wipeState c st with slots := s.slots, derivs := s.derivs, core := s.core } = s :=
  wipes_frame (fun s i => (s.slot i).state = st ∧ (s.slot i).chan = some c) allSlots s

theorem slot_wipeChannel (s : State) (c : ChanId) (j : SlotId) : (s.wipeChannel c).slot j =
    if (s.slot j).chan = some c then wipeOrdered (s.slot j) else s.slot j := by
  refine (slot_wipes (fun k => k.chan = some c) (List.nodup_finRange 48) s j).trans ?_
  simp only [List.mem_finRange, true_and]

theorem wipeChannel_frame (s : State) (c : ChanId) :
    { s.wipeChannel c with slots := s.slots, derivs := s.derivs, core := s.core } = s :=
  wipes_frame (fun s i => (s.slot i).chan = some c) allSlots s

/-! ### The cutover (R28, R3) -/

/-- Wiping the SETTLING slots of a channel leaves its slot in another state. -/
theorem wipeOrdered_state (k : Slot) : (wipeOrdered k).state = k.state ∨ (wipeOrdered k).state = .empty := by
  unfold wipeOrdered
  split
  · exact .inl rfl
  · split
    · exact .inl rfl
    · exact .inr rfl

theorem slotOf_wipeState (s : State) (c : ChanId) {st st' : SlotState} (h : st' ≠ st) (hne : st' ≠ .empty) (d : ChanId) :
    (s.wipeState c st).slotOf d st' = s.slotOf d st' := by
  refine congrArg (fun p => allSlots.find? p) (funext fun i => ?_)
  rw [slot_wipeState]
  split
  next hi =>
    have hold : ((s.slot i).state == st') = false := beq_eq_false_iff_ne.2 (by rw [hi.1]; exact h.symm)
    have hnew : ((wipeOrdered (s.slot i)).state == st') = false := by
      refine beq_eq_false_iff_ne.2 ?_
      rcases wipeOrdered_state (s.slot i) with e | e
      · rw [e, hi.1]; exact h.symm
      · rw [e]; exact hne.symm
    rw [hold, hnew]; rfl
  next => rfl

theorem slot_settleActive (s : State) (c : ChanId) (j : SlotId) : (settleActive s c).slot j =
    if s.slotOf c .active = some j then (s.slot j).settled (s.uptime + s.settings.settle) else s.slot j := by
  unfold settleActive
  split
  next old hold =>
    rw [State.slot_modSlot, hold]
    by_cases hj : j = old
    · rw [if_pos hj, if_pos (congrArg some hj.symm)]
    · rw [if_neg hj, if_neg fun h => hj (Option.some.inj h).symm]
  next hnone => rw [hnone, if_neg nofun]

/-- The slots after a cutover, before the report test. -/
theorem slot_turnedOver (s : State) (c : ChanId) (new j : SlotId) :
    (turnedOver s c new).slot j = if j = new then ((settleActive (s.wipeState c .settling) c).slot j).activated
      else (settleActive (s.wipeState c .settling) c).slot j := by
  have hslots : (turnedOver s c new).slots
      = ((settleActive (s.wipeState c .settling) c).modSlot new Slot.activated).slots := by
    simp [turnedOver, State.dropExch, State.tellChannel, State.latchChannel]
  rw [State.slot, hslots]
  exact State.slot_modSlot _ new j Slot.activated

/-- What a cutover writes before its report test: slots, derivations, the channel, its exchange and a latch. -/
def cutoverFrame (s t : State) : Prop :=
  { t with
    slots := s.slots, derivs := s.derivs, core := s.core, chans := s.chans, exch := s.exch, portG := s.portG
    portP := s.portP, portM := s.portM } = s

theorem cutoverFrame.trans {s t u : State} (h : cutoverFrame s t) (k : cutoverFrame t u) : cutoverFrame s u := by
  have hback := congrArg (fun x : State => { x with
    slots := s.slots, derivs := s.derivs, core := s.core, chans := s.chans, exch := s.exch, portG := s.portG
    portP := s.portP, portM := s.portM }) k
  exact hback.trans h

theorem cutoverFrame.of_wipes {s t : State} (h : { t with slots := s.slots, derivs := s.derivs, core := s.core } = s) :
    cutoverFrame s t := by
  have := congrArg (fun x : State => { x with
    chans := s.chans, exch := s.exch, portG := s.portG, portP := s.portP, portM := s.portM }) h
  exact this

theorem turnedOver_frame (s : State) (c : ChanId) (new : SlotId) : cutoverFrame s (turnedOver s c new) := by
  have hsettle (u : State) : cutoverFrame u (settleActive u c) := by
    unfold settleActive
    split <;> rfl
  have hwrite (u : State) : cutoverFrame u ((u.modSlot new Slot.activated).modChan c fun ch => ch.cutOver new) := rfl
  have htell (u : State) : cutoverFrame u ((u.tellChannel c).dropExch c) := by
    have := congrArg (fun x : State => { x with
      slots := u.slots, derivs := u.derivs, core := u.core, chans := u.chans, exch := u.exch })
      (latchChannel_frame u (u.chan c).owner.port)
    exact this
  exact (((cutoverFrame.of_wipes (wipeState_frame s c .settling)).trans (hsettle _)).trans (hwrite _)).trans (htell _)

/-- What wiping slots leaves of the rest. -/
theorem rest_of_wipes {s t : State} (h : { t with slots := s.slots, derivs := s.derivs, core := s.core } = s) :
    t.uptime = s.uptime ∧ t.settings = s.settings ∧ t.chans = s.chans ∧ t.exch = s.exch := by
  have huptime := congrArg State.uptime h
  have hsettings := congrArg State.settings h
  have hchans := congrArg State.chans h
  have hexch := congrArg State.exch h
  exact ⟨huptime, hsettings, hchans, hexch⟩

theorem rest_of_settleActive (s : State) (c : ChanId) :
    (settleActive s c).chans = s.chans ∧ (settleActive s c).exch = s.exch := by
  unfold settleActive
  split <;> exact ⟨rfl, rfl⟩

/-- The slots of a cutover onto the slot `new` (R28). -/
theorem slot_of_cutover {s : State} {c : ChanId} {new : SlotId} (hnew : s.stagedSlot c = some new) (j : SlotId) :
    (turnedOver s c new).slot j =
      if j = new then (s.slot j).activated
      else if s.slotOf c .active = some j then (s.slot j).settled (s.uptime + s.settings.settle)
      else if (s.slot j).state = .settling ∧ (s.slot j).chan = some c then wipeOrdered (s.slot j)
      else s.slot j := by
  obtain ⟨huptime, hsettings, -, -⟩ := rest_of_wipes (wipeState_frame s c .settling)
  rw [slot_turnedOver, slot_settleActive, slotOf_wipeState s c (by decide) (by decide), huptime, hsettings, slot_wipeState]
  by_cases hj : j = new
  · subst hj
    obtain ⟨hst, -, -⟩ := state_of_stagedSlot hnew
    have hact : s.slotOf c .active ≠ some j := fun h => by
      rw [(state_of_slotOf h).1] at hst
      cases hst
    rw [if_pos rfl, if_pos rfl, if_neg hact, if_neg (by rw [hst]; rintro ⟨h, -⟩; cases h)]
  · rw [if_neg hj, if_neg hj]
    by_cases hact : s.slotOf c .active = some j
    · rw [if_pos hact, if_pos hact, if_neg (by rw [(state_of_slotOf hact).1]; rintro ⟨h, -⟩; cases h)]
    · rw [if_neg hact, if_neg hact]

/-- The channel, the exchanges and the latch of a cutover, over the state that the slots leave. -/
theorem told_turnedOver (s : State) (c : ChanId) (new : SlotId) :
    (∀ d, (turnedOver s c new).chan d = if d = c then (s.chan d).cutOver new else s.chan d)
    ∧ (turnedOver s c new).exch = s.exch.filter (fun x => x.chan ≠ c)
    ∧ ((turnedOver s c new).port (s.chan c).owner.port).latches.channel = true := by
  obtain ⟨-, -, hchans, hexch⟩ := rest_of_wipes (wipeState_frame s c .settling)
  obtain ⟨hchans', hexch'⟩ := rest_of_settleActive (s.wipeState c .settling) c
  have hturned : turnedOver s c new = ((((settleActive (s.wipeState c .settling) c).modSlot new Slot.activated).modChan c
    fun ch => ch.cutOver new).tellChannel c).dropExch c := rfl
  rw [hturned]
  rw [← hchans'] at hchans
  rw [← hexch'] at hexch
  generalize settleActive (s.wipeState c .settling) c = u at hchans hexch
  have hchan (d : ChanId) : (u.modSlot new Slot.activated).chan d = s.chan d := by
    simp only [State.chan, State.modSlot_chans, hchans]
  have hwritten (d : ChanId) : ((u.modSlot new Slot.activated).modChan c fun ch => ch.cutOver new).chan d
      = if d = c then (s.chan d).cutOver new else s.chan d := by rw [State.chan_modChan, hchan]
  refine ⟨fun d => (chan_tellChannel _ c d).trans (hwritten d), ?_, ?_⟩
  · rw [← hexch]
    simp only [State.dropExch, State.tellChannel, State.latchChannel, State.modPort_exch, State.modChan_exch,
      State.modSlot_exch]
    exact List.filter_congr fun x _ => bne_eq_decide_ne x.chan c
  · have h := latched_tellChannel ((u.modSlot new Slot.activated).modChan c fun ch => ch.cutOver new) c
    rw [hwritten, if_pos rfl] at h
    exact h

theorem reportTest_frame (s : State) (b : Bool) :
    { s.reportTest b with srcControl := s.srcControl, pool := s.pool, fault := s.fault } = s := by
  rw [reportTest_eq]
  split <;> rfl

/-- A cutover onto the slot `new` (R28, R3, R122, R162). -/
structure TurnedOver (s t : State) (c : ChanId) (new : SlotId) : Prop where
  slot : ∀ j, t.slot j = (turnedOver s c new).slot j
  chan : ∀ d, t.chan d = if d = c then (s.chan d).cutOver new else s.chan d
  exch : t.exch = s.exch.filter fun x => x.chan ≠ c
  latched : (t.port (s.chan c).owner.port).latches.channel = true
  quiet : ¬ (c = 0 ∧ (s.chan c).state = .frozen) → t.fault = s.fault ∧ t.srcControl = s.srcControl ∧ t.pool = s.pool
  report : c = 0 ∧ (s.chan c).state = .frozen → s.fault.report = none →
    (∃ r ∈ s.fault.queue, r.sent = false ∧ r.kind.severity = .critical) →
    s.pool.heldControl < 8 → 0 < s.pool.free → t.fault.report = some ⟨s.fault.dropped, s.fault.lost⟩

theorem cutover_turns {s : State} {c : ChanId} {new : SlotId} (hnew : s.stagedSlot c = some new) :
    TurnedOver s (s.cutover c) c new := by
  have hcut : s.cutover c = if (c = 0 && (s.chan c).state == .frozen) = true then (turnedOver s c new).reportTest false
      else turnedOver s c new := by
    rcases cutover_eq s c with ⟨hnone, -⟩ | ⟨i, hi, h⟩
    · rw [hnew] at hnone
      cases hnone
    · rw [hnew] at hi
      cases hi
      exact h
  have hcond : (c = 0 && (s.chan c).state == .frozen) = true ↔ c = 0 ∧ (s.chan c).state = .frozen := by simp
  have hframe := turnedOver_frame s c new
  obtain ⟨hchan, hexch, hlatched⟩ := told_turnedOver s c new
  generalize hu : turnedOver s c new = u at hcut hchan hexch hlatched hframe
  have hfault : u.fault = s.fault := by
    have := congrArg State.fault hframe
    exact this
  have hsrc : u.srcControl = s.srcControl := by
    have := congrArg State.srcControl hframe
    exact this
  have hpool : u.pool = s.pool := by
    have := congrArg State.pool hframe
    exact this
  by_cases h : c = 0 ∧ (s.chan c).state = .frozen
  · rw [hcut, if_pos (hcond.2 h)]
    have htest := reportTest_frame u false
    refine ⟨fun j => ?_, fun d => ?_, ?_, ?_, fun hno => absurd h hno, fun _ hnone hsome hheld hfree => ?_⟩
    · have := congrArg (State.slot · j) htest
      rw [hu]
      exact this
    · have := congrArg (State.chan · d) htest
      exact Eq.trans this (hchan d)
    · have := congrArg State.exch htest
      exact Eq.trans this hexch
    · have hport : (u.reportTest false).port (s.chan c).owner.port = u.port (s.chan c).owner.port := by
        have := congrArg (State.port · (s.chan c).owner.port) htest
        exact this
      rw [hport, hlatched]
    · have hlive : (u.chan 0).state = .live := by
        rw [hchan, if_pos h.1.symm, ← h.1, Chan.cutOver, if_pos (.inr h.2)]
      have hmay : u.mayReport = true := (mayReport_iff u).2
        ⟨hlive, by rw [hfault, hnone], by rw [hfault]; obtain ⟨r, hr, hs, -⟩ := hsome; exact ⟨r, hr, hs⟩⟩
      rw [reportTest_eq, if_pos ⟨⟨hmay, .inr (by rw [hfault]; exact (unsentCritical_iff _).2 hsome)⟩,
        by rw [hpool]; exact hheld, by rw [hpool]; exact hfree⟩, ← hfault]
      rfl
  · rw [hcut, if_neg fun x => h (hcond.1 x)]
    exact ⟨fun j => by rw [hu], hchan, hexch, hlatched, fun _ => ⟨hfault, hsrc, hpool⟩, fun h' => absurd h' h⟩

/-- Settles O59. -/
theorem cutoverTurnsTheKeysOver : Obligations.CutoverTurnsTheKeysOver := by
  intro s c e new k hnew hkeyed thaws turned
  have hturned : turned (s.cutover c) := by
    obtain ⟨hslot, hchan, hexch, hlatched, hquiet, hreport⟩ := cutover_turns hnew
    obtain ⟨hst, hch, -⟩ := state_of_stagedSlot hnew
    refine ⟨?_, fun old hold => ?_, fun j hj hjc hfly => ?_, fun j hj => ?_, ?_, fun d hd => ?_, hexch, hlatched, hquiet,
      hreport⟩
    · rw [hslot, slot_of_cutover hnew, if_pos rfl, Slot.activated, hkeyed]
      rfl
    · have hne : old ≠ new := by
        rintro rfl
        rw [(state_of_slotOf hold).1] at hst
        cases hst
      rw [hslot, slot_of_cutover hnew, if_neg hne, if_pos hold]
      rfl
    · have hne : j ≠ new := by
        rintro rfl
        rw [hj] at hst
        cases hst
      have hact : s.slotOf c .active ≠ some j := fun h => by
        rw [(state_of_slotOf h).1] at hj
        cases hj
      rw [hslot, slot_of_cutover hnew, if_neg hne, if_neg hact, if_pos ⟨hj, hjc⟩, wipeOrdered, if_neg (by rw [hj]; nofun),
        hfly]
      rfl
    · have hne : j ≠ new := by rintro rfl; exact hj hch
      have hact : s.slotOf c .active ≠ some j := fun h => hj (state_of_slotOf h).2
      rw [hslot, slot_of_cutover hnew, if_neg hne, if_neg hact, if_neg fun h => hj h.2]
    · rw [hchan, if_pos rfl]
      rfl
    · rw [hchan, if_neg hd]
  clear_value turned
  refine ⟨fun d he hst hd hle hwaits => ?_, fun hfind hchan => ?_⟩
  · have hexec : exec (.confirmingDeadline c) s = .next (s.confirmEnds c).rest := by
      have hrow : exec (.confirmingDeadline c) s = execConfirmingDeadline c s := rfl
      rw [hrow]
      simp only [execConfirmingDeadline, he, hst, hd, reached_of_le hle, hwaits, and_self, if_true]
    refine ⟨fun hfree => ⟨s.cutover c, ?_, hturned⟩, fun hbusy => ?_⟩
    · rw [hexec, State.confirmEnds, hfree]
      rfl
    · rw [hexec, State.confirmEnds, hbusy]
      rfl
  · subst hchan
    have hexec : exec .waitingCutover s = .next s.takeWaiting.rest := rfl
    have htake : s.takeWaiting = if s.settlingBusy e.chan = true then s else s.cutover e.chan := by
      simp only [State.takeWaiting, hfind]
    refine ⟨fun hfree => ⟨s.cutover e.chan, ?_, hturned⟩, fun hbusy => ?_⟩
    · rw [hexec, htake, hfree]
      rfl
    · rw [hexec, htake, hbusy]
      rfl

end Sys2Proof.Proofs

/-! The close of a channel (R17, R146) and the commands that close one (R16, R126). -/

namespace Sys2Proof.Proofs
open Sys2Proof.Machine

/-! ### Frames that are discarded (R17 items 4 and 7) -/

/-- The part without the picked frames that wait, before their outcomes (R17 item 4). -/
def withoutFrames (s : State) (pick : Frame → Bool) : State :=
  { s with
    t0 := s.t0.without pick, t1 := s.t1.without pick, srcG := s.srcG.without pick, srcP := s.srcP.without pick
    srcM := s.srcM.without pick, srcControl := s.srcControl.without pick }

theorem discard_eq (s : State) (pick : Frame → Bool) (res : Result) :
    s.discard pick res = (s.picked pick).foldl (fun t f => t.outcome f res) (withoutFrames s pick) := rfl

theorem src_withoutFrames (s : State) (pick : Frame → Bool) (o : OutSrc) :
    (withoutFrames s pick).src o = (s.src o).without pick := by cases o <;> rfl

theorem trunk_withoutFrames (s : State) (pick : Frame → Bool) (k : Trunk) :
    (withoutFrames s pick).trunk k = (s.trunk k).without pick := by cases k <;> rfl

theorem answered_withoutFrames (res : Result) (s : State) (pick : Frame → Bool) :
    Answered res [] s (withoutFrames s pick) :=
  .of_ports (fun pt => by cases pt <;> rfl) fun _ _ => rfl

theorem answered_discard (s : State) (pick : Frame → Bool) (res : Result) :
    Answered res (s.picked pick) s (s.discard pick res) :=
  (answered_withoutFrames res s pick).trans (answered_foldl res _ _)

theorem discard_step (s : State) (pick : Frame → Bool) (res : Result) :
    OutcomeStep (withoutFrames s pick) (s.discard pick res) :=
  OutcomeStep.foldl _ (fun t f => t.outcome_step f res) _ _

/-- The outcomes of frames leave the ports' sources. -/
theorem src_of_outcomeStep {s t : State} (h : OutcomeStep s t) {o : OutSrc} (ho : o ≠ .control) : t.src o = s.src o := by
  obtain ⟨_, _, _, _, _, _, rfl, -⟩ := h
  cases o
  case control => exact absurd rfl ho
  all_goals rfl

theorem src_discard (s : State) (pick : Frame → Bool) (res : Result) {o : OutSrc} (ho : o ≠ .control) :
    (s.discard pick res).src o = (s.src o).without pick :=
  (src_of_outcomeStep (discard_step s pick res) ho).trans (src_withoutFrames s pick o)

theorem trunk_discard (s : State) (pick : Frame → Bool) (res : Result) (k : Trunk) :
    (s.discard pick res).trunk k = (s.trunk k).without pick :=
  (trunk_of_outcomeStep (discard_step s pick res) k).trans (trunk_withoutFrames s pick k)

/-- What discarding frames may write: the trunks, the sources, the ports, the pool and the fault unit. -/
theorem discard_frame (s : State) (pick : Frame → Bool) (res : Result) :
    { s.discard pick res with
      t0 := s.t0, t1 := s.t1, srcG := s.srcG, srcP := s.srcP, srcM := s.srcM, srcControl := s.srcControl
      portG := s.portG, portP := s.portP, portM := s.portM, pool := s.pool, fault := s.fault } = s := by
  obtain ⟨_, _, _, _, _, _, h, -⟩ := discard_step s pick res
  rw [h]
  rfl

/-- The CONTROL source and its buffers, which the outcomes of port frames leave alone. -/
def ControlKept (s t : State) : Prop :=
  t.srcControl = s.srcControl ∧ t.pool.heldControl = s.pool.heldControl ∧ s.pool.free ≤ t.pool.free

theorem ControlKept.refl (s : State) : ControlKept s s := ⟨rfl, rfl, Nat.le_refl _⟩

theorem ControlKept.trans {s t u : State} (h : ControlKept s t) (k : ControlKept t u) : ControlKept s u :=
  ⟨k.1.trans h.1, k.2.1.trans h.2.1, Nat.le_trans h.2.2 k.2.2⟩

theorem controlKept_giveBuf (s : State) {h : Holder} (hh : h ≠ .control) : ControlKept s (s.giveBuf h) := by
  have hheld := (held_giveBuf s h .control).trans (if_neg hh.symm)
  refine ⟨rfl, hheld, ?_⟩
  simp only [State.giveBuf, Pool.give]
  split
  · exact Nat.le_succ _
  · exact Nat.le_refl _

theorem controlKept_outcome {s : State} {f : Frame} (hf : f.src ≠ .control) (res : Result) :
    ControlKept s (s.outcome f res) := by
  have hholder : f.src.holder ≠ .control := by
    cases h : f.src
    case control => exact absurd h hf
    all_goals nofun
  cases hp : f.src.port with
  | none => exact absurd (by cases h : f.src <;> rw [h] at hp <;> first | rfl | cases hp) hf
  | some pt =>
    have hout : s.outcome f res = (s.giveBuf f.src.holder).complete pt ⟨f.cmdTag, 0x01, res, sendData f.loc f.bound⟩ true
        f.marked := by simp only [State.outcome, hp]
    have hcomplete (u : State) (c : Completion) : ControlKept u (u.complete pt c true f.marked) := by
      cases pt <;> exact .refl _
    rw [hout]
    exact (controlKept_giveBuf s hholder).trans (hcomplete _ _)

theorem controlKept_foldl {l : List Frame} (hl : ∀ f ∈ l, f.src ≠ .control) (res : Result) (s : State) :
    ControlKept s (l.foldl (fun t f => t.outcome f res) s) := by
  induction l generalizing s with
  | nil => exact .refl s
  | cons f l ih =>
    exact (controlKept_outcome (hl f List.mem_cons_self) res).trans (ih (fun g hg => hl g (List.mem_cons_of_mem f hg)) _)

/-- The inbound frames of picked channels leave the FIFO with their buffers (R17 item 7). -/
structure Dropped (s t : State) (n : Nat) : Prop where
  inbound : t.pool.heldInbound = s.pool.heldInbound - n
  held : ∀ h, h ≠ .inbound → t.pool.held h = s.pool.held h
  free : s.pool.free ≤ t.pool.free
  frame : { t with inFifo := s.inFifo, pool := s.pool } = s

theorem dropped_giveBufs {α : Type} (l : List α) (s : State) :
    Dropped s (l.foldl (fun t _ => t.giveBuf .inbound) s) l.length := by
  induction l generalizing s with
  | nil => exact ⟨rfl, fun _ _ => rfl, Nat.le_refl _, rfl⟩
  | cons a l ih =>
    obtain ⟨hin, hheld, hfree, hframe⟩ := ih (s.giveBuf .inbound)
    have hone := held_giveBuf s .inbound
    refine ⟨?_, fun h hh => ?_, Nat.le_trans (controlKept_giveBuf s (h := .inbound) nofun).2.2 hfree, ?_⟩
    · have hfirst : (s.giveBuf .inbound).pool.heldInbound = s.pool.heldInbound - 1 := hone .inbound
      rw [List.foldl_cons, hin, hfirst, List.length_cons]
      omega
    · exact (hheld h hh).trans ((hone h).trans (if_neg hh))
    · have := congrArg (fun x : State => { x with inFifo := s.inFifo, pool := s.pool }) hframe
      exact this

theorem dropped_dropInbound (s : State) (pick : ChanId → Bool) :
    Dropped s (s.dropInbound pick) (s.inFifo.filter fun f => pick f.chan).length
    ∧ (s.dropInbound pick).inFifo = s.inFifo.filter fun f => !pick f.chan := by
  obtain ⟨hin, hheld, hfree, hframe⟩ := dropped_giveBufs (s.inFifo.filter fun f => pick f.chan)
    { s with inFifo := s.inFifo.filter fun f => !pick f.chan }
  refine ⟨⟨hin, hheld, hfree, ?_⟩, ?_⟩
  · have := congrArg (fun x : State => { x with inFifo := s.inFifo }) hframe
    exact this
  · exact foldl_keeps (f := fun (t : State) (_ : InFrame) => t.giveBuf .inbound) State.inFifo (fun _ _ => rfl) _ _

/-! ### A close (R17) -/

/-- The part before the frames of a closing channel are discarded (R17 items 1 to 3 and 5). -/
def shutDown (s : State) (c : ChanId) : State :=
  let t := (((((s.modChan c Chan.shut).tellChannel c).unlist c).dropExch c).wipeChannel c)
  { t with core := t.core.discarding fun x => x == c }

/-- The part once the frames of a closing channel have gone (R17 items 1 to 7). -/
def emptiedOf (s : State) (c : ChanId) : State :=
  ((shutDown s c).discard (fun f => f.chan == c) (.refused .closedWhileQueued)).dropInbound fun x => x == c

theorem close_eq (s : State) (c : ChanId) (note : Bool) : s.close c note =
    if (note && (((emptiedOf s c).chan 0).state == .live || ((emptiedOf s c).chan 0).state == .frozen)) = true then
      (emptiedOf s c).build .closeNote (closeNotePayload c.val) else emptiedOf s c := rfl

/-- Wipes end no job of the core. -/
theorem core_wipe {s : State} {f : Frame} {place : Option Trunk} {d : Bool} (h : s.core = .outbound f place d)
    (i : SlotId) : (s.wipe i).core = .outbound f place d := by
  unfold State.wipe
  dsimp only
  split
  · exact h
  · split
    · exact h
    · simp only [State.abandonInto, State.modSlot_core, h]

theorem core_wipeChannel {s : State} {f : Frame} {place : Option Trunk} {d : Bool} (h : s.core = .outbound f place d)
    (c : ChanId) : (s.wipeChannel c).core = .outbound f place d := by
  unfold State.wipeChannel
  generalize allSlots = l
  induction l generalizing s with
  | nil => exact h
  | cons i l ih =>
    rw [List.foldl_cons]
    refine ih ?_
    split
    · exact core_wipe h i
    · exact h

/-- What a closing channel's record, slots, entries and job become (R17 items 1 to 3 and 5). -/
structure ShutDown (s t : State) (c : ChanId) : Prop where
  chan : ∀ d, t.chan d = if d = c then (s.chan d).shut else s.chan d
  slot : ∀ j, t.slot j = if (s.slot j).chan = some c then wipeOrdered (s.slot j) else s.slot j
  exch : t.exch = s.exch.filter fun e => e.chan ≠ c
  sched : t.sched = { s.sched with waitList := s.sched.waitList.filter fun e => e.chan ≠ c }
  core : ∀ g place d, s.core = .outbound g place d → t.core = .outbound g place (d || g.chan == c)
  completions : ∀ q, (t.port q).completions = (s.port q).completions
  outstanding : ∀ q, (t.port q).outstanding = (s.port q).outstanding
  latched : (t.port (s.chan c).owner.port).latches.channel = true
  frame : { t with
    chans := s.chans, slots := s.slots, derivs := s.derivs, core := s.core, exch := s.exch, sched := s.sched
    portG := s.portG, portP := s.portP, portM := s.portM } = s

theorem shutDown_spec (s : State) (c : ChanId) : ShutDown s (shutDown s c) c := by
  generalize hu : (((s.modChan c Chan.shut).tellChannel c).unlist c).dropExch c = u
  have hchan (d : ChanId) : u.chan d = if d = c then (s.chan d).shut else s.chan d := by
    rw [← hu]
    exact (chan_tellChannel (s.modChan c Chan.shut) c d).trans (State.chan_modChan s c d Chan.shut)
  have hslots : u.slots = s.slots := by
    rw [← hu]; simp [State.dropExch, State.unlist, State.tellChannel, State.latchChannel]
  have hcore : u.core = s.core := by
    rw [← hu]; simp [State.dropExch, State.unlist, State.tellChannel, State.latchChannel]
  have hexch : u.exch = s.exch.filter fun e => e.chan ≠ c := by
    rw [← hu]
    simp only [State.dropExch, State.unlist, State.tellChannel, State.latchChannel, State.modPort_exch, State.modChan_exch]
    exact List.filter_congr fun x _ => bne_eq_decide_ne x.chan c
  have hsched : u.sched = { s.sched with waitList := s.sched.waitList.filter fun e => e.chan ≠ c } := by
    rw [← hu]
    have hfilter : s.sched.waitList.filter (fun e => e.chan != c) = s.sched.waitList.filter fun e => e.chan ≠ c :=
      List.filter_congr fun x _ => bne_eq_decide_ne x.chan c
    simp only [State.dropExch, State.unlist, tellChannel_sched, State.modChan_sched, hfilter]
  have hport (q : Port) : u.port q = ((s.modChan c Chan.shut).tellChannel c).port q := by
    rw [← hu]
    cases q <;> rfl
  have houtstanding (q : Port) : (u.port q).outstanding = (s.port q).outstanding := by
    rw [hport, State.tellChannel, port_latchChannel]
    split
    next h => rw [h]; cases ((s.modChan c Chan.shut).chan c).owner.port <;> rfl
    next => cases q <;> rfl
  have hcompletions (q : Port) : (u.port q).completions = (s.port q).completions := by
    rw [hport, completions_tellChannel]
    cases q <;> rfl
  have hlatched : (u.port (s.chan c).owner.port).latches.channel = true := by
    have h := latched_tellChannel (s.modChan c Chan.shut) c
    rw [State.chan_modChan, if_pos rfl] at h
    rw [hport]
    exact h
  have hframe : { u with
      chans := s.chans, exch := s.exch, sched := s.sched, portG := s.portG, portP := s.portP, portM := s.portM } = s := by
    rw [← hu]
    have := congrArg (fun x : State => { x with chans := s.chans, exch := s.exch, sched := s.sched })
      (latchChannel_frame (s.modChan c Chan.shut) ((s.modChan c Chan.shut).chan c).owner.port)
    exact this
  have hwipe := wipeChannel_frame u c
  have hslot := slot_wipeChannel u c
  have hjob (g : Frame) (place : Option Trunk) (d : Bool) (h : s.core = .outbound g place d) :
      (u.wipeChannel c).core = .outbound g place d := core_wipeChannel (hcore.trans h) c
  have hshut : shutDown s c = { u.wipeChannel c with core := (u.wipeChannel c).core.discarding fun x => x == c } := by
    rw [← hu]; rfl
  rw [hshut]
  generalize u.wipeChannel c = w at hwipe hslot hjob
  have hwport (q : Port) : w.port q = u.port q := by
    have := congrArg (State.port · q) hwipe
    exact this
  refine ⟨fun d => ?_, fun j => ?_, ?_, ?_, fun g place d h => ?_, fun q => ?_, fun q => ?_, ?_, ?_⟩
  · have := congrArg (State.chan · d) hwipe
    exact Eq.trans this (hchan d)
  · have hold : u.slot j = s.slot j := by simp only [State.slot, hslots]
    rw [← hold]
    exact hslot j
  · have := congrArg State.exch hwipe
    exact Eq.trans this hexch
  · have := congrArg State.sched hwipe
    exact Eq.trans this hsched
  · simp only [hjob g place d h, Core.discarding]
  · exact (congrArg PortRec.completions (hwport q)).trans (hcompletions q)
  · exact (congrArg PortRec.outstanding (hwport q)).trans (houtstanding q)
  · exact (congrArg (fun r : PortRec => r.latches.channel) (hwport _)).trans hlatched
  · have h1 := congrArg (fun x : State => { x with
      chans := s.chans, slots := s.slots, derivs := s.derivs, core := s.core, exch := s.exch, sched := s.sched
      portG := s.portG, portP := s.portP, portM := s.portM }) hwipe
    have h2 := congrArg (fun x : State => { x with slots := s.slots, derivs := s.derivs, core := s.core }) hframe
    exact Eq.trans h1 h2

/-- The waiting frames of a channel, in the order of log 12. -/
def goneOf (s : State) (c : ChanId) : List Frame := s.picked fun f => f.chan == c

theorem goneOf_eq (s : State) (c : ChanId) : goneOf s c = (s.t0.loose ++ s.t1.loose ++ s.srcG.waiting ++ s.srcP.waiting
    ++ s.srcM.waiting ++ s.srcControl.waiting).filter fun f => f.chan = c :=
  List.filter_congr fun _ _ => rfl

/-- A source without the frames of a channel. -/
def keptOf (r : Source) (c : ChanId) : Source :=
  { r with
    fifo := r.fifo.filter fun f => f.chan ≠ c
    holds := r.holds.map fun l => l.filter fun f => f.chan ≠ c }

theorem without_eq (c : ChanId) : (fun f : Frame => !(f.chan == c)) = fun f => decide (f.chan ≠ c) :=
  funext fun f => bne_eq_decide_ne f.chan c

theorem source_without (r : Source) (c : ChanId) : r.without (fun f => f.chan == c) = keptOf r c := by
  simp only [Source.without, without_eq, keptOf]

theorem trunk_without (r : TrunkRec) (c : ChanId) : r.without (fun f => f.chan == c) = { r with
    queue := (if r.transmitting then r.queue.take 1 else []) ++ r.loose.filter fun f => f.chan ≠ c } := by
  simp only [TrunkRec.without, without_eq]

/-- What a close leaves before its CLOSE_NOTE (R17 items 1 to 7). -/
structure EmptiedOf (s t : State) (c : ChanId) : Prop where
  chan : ∀ d, t.chan d = if d = c then (s.chan d).shut else s.chan d
  slot : ∀ j, t.slot j = if (s.slot j).chan = some c then wipeOrdered (s.slot j) else s.slot j
  exch : t.exch = s.exch.filter fun e => e.chan ≠ c
  sched : t.sched = { s.sched with waitList := s.sched.waitList.filter fun e => e.chan ≠ c }
  core : ∀ g place d, s.core = .outbound g place d → t.core = .outbound g place (d || g.chan == c)
  src : ∀ o, o ≠ .control → t.src o = keptOf (s.src o) c
  trunk : ∀ k, t.trunk k = { s.trunk k with
    queue := (if (s.trunk k).transmitting then (s.trunk k).queue.take 1 else [])
      ++ (s.trunk k).loose.filter fun f => f.chan ≠ c }
  inFifo : t.inFifo = s.inFifo.filter fun g => g.chan ≠ c
  latched : (t.port (s.chan c).owner.port).latches.channel = true
  completions : ∀ q : Port, (t.port q).completions = (s.port q).completions
    ++ ((goneOf s c).filter fun f => f.src = q.src ∧ f.marked = false).map (sendRecord (.refused .closedWhileQueued))
  outstanding : ∀ q : Port, (t.port q).outstanding = (s.port q).outstanding - (framesOf (goneOf s c) q).length
  held : ∀ q : Port, t.pool.held q.holder = s.pool.held q.holder - (framesOf (goneOf s c) q).length
  inbound : t.pool.heldInbound = s.pool.heldInbound - (s.inFifo.filter fun g => g.chan = c).length
  control : (∀ f ∈ goneOf s c, f.src ≠ .control) → t.srcControl = keptOf s.srcControl c
    ∧ t.pool.heldControl = s.pool.heldControl ∧ s.pool.free ≤ t.pool.free

theorem emptiedOf_spec (s : State) (c : ChanId) : EmptiedOf s (emptiedOf s c) c := by
  obtain ⟨hchan, hslot, hexch, hsched, hcore, hcompletions, houtstanding, hlatched, hframe⟩ := shutDown_spec s c
  have hempty : emptiedOf s c
      = ((shutDown s c).discard (fun f => f.chan == c) (.refused .closedWhileQueued)).dropInbound fun x => x == c := rfl
  rw [hempty]
  generalize shutDown s c = u at hchan hslot hexch hsched hcore hcompletions houtstanding hlatched hframe
  have husrc (o : OutSrc) : u.src o = s.src o := by
    have := congrArg (State.src · o) hframe
    exact this
  have hutrunk (k : Trunk) : u.trunk k = s.trunk k := by
    have := congrArg (State.trunk · k) hframe
    exact this
  have hufifo : u.inFifo = s.inFifo := by
    have := congrArg State.inFifo hframe
    exact this
  have hupool : u.pool = s.pool := by
    have := congrArg State.pool hframe
    exact this
  have hgone : u.picked (fun f => f.chan == c) = goneOf s c := by
    have h0 := hutrunk .t0
    have h1 := hutrunk .t1
    have hg := husrc .g
    have hp := husrc .p
    have hm := husrc .m
    have hc := husrc .control
    simp only [State.trunk, State.src] at h0 h1 hg hp hm hc
    rw [goneOf, State.picked, State.picked, h0, h1, hg, hp, hm, hc]
  have hanswered := answered_discard u (fun f => f.chan == c) (.refused .closedWhileQueued)
  have hdframe := discard_frame u (fun f => f.chan == c) (.refused .closedWhileQueued)
  have hdsrc {o : OutSrc} (ho : o ≠ .control) := src_discard u (fun f => f.chan == c) (.refused .closedWhileQueued) ho
  have hdtrunk := trunk_discard u (fun f => f.chan == c) (.refused .closedWhileQueued)
  have hkept (h : ∀ f ∈ goneOf s c, f.src ≠ .control) :=
    controlKept_foldl (hgone ▸ h) (.refused .closedWhileQueued) (withoutFrames u fun f => f.chan == c)
  rw [← discard_eq] at hkept
  rw [hgone] at hanswered
  generalize u.discard (fun f => f.chan == c) (.refused .closedWhileQueued) = v at hanswered hdframe hdsrc hdtrunk hkept
  obtain ⟨⟨hin, hheld, hfree, hvframe⟩, hfifo⟩ := dropped_dropInbound v fun x => x == c
  have hvfifo : v.inFifo = s.inFifo := by
    have := congrArg State.inFifo hdframe
    exact Eq.trans this hufifo
  rw [hvfifo] at hin hfifo
  generalize v.dropInbound (fun x => x == c) = t at hin hheld hfree hvframe hfifo
  have hport (q : Port) : t.port q = v.port q := by
    have := congrArg (State.port · q) hvframe
    exact this
  refine ⟨fun d => ?_, fun j => ?_, ?_, ?_, fun g place d h => ?_, fun o ho => ?_, fun k => ?_, ?_, ?_, fun q => ?_,
    fun q => ?_, fun q => ?_, ?_, fun h => ?_⟩
  · have h1 := congrArg (State.chan · d) hvframe
    have h2 := congrArg (State.chan · d) hdframe
    exact Eq.trans h1 (Eq.trans h2 (hchan d))
  · have h1 := congrArg (State.slot · j) hvframe
    have h2 := congrArg (State.slot · j) hdframe
    exact Eq.trans h1 (Eq.trans h2 (hslot j))
  · have h1 := congrArg State.exch hvframe
    have h2 := congrArg State.exch hdframe
    exact Eq.trans h1 (Eq.trans h2 hexch)
  · have h1 := congrArg State.sched hvframe
    have h2 := congrArg State.sched hdframe
    exact Eq.trans h1 (Eq.trans h2 hsched)
  · have h1 := congrArg State.core hvframe
    have h2 := congrArg State.core hdframe
    exact Eq.trans h1 (Eq.trans h2 (hcore g place d h))
  · have h1 := congrArg (State.src · o) hvframe
    refine Eq.trans h1 ((hdsrc ho).trans ?_)
    rw [husrc, source_without]
  · have h1 := congrArg (State.trunk · k) hvframe
    refine Eq.trans h1 ((hdtrunk k).trans ?_)
    rw [hutrunk, trunk_without]
  · rw [hfifo]
    exact List.filter_congr fun g _ => bne_eq_decide_ne g.chan c
  · rw [hport]
    exact hanswered.channel _ hlatched
  · rw [hport, hanswered.completions, hcompletions]
  · rw [hport, hanswered.outstanding, houtstanding]
  · rw [hheld _ (by cases q <;> nofun), hanswered.held, hupool]
  · rw [hin, hanswered.inbound, hupool]
    exact congrArg (fun l : List InFrame => s.pool.heldInbound - l.length)
      (List.filter_congr fun _ _ => rfl)
  · obtain ⟨hsrc, hcontrol, hmore⟩ := hkept h
    have hstart : (withoutFrames u fun f => f.chan == c).pool = s.pool := hupool
    rw [hstart] at hcontrol hmore
    have h1 := congrArg State.srcControl hvframe
    refine ⟨Eq.trans h1 (hsrc.trans ?_), (hheld .control nofun).trans hcontrol, Nat.le_trans hmore hfree⟩
    refine Eq.trans ?_ (source_without s.srcControl c)
    exact congrArg (fun r : Source => r.without fun f => f.chan == c) (husrc .control)

/-- A part made ready for a close of a channel, whose close does all that a close at once would do. -/
structure Prepared (s u : State) (c : ChanId) : Prop where
  own : (u.chan c).shut = (s.chan c).shut
  others : ∀ d, d ≠ c → u.chan d = s.chan d
  slot : ∀ j, (if (u.slot j).chan = some c then wipeOrdered (u.slot j) else u.slot j)
    = if (s.slot j).chan = some c then wipeOrdered (s.slot j) else s.slot j
  exch : u.exch.filter (fun e => e.chan ≠ c) = s.exch.filter fun e => e.chan ≠ c
  sched : { u.sched with waitList := u.sched.waitList.filter fun e => e.chan ≠ c }
    = { s.sched with waitList := s.sched.waitList.filter fun e => e.chan ≠ c }
  core : ∀ g place d, s.core = .outbound g place d → u.core = .outbound g place d
  completions : ∀ q, (u.port q).completions = (s.port q).completions
  outstanding : ∀ q, (u.port q).outstanding = (s.port q).outstanding
  frame : { u with
    chans := s.chans, slots := s.slots, derivs := s.derivs, core := s.core, exch := s.exch, sched := s.sched
    portG := s.portG, portP := s.portP, portM := s.portM } = s

theorem emptiedOf_of_prepared {s u : State} {c : ChanId} (h : Prepared s u c) : EmptiedOf s (emptiedOf u c) c := by
  obtain ⟨hchan, hslot, hexch, hsched, hcore, hsrc, htrunk, hfifo, hlatched, hcompletions, houtstanding, hheld, hin,
    hcontrol⟩ := emptiedOf_spec u c
  generalize emptiedOf u c = t at *
  have hframe := h.frame
  have husrc (o : OutSrc) : u.src o = s.src o := by
    have := congrArg (State.src · o) hframe
    exact this
  have hutrunk (k : Trunk) : u.trunk k = s.trunk k := by
    have := congrArg (State.trunk · k) hframe
    exact this
  have hufifo : u.inFifo = s.inFifo := by
    have := congrArg State.inFifo hframe
    exact this
  have hupool : u.pool = s.pool := by
    have := congrArg State.pool hframe
    exact this
  have hgone : goneOf u c = goneOf s c := by
    have h0 := hutrunk .t0
    have h1 := hutrunk .t1
    have hg := husrc .g
    have hp := husrc .p
    have hm := husrc .m
    have hc := husrc .control
    simp only [State.trunk, State.src] at h0 h1 hg hp hm hc
    rw [goneOf, goneOf, State.picked, State.picked, h0, h1, hg, hp, hm, hc]
  have howner : (u.chan c).owner = (s.chan c).owner := by
    have := congrArg (fun ch : Chan => ch.owner) h.own
    exact this
  rw [hgone] at hcompletions houtstanding hheld hcontrol
  refine ⟨fun d => ?_, fun j => (hslot j).trans (h.slot j), hexch.trans h.exch, hsched.trans h.sched,
    fun g place d hj => hcore g place d (h.core g place d hj), fun o ho => ?_, fun k => ?_, ?_, ?_, fun q => ?_, fun q => ?_,
    fun q => ?_, ?_, fun hp => ?_⟩
  · rw [hchan]
    split
    next hd => rw [hd, h.own]
    next hd => exact h.others d hd
  · rw [hsrc o ho, husrc]
  · rw [htrunk, hutrunk]
  · rw [hfifo, hufifo]
  · rw [← howner]
    exact hlatched
  · rw [hcompletions, h.completions]
  · rw [houtstanding, h.outstanding]
  · rw [hheld, hupool]
  · rw [hin, hupool, hufifo]
  · obtain ⟨hsrc', hcheld, hfree⟩ := hcontrol hp
    have hcsrc : u.srcControl = s.srcControl := husrc .control
    rw [hcsrc] at hsrc'
    rw [hupool] at hcheld hfree
    exact ⟨hsrc', hcheld, hfree⟩

/-- A close (R17) that builds a CLOSE_NOTE as R17 item 8 gives, of the part as it stood before it was made ready. -/
theorem closes_of_emptied {s p : State} {c : ChanId}
    (h0 : c ≠ 0 ∨ ((s.chan 0).state ≠ .live ∧ (s.chan 0).state ≠ .frozen)) (h : EmptiedOf s (emptiedOf p c) c) :
    s.Closes (p.close c true) c := by
  obtain ⟨hchan, hslot, hexch, hsched, hcore, hsrc, htrunk, hfifo, hlatched, hcompletions, houtstanding, hheld, hin,
    hcontrol⟩ := h
  have hclose := close_eq p c true
  generalize emptiedOf p c = u at *
  have hrun : (true && ((u.chan 0).state == .live || (u.chan 0).state == .frozen)) = true
      ↔ (s.chan 0).state = .live ∨ (s.chan 0).state = .frozen := by
    by_cases hc : c = 0
    · obtain ⟨hl, hf⟩ := h0.resolve_left fun h => h hc
      have hclosed : (u.chan 0).state = .closed := by rw [hchan, if_pos hc.symm]; rfl
      rw [hclosed]
      simp [hl, hf]
    · have hzero : (u.chan 0).state = (s.chan 0).state := by rw [hchan, if_neg (Ne.symm hc)]
      rw [hzero]
      simp
  obtain ⟨hbuilds, hbuilt⟩ := State.build_builds u .closeNote (closeNotePayload c.val)
  have hframe : { p.close c true with srcControl := u.srcControl, pool := u.pool } = u := by
    rw [hclose]
    split
    · exact hbuilt
    · rfl
  have hpool : ∀ h, h ≠ .control → (p.close c true).pool.held h = u.pool.held h := fun h hh => by
    rw [hclose]
    split
    · unfold State.Builds at hbuilds
      split at hbuilds
      · rw [hbuilds.2]
        cases h
        case control => exact absurd rfl hh
        all_goals rfl
      · rw [hbuilds.2]
    · rfl
  have hnote (h : ¬ ((s.chan 0).state = .live ∨ (s.chan 0).state = .frozen)) : p.close c true = u :=
    hclose.trans (if_neg fun x => h (hrun.1 x))
  have hwrote (h : (s.chan 0).state = .live ∨ (s.chan 0).state = .frozen) :
      p.close c true = u.build .closeNote (closeNotePayload c.val) := hclose.trans (if_pos (hrun.2 h))
  have hgone := goneOf_eq s c
  generalize p.close c true = t at *
  have hport (q : Port) : t.port q = u.port q := by
    have := congrArg (State.port · q) hframe
    exact this
  unfold State.Closes
  rw [← hgone]
  refine ⟨?_, fun d hd => ?_, fun j => ⟨fun hj => ?_, fun hj hne => ?_⟩, ?_, ?_, fun o ho => ?_, fun k => ?_, ?_,
    fun g place d h => ?_, ?_, fun q => ⟨⟨_, ?_, List.Perm.refl _⟩, ?_, ?_⟩, ?_, fun hports => ⟨fun h => ?_, ?_⟩⟩
  · have := congrArg (State.chan · c) hframe
    exact Eq.trans this ((hchan c).trans (if_pos rfl))
  · have := congrArg (State.chan · d) hframe
    exact Eq.trans this ((hchan d).trans (if_neg hd))
  · have := congrArg (State.slot · j) hframe
    exact Eq.trans this ((hslot j).trans (if_neg hj))
  · have := congrArg (State.slot · j) hframe
    refine Eq.trans this ((hslot j).trans ?_)
    rw [if_pos hj, wipeOrdered, if_neg hne]
  · have := congrArg State.exch hframe
    exact Eq.trans this hexch
  · have := congrArg (fun x : State => x.sched.waitList) hframe
    exact Eq.trans this (congrArg Scheduler.waitList hsched)
  · have := congrArg (State.src · o) hframe
    refine Eq.trans ?_ (Eq.trans this (hsrc o ho))
    cases o
    case control => exact absurd rfl ho
    all_goals rfl
  · have := congrArg (State.trunk · k) hframe
    exact Eq.trans this (htrunk k)
  · have := congrArg State.inFifo hframe
    exact Eq.trans this hfifo
  · have := congrArg State.core hframe
    exact Eq.trans this (hcore g place d h)
  · rw [hport]
    exact hlatched
  · rw [hport, hcompletions, List.filter_filter]
    refine congrArg (fun l => (s.port q).completions ++ l) ?_
    refine congrArg (List.map _) (List.filter_congr fun f _ => ?_)
    simp [Bool.and_comm]
  · rw [hport, houtstanding]
  · rw [hpool _ (by cases q <;> nofun), hheld]
  · exact (hpool .inbound nofun).trans hin
  · obtain ⟨hkept, hcheld, -⟩ := hcontrol hports
    rcases h with h | h
    · rw [hnote h, hkept]
      rfl
    · by_cases hr : (s.chan 0).state = .live ∨ (s.chan 0).state = .frozen
      · rw [hwrote hr, build_unlent (by rw [hcheld]; rintro ⟨hlt, -⟩; omega), hkept]
        rfl
      · rw [hnote hr, hkept]
        rfl
  · intro hr hlt hfree
    obtain ⟨hkept, hcheld, hmore⟩ := hcontrol hports
    rw [hwrote hr, build_lent ⟨by rw [hcheld]; exact hlt, by omega⟩]
    simp only [built, hkept]
    rfl

theorem closes_close {s : State} {c : ChanId} (h0 : c ≠ 0) : s.Closes (s.close c true) c :=
  closes_of_emptied (.inl h0) (emptiedOf_spec s c)

/-- Settles O27. -/
theorem closeEndsTheChannel : Obligations.CloseEndsTheChannel := by
  intro s pt tag n c ht hg hrun hc h0 hlock hopen
  have hok : s.closeCheck pt n = .ok c := by
    simp only [State.closeCheck, hg, hrun, hc, h0, hlock, hopen, if_false, ne_eq, not_true_eq_false]
  refine ⟨s.close c true, exec_of_finish_rest rfl ht ?_, closes_close h0⟩
  have hdecides : decision (.closeChannel pt tag n) s = s.closeCommand pt tag n := rfl
  rw [hdecides]
  simp only [State.closeCommand, hok]

/-! ### ABORT_RENEWAL (R126) -/

theorem abort_eq {s : State} {n : Nat} {c : ChanId} {tag : Byte} (hrun : s.mode = .running)
    (hc : s.resolveGlobal n = some c) (hi : (s.chan c).renewal ≠ .idle) (hs : (s.chan c).renewal ≠ .stopped) :
    s.abort .m tag n = ((if ((s.abortPending c).chan c).state = .openWait then (s.abortPending c).close c true
      else s.abortPending c).finish .m tag 0x07 (b1 n ++ b1 (s.chan c).renewal.code)).rest := by
  have hok : s.abortCheck .m n = .ok c := by
    simp only [State.abortCheck, State.onlyM_of_running hrun, hc, hi, hs, or_self, if_false]
  simp only [State.abort, hok]

theorem exec_abortRenewal {s t : State} {n : Nat} {c : ChanId} {tag : Byte} (ht : s.Takes .m) (hrun : s.mode = .running)
    (hc : s.resolveGlobal n = some c) (hi : (s.chan c).renewal ≠ .idle) (hs : (s.chan c).renewal ≠ .stopped)
    (h : (if ((s.abortPending c).chan c).state = .openWait then (s.abortPending c).close c true
      else s.abortPending c) = t) :
    exec (.abortRenewal .m tag n) s = .next ((t.modPort .m fun r => { r with
      completions := r.completions ++ [⟨tag, 0x07, .done, b1 n ++ b1 (s.chan c).renewal.code⟩]
      latches := { r.latches with completion := true } }).consulted .m) := by
  refine exec_of_finish_rest rfl ht ?_
  have hdecides : decision (.abortRenewal .m tag n) s = s.abort .m tag n := rfl
  rw [hdecides, abort_eq hrun hc hi hs, h]

theorem prepared_unlist (s : State) (c : ChanId) : Prepared s (s.unlist c) c where
  own := rfl
  others _ _ := rfl
  slot _ := rfl
  exch := rfl
  sched := by
    simp only [State.unlist, List.filter_filter]
    refine congrArg (fun l => { s.sched with waitList := l }) (List.filter_congr fun x _ => ?_)
    rw [bne_eq_decide_ne, Bool.and_self]
  core _ _ _ := id
  completions q := by cases q <;> rfl
  outstanding q := by cases q <;> rfl
  frame := rfl

theorem prepared_unpaused (s : State) (c : ChanId) : Prepared s (s.modChan c Chan.unpaused) c where
  own := by rw [State.chan_modChan, if_pos rfl]; rfl
  others d hd := by rw [State.chan_modChan, if_neg hd]
  slot _ := rfl
  exch := rfl
  sched := rfl
  core _ _ _ := id
  completions q := by cases q <;> rfl
  outstanding q := by cases q <;> rfl
  frame := rfl

theorem prepared_refl (s : State) (c : ChanId) : Prepared s s c :=
  ⟨rfl, fun _ _ => rfl, fun _ => rfl, rfl, rfl, fun _ _ _ => id, fun _ => rfl, fun _ => rfl, rfl⟩

/-- A slot whose wipe is ordered twice is as one whose wipe is ordered once. -/
theorem wipeOrdered_twice (k : Slot) (c : ChanId) :
    (if (wipeOrdered k).chan = some c then wipeOrdered (wipeOrdered k) else wipeOrdered k) = wipeOrdered k := by
  split
  next h =>
    unfold wipeOrdered at h ⊢
    split_ifs at h ⊢ <;> first | rfl | cases h
  next => rfl

theorem prepared_endExchange {s : State} {c : ChanId}
    (hslot : ∀ e, s.exchOf c = some e → (s.slot e.slot).chan = some c) : Prepared s (s.endExchange c) c := by
  cases he : s.exchOf c with
  | none =>
    have hsame : s.endExchange c = s := by simp only [State.endExchange, he]
    rw [hsame]
    exact prepared_refl s c
  | some e =>
    obtain ⟨hslots, hexch, hchans, hframe⟩ := endExchange_spec he
    have hcore (g : Frame) (place : Option Trunk) (d : Bool) (h : s.core = .outbound g place d) :
        (s.endExchange c).core = .outbound g place d := by
      have hend : s.endExchange c = ((s.dropExch c).wipe e.slot).modChan c fun ch => { ch with next := none } := by
        simp only [State.endExchange, he]
      rw [hend]
      exact core_wipe (s := s.dropExch c) h e.slot
    generalize s.endExchange c = t at *
    have hport (q : Port) : t.port q = s.port q := by
      have := congrArg (State.port · q) hframe
      exact this
    refine ⟨by rw [hchans, if_pos rfl]; rfl, fun d hd => by rw [hchans, if_neg hd], fun j => ?_, ?_, ?_, hcore,
      fun q => by rw [hport], fun q => by rw [hport], ?_⟩
    · rw [hslots]
      by_cases hj : j = e.slot
      · subst hj
        rw [if_pos rfl, wipeOrdered_twice, if_pos (hslot e he)]
      · rw [if_neg hj]
    · rw [hexch, List.filter_filter]
      simp only [Bool.and_self]
    · have := congrArg State.sched hframe
      have hsched : t.sched = s.sched := this
      rw [hsched]
    · have := congrArg (fun x : State => { x with sched := s.sched, portG := s.portG, portP := s.portP, portM := s.portM })
        hframe
      exact this

/-- The renewal status that a channel is given (R4). -/
structure Renewed (s t : State) (c : ChanId) (r : Renewal) : Prop where
  chan : ∀ d, t.chan d = if d = c then { s.chan d with renewal := r } else s.chan d
  completions : ∀ q, (t.port q).completions = (s.port q).completions
  outstanding : ∀ q, (t.port q).outstanding = (s.port q).outstanding
  frame : { t with chans := s.chans, portG := s.portG, portP := s.portP, portM := s.portM } = s

theorem renewed (s : State) (c : ChanId) (r : Renewal) : Renewed s (s.setRenewal c r) c r := by
  have hset : s.setRenewal c r = (s.modChan c fun ch => { ch with renewal := r }).tellChannel c := rfl
  have hport (q : Port) : (s.modChan c fun ch => { ch with renewal := r }).port q = s.port q := by cases q <;> rfl
  rw [hset]
  refine ⟨fun d => (chan_tellChannel _ c d).trans (State.chan_modChan s c d _), fun q => ?_, fun q => ?_, ?_⟩
  · rw [completions_tellChannel, hport]
  · rw [State.tellChannel, port_latchChannel]
    split
    next h => rw [← h, hport]
    next => rw [hport]
  · have := congrArg (fun x : State => { x with chans := s.chans })
      (latchChannel_frame (s.modChan c fun ch => { ch with renewal := r })
        ((s.modChan c fun ch => { ch with renewal := r }).chan c).owner.port)
    exact this

theorem Prepared.setRenewal {s u : State} {c : ChanId} (h : Prepared s u c) (r : Renewal) :
    Prepared s (u.setRenewal c r) c := by
  obtain ⟨hchan, hcompletions, houtstanding, hframe⟩ := renewed u c r
  generalize u.setRenewal c r = t at *
  have hslots : t.slots = u.slots := by
    have := congrArg State.slots hframe
    exact this
  refine ⟨?_, fun d hd => ?_, fun j => ?_, ?_, ?_, fun g place d hj => ?_, fun q => ?_, fun q => ?_, ?_⟩
  · rw [hchan, if_pos rfl]
    exact h.own
  · rw [hchan, if_neg hd]
    exact h.others d hd
  · have hslot : t.slot j = u.slot j := by simp only [State.slot, hslots]
    rw [hslot]
    exact h.slot j
  · have := congrArg (fun x : State => x.exch.filter fun e => decide (e.chan ≠ c)) hframe
    exact Eq.trans this h.exch
  · have := congrArg (fun x : State => { x.sched with waitList := x.sched.waitList.filter fun e => decide (e.chan ≠ c) })
      hframe
    exact Eq.trans this h.sched
  · have := congrArg State.core hframe
    exact Eq.trans this (h.core g place d hj)
  · rw [hcompletions, h.completions]
  · rw [houtstanding, h.outstanding]
  · have := congrArg (fun x : State => { x with
      chans := s.chans, slots := s.slots, derivs := s.derivs, core := s.core, exch := s.exch, sched := s.sched
      portG := s.portG, portP := s.portP, portM := s.portM }) hframe
    exact Eq.trans this h.frame

theorem abortPending_of_listed {s : State} {c : ChanId} (h : (s.chan c).renewal = .listed) :
    s.abortPending c = (s.unlist c).setRenewal c .idle := by simp only [State.abortPending, h]

theorem abortPending_of_paused {s : State} {c : ChanId} (h : (s.chan c).renewal = .paused) :
    s.abortPending c = (s.modChan c Chan.unpaused).setRenewal c .idle := by simp only [State.abortPending, h]

theorem abortPending_of_exchanging {s : State} {c : ChanId} (h : (s.chan c).renewal = .exchanging) :
    s.abortPending c = (s.endExchange c).setRenewal c .idle := by simp only [State.abortPending, h]

/-- The abort of an OPEN_WAIT channel's renewal closes it (R10, R126). -/
theorem abort_shuts {s : State} {tag : Byte} {n : Nat} {c : ChanId} (ht : s.Takes .m) (hrun : s.mode = .running)
    (hc : s.resolveGlobal n = some c) (hi : (s.chan c).renewal ≠ .idle) (hs : (s.chan c).renewal ≠ .stopped)
    (hwait : (s.chan c).state = .openWait) (hprep : Prepared s (s.abortPending c) c)
    (hstate : ((s.abortPending c).chan c).state = (s.chan c).state) :
    ∃ t : State, exec (.abortRenewal .m tag n) s = .next ((t.modPort .m fun r => { r with
      completions := r.completions ++ [⟨tag, 0x07, .done, b1 n ++ b1 (s.chan c).renewal.code⟩]
      latches := { r.latches with completion := true } }).consulted .m) ∧ s.Closes t c := by
  refine ⟨(s.abortPending c).close c true, exec_abortRenewal ht hrun hc hi hs (if_pos (hstate.trans hwait)), ?_⟩
  refine closes_of_emptied ?_ (emptiedOf_of_prepared hprep)
  by_cases h0 : c = 0
  · right
    rw [← h0, hwait]
    exact ⟨nofun, nofun⟩
  · exact .inl h0

/-- Settles O30. -/
theorem abortRenewalMakesTheChannelIdle : Obligations.AbortRenewalMakesTheChannelIdle := by
  intro s tag n c ht hrun hc done others shut
  refine ⟨fun hwait => ⟨fun h => ?_, fun h => ?_, fun h hslot => ?_⟩, fun hno => ⟨fun h => ?_, fun h => ?_, fun e h he hfly hne => ?_⟩⟩
  · have hab := abortPending_of_listed h
    have hshut := abort_shuts (tag := tag) ht hrun hc (by rw [h]; nofun) (by rw [h]; nofun) hwait
      (by rw [hab]; exact (prepared_unlist s c).setRenewal _)
      (by rw [hab, (renewed _ c _).chan, if_pos rfl]; rfl)
    rw [h] at hshut
    exact hshut
  · have hab := abortPending_of_paused h
    have hshut := abort_shuts (tag := tag) ht hrun hc (by rw [h]; nofun) (by rw [h]; nofun) hwait
      (by rw [hab]; exact (prepared_unpaused s c).setRenewal _)
      (by rw [hab, (renewed _ c _).chan, if_pos rfl, State.chan_modChan, if_pos rfl]; rfl)
    rw [h] at hshut
    exact hshut
  · have hab := abortPending_of_exchanging h
    have hstate : ((s.endExchange c).chan c).state = (s.chan c).state := by
      cases he : s.exchOf c with
      | none => simp only [State.endExchange, he]
      | some e => rw [(endExchange_spec he).2.2.1, if_pos rfl]
    have hshut := abort_shuts (tag := tag) ht hrun hc (by rw [h]; nofun) (by rw [h]; nofun) hwait
      (by rw [hab]; exact (prepared_endExchange hslot).setRenewal _)
      (by rw [hab, (renewed _ c _).chan, if_pos rfl]; exact hstate)
    rw [h] at hshut
    exact hshut
  · have hab := abortPending_of_listed h
    obtain ⟨hchan, -, -, hframe⟩ := renewed (s.unlist c) c .idle
    rw [← hab] at hchan hframe
    have hexec := exec_abortRenewal (tag := tag) (t := s.abortPending c) ht hrun hc (by rw [h]; nofun) (by rw [h]; nofun)
      (if_neg (by rw [hchan, if_pos rfl]; exact hno))
    rw [h] at hexec
    generalize s.abortPending c = t at *
    have h1 := congrArg (fun x : State => x.sched.waitList) hframe
    have h2 := congrArg State.exch hframe
    have h3 := congrArg State.slots hframe
    refine ⟨t, hexec, (hchan c).trans (if_pos rfl), fun d hd => (hchan d).trans (if_neg hd), ?_, h2, h3⟩
    exact Eq.trans h1 (List.filter_congr fun x _ => bne_eq_decide_ne x.chan c)
  · have hab := abortPending_of_paused h
    obtain ⟨hchan, -, -, hframe⟩ := renewed (s.modChan c Chan.unpaused) c .idle
    rw [← hab] at hchan hframe
    have hown : (s.modChan c Chan.unpaused).chan c = (s.chan c).unpaused := (State.chan_modChan ..).trans (if_pos rfl)
    have hexec := exec_abortRenewal (tag := tag) (t := s.abortPending c) ht hrun hc (by rw [h]; nofun) (by rw [h]; nofun)
      (if_neg (by rw [hchan, if_pos rfl, hown]; exact hno))
    rw [h] at hexec
    generalize s.abortPending c = t at *
    have h1 := congrArg State.sched hframe
    have h2 := congrArg State.exch hframe
    have h3 := congrArg State.slots hframe
    refine ⟨t, hexec, (hchan c).trans ?_, fun d hd => (hchan d).trans ?_, h1, h2, h3⟩
    · rw [if_pos rfl, hown]
      rfl
    · rw [if_neg hd, State.chan_modChan, if_neg hd]
  · have hab := abortPending_of_exchanging h
    obtain ⟨hslots, hexch, hchans, hkept⟩ := endExchange_spec he
    obtain ⟨hchan, -, -, hframe⟩ := renewed (s.endExchange c) c .idle
    rw [← hab] at hchan hframe
    have hstate : ((s.abortPending c).chan c).state ≠ .openWait := by
      rw [hchan, if_pos rfl, hchans, if_pos rfl]
      exact hno
    have hexec := exec_abortRenewal (tag := tag) (t := s.abortPending c) ht hrun hc (by rw [h]; nofun) (by rw [h]; nofun)
      (if_neg hstate)
    rw [h] at hexec
    have hderivs : (s.endExchange c).derivs = s.derivs.filter fun d => !d.into e.slot := by
      have hend : s.endExchange c = ((s.dropExch c).wipe e.slot).modChan c fun ch => { ch with next := none } := by
        simp only [State.endExchange, he]
      have hwipe : (s.dropExch c).wipe e.slot = ((s.dropExch c).modSlot e.slot fun _ => .wiped).abandonInto e.slot :=
        (if_neg hne).trans (if_neg (by rw [show (s.dropExch c).slot e.slot = s.slot e.slot from rfl, hfly]; nofun))
      rw [hend, hwipe]
      rfl
    generalize s.abortPending c = t at *
    generalize s.endExchange c = u at *
    have hslot (j : SlotId) : t.slot j = u.slot j := by
      have := congrArg (State.slot · j) hframe
      exact this
    have h1 := congrArg State.sched hframe
    have h1' := congrArg State.sched hkept
    have h2 := congrArg State.exch hframe
    have h3 := congrArg State.derivs hframe
    refine ⟨t, hexec, (hchan c).trans ?_, fun d hd => (hchan d).trans ?_, Eq.trans h2 hexch, ?_, fun j hj => ?_,
      Eq.trans h1 h1', Eq.trans h3 hderivs⟩
    · rw [if_pos rfl, hchans, if_pos rfl]
    · rw [if_neg hd, hchans, if_neg hd]
    · rw [hslot, hslots, if_pos rfl, wipeOrdered, if_neg hne, hfly]
      rfl
    · rw [hslot, hslots, if_neg hj]

end Sys2Proof.Proofs

/-! The tamper sequence (R180, R189) and what a general close tells the ports (R21, R23). -/

namespace Sys2Proof.Proofs
open Sys2Proof.Machine

/-! ### Raises that build no report -/

theorem reportTest_of_dead {s : State} (h : (s.chan 0).state ≠ .live) (b : Bool) : s.reportTest b = s := by
  rw [reportTest_eq, if_neg]
  rintro ⟨⟨hmay, -⟩, -⟩
  exact h ((mayReport_iff s).1 hmay).1

/-- A raise without a LIVE channel 0 changes the fault unit and port M's FAULT latch only (R155, R162). -/
theorem raise_of_dead {s : State} (hdead : (s.chan 0).state ≠ .live) (k : FaultKind) (c : Option ChanId)
    (w : Option Trunk) (pt : Option Port) : ∃ u b, s.raise k c w pt
      = { s with fault := u, portM := { s.portM with latches := { s.portM.latches with fault := b } } } := by
  by_cases hk : k.severity = .critical
  case neg => exact raise_of_not_critical s hk c w pt
  by_cases hm : k ∈ s.fault.mask
  · exact ⟨_, s.portM.latches.fault, raise_of_masked hm ..⟩
  · by_cases h : ∃ r ∈ s.fault.queue, r.taken = false ∧ r.kind = k ∧ r.chan = c ∧ r.trunk = w
    · exact ⟨_, s.portM.latches.fault, raise_of_coalesces hm h ..⟩
    · rw [raise_of_new hm fun r hr hx => h ⟨r, hr, hx⟩]
      generalize ht : ({ s with fault := { s.fault with latches := (s.fault.latched k).latches } } : State) = t
      cases h : (if t.fault.queue.length < 32 then some t.fault else t.fault.makeRoom
          (FaultRec.made k c w pt s.uptime).kind.severity) with
      | none =>
        rw [appendRecord_of_none h, ← ht]
        exact ⟨_, s.portM.latches.fault, rfl⟩
      | some u =>
        have hq : ((queued t u (.made k c w pt s.uptime)).chan 0).state ≠ .live := by rw [← ht]; exact hdead
        rw [appendRecord_of_room h, reportTest_of_dead hq, ite_self, ← ht]
        exact ⟨_, true, rfl⟩

/-! ### Ports told of a general close (R21, R23) -/

/-- Ports that have at most their CHANNEL latch set anew. -/
structure Told (s t : State) : Prop where
  port : ∀ q, t.port q = { s.port q with latches := { (s.port q).latches with channel := (t.port q).latches.channel } }
  latched : ∀ q, (s.port q).latches.channel = true → (t.port q).latches.channel = true
  frame : { t with portG := s.portG, portP := s.portP, portM := s.portM } = s

theorem Told.refl (s : State) : Told s s := ⟨fun _ => rfl, fun _ => id, rfl⟩

theorem Told.trans {s t u : State} (h : Told s t) (k : Told t u) : Told s u where
  port q := by rw [k.port, h.port]
  latched q x := k.latched q (h.latched q x)
  frame := by
    have := congrArg (fun x : State => { x with portG := s.portG, portP := s.portP, portM := s.portM }) k.frame
    exact Eq.trans this h.frame

theorem told_latchChannel (s : State) (pt : Port) : Told s (s.latchChannel pt) where
  port q := by
    rw [port_latchChannel]
    split
    next h => rw [h]
    next => rfl
  latched q h := by
    rw [port_latchChannel]
    split
    · rfl
    · exact h
  frame := latchChannel_frame s pt

/-- The attention before a general close: each port hears of its channels that are open. -/
theorem told_tells (l : List ChanId) (s : State) :
    Told s (l.foldl (fun s c =>
      if (s.chan c).state = .closed ∧ (s.chan c).renewal = .idle then s else s.tellChannel c) s)
    ∧ ∀ c ∈ l, (s.chan c).state ≠ .closed → ((l.foldl (fun s c =>
      if (s.chan c).state = .closed ∧ (s.chan c).renewal = .idle then s else s.tellChannel c) s).port
        (s.chan c).owner.port).latches.channel = true := by
  induction l generalizing s with
  | nil => exact ⟨.refl s, fun _ h => absurd h List.not_mem_nil⟩
  | cons c l ih =>
    rw [List.foldl_cons]
    have hfirst : Told s (if (s.chan c).state = .closed ∧ (s.chan c).renewal = .idle then s else s.tellChannel c) := by
      split
      · exact .refl s
      · exact told_latchChannel s _
    have hown (h : (s.chan c).state ≠ .closed) : ((if (s.chan c).state = .closed ∧ (s.chan c).renewal = .idle then s
        else s.tellChannel c).port (s.chan c).owner.port).latches.channel = true := by
      rw [if_neg fun x => h x.1]
      exact latched_tellChannel s c
    generalize (if (s.chan c).state = .closed ∧ (s.chan c).renewal = .idle then s else s.tellChannel c) = u at hfirst hown
    obtain ⟨hrest, hothers⟩ := ih u
    have hchan (d : ChanId) : u.chan d = s.chan d := by
      have := congrArg (State.chan · d) hfirst.frame
      exact this
    refine ⟨hfirst.trans hrest, fun d hd hne => ?_⟩
    rcases List.mem_cons.1 hd with rfl | hd
    · exact hrest.latched _ (hown hne)
    · have := hothers d hd (by rw [hchan]; exact hne)
      rwa [hchan] at this

theorem told_tellClosing (s : State) : Told s s.tellClosing
    ∧ ∀ c, (s.chan c).state ≠ .closed → (s.tellClosing.port (s.chan c).owner.port).latches.channel = true := by
  obtain ⟨h, hall⟩ := told_tells allChans s
  exact ⟨h, fun c hc => hall c (List.mem_finRange c) hc⟩

theorem port_cut (s : State) (k : Trunk) (q : Port) : (s.cut k).port q = s.port q := by
  rcases State.cut_cases s k with ⟨-, h⟩ | ⟨-, h⟩
  · rw [h]
    cases q <;> cases k <;> rfl
  · rw [h]

/-- The ports after a general close (R21, R23). -/
theorem port_quiesce (s : State) (q : Port) : s.quiesce.port q = s.tellClosing.port q := by
  have hcut : ((s.tellClosing.cut .t0).cut .t1).port q = s.tellClosing.port q := by rw [port_cut, port_cut]
  rw [← hcut]
  unfold State.quiesce
  generalize (s.tellClosing.cut .t0).cut .t1 = u
  cases q <;> rfl

/-! ### The frames that a tamper refuses (R23, R177) -/

/-- What the ports get for frames that are refused without the return of their buffers. -/
structure Refused (l : List Frame) (s t : State) : Prop where
  completions : ∀ pt, (t.port pt).completions = (s.port pt).completions
    ++ (l.filter fun f => f.src = pt.src ∧ f.marked = false).map (sendRecord (.refused .closedWhileQueued))
  outstanding : ∀ pt, (t.port pt).outstanding = (s.port pt).outstanding - (framesOf l pt).length
  marks : ∀ pt, (t.port pt).marks = (s.port pt).marks - ((framesOf l pt).filter fun f => f.marked).length
  enables : ∀ pt, (t.port pt).enables = (s.port pt).enables
  frame : { t with portG := s.portG, portP := s.portP, portM := s.portM } = s

theorem refused_refuseFrame (s : State) (f : Frame) : Refused [f] s (s.refuseFrame f) := by
  have hanswered := answered_outcome s f (.refused .closedWhileQueued)
  have hport (q : Port) : (s.refuseFrame f).port q = (s.outcome f (.refused .closedWhileQueued)).port q
      ∨ ((s.refuseFrame f).port q = s.port q ∧ f.src ≠ q.src) := by
    cases hp : f.src.port with
    | none =>
      right
      refine ⟨by simp only [State.refuseFrame, hp], fun h => ?_⟩
      rw [h] at hp
      cases q <;> cases hp
    | some pt =>
      left
      have hgive : (s.giveBuf f.src.holder).port pt = s.port pt := by cases pt <;> rfl
      have hgive' : (s.giveBuf f.src.holder).port q = s.port q := by cases q <;> rfl
      simp only [State.refuseFrame, State.outcome, hp, port_complete, hgive, hgive']
  have hframe : { s.refuseFrame f with portG := s.portG, portP := s.portP, portM := s.portM } = s := by
    unfold State.refuseFrame
    split
    next pt _ => cases pt <;> rfl
    next => rfl
  refine ⟨fun q => ?_, fun q => ?_, fun q => ?_, fun q => ?_, hframe⟩
  all_goals rcases hport q with h | ⟨h, hne⟩
  · rw [h]; exact hanswered.completions q
  · simp [h, hne]
  · rw [h]; exact hanswered.outstanding q
  · simp [h, hne]
  · rw [h]; exact hanswered.marks q
  · simp [h, hne]
  · rw [h]; exact hanswered.enables q
  · rw [h]

theorem refused_foldl (l : List Frame) (s : State) : Refused l s (l.foldl State.refuseFrame s) := by
  induction l generalizing s with
  | nil => exact ⟨fun _ => (List.append_nil _).symm, fun _ => rfl, fun _ => rfl, fun _ => rfl, rfl⟩
  | cons f l ih =>
    have hone := refused_refuseFrame s f
    have hrest := ih (s.refuseFrame f)
    rw [List.foldl_cons]
    generalize s.refuseFrame f = u at hone hrest
    have hl : f :: l = [f] ++ l := rfl
    rw [hl]
    refine ⟨fun q => ?_, fun q => ?_, fun q => ?_, fun q => ?_, ?_⟩
    · rw [hrest.completions, hone.completions, List.filter_append, List.map_append, List.append_assoc]
    · rw [hrest.outstanding, hone.outstanding, framesOf, framesOf, framesOf, List.filter_append, List.length_append,
        Nat.sub_sub]
    · rw [hrest.marks, hone.marks, framesOf, framesOf, framesOf, List.filter_append, List.filter_append,
        List.length_append, Nat.sub_sub]
    · rw [hrest.enables, hone.enables]
    · have := congrArg (fun x : State => { x with portG := s.portG, portP := s.portP, portM := s.portM }) hrest.frame
      exact Eq.trans this hone.frame

/-- The ports after the tamper sequence, before its raise. -/
theorem port_tampered (s : State) (q : Port) : (tampered s).port q
    = ((s.allFrames.foldl State.refuseFrame s).tellClosing.port q).noDeliveries := by
  rw [← port_quiesce]
  unfold tampered
  generalize (s.allFrames.foldl State.refuseFrame s).quiesce = u
  cases q <;> rfl

theorem cut_frame (s : State) (k : Trunk) : { s.cut k with t0 := s.t0, t1 := s.t1, draws := s.draws } = s := by
  rcases State.cut_cases s k with ⟨-, h⟩ | ⟨-, h⟩
  · rw [h]
    cases k <;> rfl
  · rw [h]

/-- What comes before the blocks of a general close writes the ports, the trunks and the count of free values only. -/
theorem beforeQuiesce_frame (s : State) : { (s.tellClosing.cut .t0).cut .t1 with
    t0 := s.t0, t1 := s.t1, draws := s.draws, portG := s.portG, portP := s.portP, portM := s.portM } = s := by
  have h1 := (told_tellClosing s).1.frame
  generalize s.tellClosing = u at h1
  have h2 := cut_frame u .t0
  generalize u.cut .t0 = v at h2
  have h3 := cut_frame v .t1
  generalize v.cut .t1 = w at h3
  have k3 := congrArg (fun x : State => { x with
    t0 := s.t0, t1 := s.t1, draws := s.draws, portG := s.portG, portP := s.portP, portM := s.portM }) h3
  have k2 := congrArg (fun x : State => { x with
    t0 := s.t0, t1 := s.t1, draws := s.draws, portG := s.portG, portP := s.portP, portM := s.portM }) h2
  have k1 := congrArg (fun x : State => { x with t0 := s.t0, t1 := s.t1, draws := s.draws }) h1
  exact Eq.trans k3 (Eq.trans k2 k1)

/-- What a general close keeps of the channels, the sources, the store, the lines and the fault unit. -/
structure Quiesced (s t : State) : Prop where
  chan : ∀ c, t.chan c = (s.chan c).shut
  src : ∀ o, t.src o = (s.src o).emptied
  store : t.store = { s.store with bootWaits := false }
  lines : t.lines = s.lines
  fault : t.fault = s.fault.abandon

theorem quiesced (s : State) : Quiesced s s.quiesce := by
  have h := beforeQuiesce_frame s
  unfold State.quiesce
  generalize (s.tellClosing.cut .t0).cut .t1 = u at h ⊢
  have hsrc (o : OutSrc) : u.src o = s.src o := by
    have := congrArg (State.src · o) h
    exact this
  refine ⟨fun c => ?_, fun o => ?_, ?_, ?_, ?_⟩
  · have := congrArg (State.chan · c) h
    exact (State.chan_map u Chan.shut c).trans (congrArg Chan.shut this)
  · rw [← hsrc]
    cases o <;> rfl
  · have := congrArg (fun x : State => { x.store with bootWaits := false }) h
    exact this
  · have := congrArg State.lines h
    exact this
  · have := congrArg (fun x : State => x.fault.abandon) h
    exact this

theorem waiting_emptied (r : Source) : r.emptied.waiting = [] := by
  simp [Source.waiting, Source.held, Source.emptied, Vector.toList_replicate]

/-- What the tamper sequence leaves of the part, before its raise (R189). -/
theorem tampered_spec (s : State) :
    (∀ c, (tampered s).chan c = (s.chan c).shut)
    ∧ (∀ o, ((tampered s).src o).waiting = [])
    ∧ (tampered s).store = { s.store with bootWaits := false, restartWaits := false }
    ∧ (tampered s).lines = s.lines.map fun l => { l with dirOut := false, latch := false } := by
  have hrefused := (refused_foldl s.allFrames s).frame
  unfold tampered
  generalize s.allFrames.foldl State.refuseFrame s = u at hrefused ⊢
  obtain ⟨hchan, hsrc, hstore, hlines, -⟩ := quiesced u
  generalize u.quiesce = v at *
  refine ⟨fun c => ?_, fun o => ?_, ?_, ?_⟩
  · have := congrArg (State.chan · c) hrefused
    exact (hchan c).trans (congrArg Chan.shut this)
  · have h : (v.src o).waiting = [] := by rw [hsrc, waiting_emptied]
    refine Eq.trans ?_ h
    cases o <;> rfl
  · have := congrArg (fun x : State => { x.store with bootWaits := false, restartWaits := false }) hrefused
    exact (congrArg (fun x : Store => { x with restartWaits := false }) hstore).trans this
  · have := congrArg State.lines hrefused
    exact congrArg (fun l : Vector Line 8 => l.map fun l => { l with dirOut := false, latch := false })
      (hlines.trans this)

theorem line_linesIn {l : Vector Line 8} (i : Fin 8) :
    (l.map fun l => { l with dirOut := false, latch := false })[i.val] = { l[i.val] with dirOut := false, latch := false } :=
  Vector.getElem_map ..

/-- Settles O44. -/
theorem tamperWipesAndLocks : Obligations.TamperWipesAndLocks := by
  intro s held frames ofPort
  generalize hs : s.modLine 2 (fun l => { l with ext := held }) = u
  have hline (i : Fin 8) : (u.line i).fn = (s.line i).fn := by
    rw [← hs, line_modLine]
    split
    next h => rw [h]
    next => rfl
  have hexec : exec (.tamper held) s = if u.armed = true then .next u.tamperNow else .next u := by
    rw [← hs]; rfl
  have harmed : u.armed = (s.line 2).fn := hline 2
  have hmode : u.mode = s.mode := by rw [← hs]; rfl
  refine ⟨fun hlock hfn => ?_, fun hlock hfn => ?_, fun hfn => ?_⟩
  · have hnow : u.tamperNow = (tampered u).raise .tamper := by
      rw [tamperNow_eq, if_neg (by rw [hmode]; exact hlock)]
    have hframes : u.allFrames = frames := by
      rw [← hs]
      refine congrArg (fun l : List Frame => s.t0.queue ++ s.t1.queue ++ s.srcG.waiting ++ s.srcP.waiting
        ++ s.srcM.waiting ++ s.srcControl.waiting ++ l) ?_
      cases h : s.core <;> simp only [State.modLine, Core.frames, h]
    have hport (q : Port) : u.port q = s.port q := by rw [← hs]; cases q <;> rfl
    have hchan (c : ChanId) : u.chan c = s.chan c := by rw [← hs]; rfl
    have hstore : u.store = s.store := by rw [← hs]; rfl
    refine ⟨(tampered u).raise .tamper, ?_, ?_⟩
    · rw [hexec, harmed, hfn, if_pos rfl, hnow]
    have hemptied := emptied_tampered u
    have htmode := (tampered_frame u).1
    obtain ⟨htchan, htsrc, htstore, htlines⟩ := tampered_spec u
    have htport := port_tampered u
    obtain ⟨hcompletions, houtstanding, hmarks, henables, hrframe⟩ := refused_foldl u.allFrames u
    rw [hframes] at hcompletions houtstanding hmarks henables hrframe htport
    generalize frames.foldl State.refuseFrame u = v at hcompletions houtstanding hmarks henables hrframe htport
    obtain ⟨htold, hlatched⟩ := told_tellClosing v
    have hpool : (tampered u).pool.free = 128 := rfl
    have hraised : FaultKind.tamper ∈ ((tampered u).raise .tamper).fault.latches := (mem_latches_raise ..).2 (.inr rfl)
    generalize tampered u = t at *
    have hdead : (t.chan 0).state ≠ .live := by rw [htchan]; nofun
    obtain ⟨f, b, hraise⟩ := raise_of_dead hdead .tamper none none none
    have htport' (q : Port) : ((t.raise .tamper).port q).completions = (t.port q).completions
        ∧ ((t.raise .tamper).port q).outstanding = (t.port q).outstanding
        ∧ ((t.raise .tamper).port q).marks = (t.port q).marks
        ∧ ((t.raise .tamper).port q).enables = (t.port q).enables
        ∧ ((t.raise .tamper).port q).deliveries = (t.port q).deliveries
        ∧ ((t.raise .tamper).port q).latches.channel = (t.port q).latches.channel := by
      rw [hraise]
      cases q <;> exact ⟨rfl, rfl, rfl, rfl, rfl, rfl⟩
    have hquiet := hemptied.quiet (.inr htmode)
    refine ⟨by rw [hraise]; exact htmode, fun _ => ?_, fun i => ?_, fun c => ?_, fun o => ?_, ?_, ?_, ?_, fun k => ?_, ?_,
      fun q => ?_, fun q => ⟨⟨_, ?_, List.Perm.refl _⟩, ?_, ?_, ?_⟩, fun c hc => ?_, fun i => ?_, hraised, ?_, ?_⟩
    · rw [hraise]
      exact ⟨fun i => (congrArg Slot.state (hemptied.slots i)).trans rfl, hquiet⟩
    · rw [hraise]
      exact hemptied.slots i
    · rw [hraise]
      exact (congrArg Chan.limits (htchan c)).trans (congrArg (fun ch : Chan => ch.shut.limits) (hchan c))
    · rw [hraise]
      refine Eq.trans ?_ (htsrc o)
      cases o <;> rfl
    · rw [hraise]
      exact hemptied.frames.1
    · rw [hraise]
      exact hemptied.exch
    · rw [hraise]
      exact hemptied.waitList
    · rw [hraise]
      obtain ⟨h1, h2, -, h3⟩ := hemptied.trunks k
      cases k <;> exact ⟨h1, h2, h3⟩
    · rw [hraise]
      exact hpool
    · rw [(htport' q).2.2.2.2.1]
      exact hemptied.deliveries q
    · have hsame : (t.port q).completions = (v.port q).completions := by rw [htport, htold.port]; rfl
      rw [(htport' q).1, hsame, hcompletions, hport, List.filter_filter]
      refine congrArg (fun l => (s.port q).completions ++ l) (congrArg (List.map _) (List.filter_congr fun f _ => ?_))
      simp [Bool.and_comm]
    · have hsame : (t.port q).outstanding = (v.port q).outstanding := by rw [htport, htold.port]; rfl
      rw [(htport' q).2.1, hsame, houtstanding, hport]
    · have hsame : (t.port q).marks = (v.port q).marks := by rw [htport, htold.port]; rfl
      rw [(htport' q).2.2.1, hsame, hmarks, hport]
    · have hsame : (t.port q).enables = (v.port q).enables := by rw [htport, htold.port]; rfl
      rw [(htport' q).2.2.2.1, hsame, henables, hport]
    · have hvchan : v.chan c = s.chan c := by
        have := congrArg (State.chan · c) hrframe
        exact Eq.trans this (hchan c)
      have h := hlatched c (by rw [hvchan]; exact hc)
      rw [hvchan] at h
      rw [(htport' _).2.2.2.2.2, htport]
      exact h
    · have hlines : ((t.raise .tamper).line i) = { u.line i with dirOut := false, latch := false } := by
        rw [hraise]
        exact (congrArg (fun l : Vector Line 8 => l[i.val]) htlines).trans (line_linesIn i)
      rw [hlines]
      exact ⟨rfl, rfl, hline i⟩
    · rw [hraise]
      exact (congrArg Store.image htstore).trans (congrArg (fun x : Store => x.image) hstore :)
    · rw [hraise]
      exact (congrArg Store.write htstore).trans (congrArg (fun x : Store => x.write) hstore :)
  · rw [hexec, harmed, hfn, if_pos rfl, tamperNow_eq, if_pos (by rw [hmode]; exact hlock)]
  · rw [hexec, harmed, hfn, if_neg nofun]

end Sys2Proof.Proofs

/-! Entry into SAFE, the bootstrap request and the end of the self-check (R41, R186, R189). -/

namespace Sys2Proof.Proofs
open Sys2Proof.Machine

theorem quietLaw_of_emptied {t : State} (h : Emptied t) : t.QuietLaw := fun hm =>
  ⟨fun i => (congrArg Slot.state (h.slots i)).trans rfl, h.quiet hm⟩

/-! ### Entry into SAFE (R189) -/

/-- What entry into SAFE keeps and clears (R189). -/
structure Safe (s t : State) : Prop where
  mode : t.mode = .safe
  emptied : Emptied t
  store : t.store = { s.store with bootWaits := false }
  lines : t.lines = s.lines
  fault : t.fault = s.fault.abandon
  src : ∀ o, t.src o = (s.src o).emptied
  free : t.pool.free = 128
  port : ∀ q, t.port q = (s.tellClosing.port q).atSafe
  work : t.sched = .fresh ∧ t.boot = .fresh

theorem safe_enterSafe (s : State) : Safe s s.enterSafe := by
  obtain ⟨-, hsrc, hstore, hlines, hfault⟩ := quiesced s
  have hport := port_quiesce s
  refine ⟨rfl, emptied_enterSafe s, ?_, ?_, ?_, fun o => ?_, rfl, fun q => ?_, rfl, rfl⟩
  all_goals unfold State.enterSafe
  all_goals generalize s.quiesce = u at *
  · exact hstore
  · exact hlines
  · exact hfault
  · rw [← hsrc]
    cases o <;> rfl
  · rw [← hport]
    cases q <;> rfl

theorem store_raise (s : State) (k : FaultKind) (c : Option ChanId) (w : Option Trunk) (pt : Option Port) :
    (s.raise k c w pt).store = s.store := by
  obtain ⟨_, _, _, _, h, -⟩ := State.raise_step s k c w pt
  rw [h]

theorem latches_abandon (u : FaultUnit) : u.abandon.latches = u.latches := rfl

/-- BOOT_LIMIT and SAFE (R41 step 1). -/
theorem safe_of_bootLimit (s : State) : Safe (s.raise .bootLimit) (s.raise .bootLimit).enterSafe
    ∧ FaultKind.bootLimit ∈ (s.raise .bootLimit).enterSafe.fault.latches
    ∧ (s.raise .bootLimit).enterSafe.store = { s.store with bootWaits := false } := by
  have h := safe_enterSafe (s.raise .bootLimit)
  refine ⟨h, ?_, ?_⟩
  · rw [h.fault, latches_abandon]
    exact (mem_latches_raise ..).2 (.inr rfl)
  · rw [h.store, store_raise]

theorem beginBootstrap_of_write {s : State} (h : s.store.write ≠ none) :
    s.beginBootstrap = { s with store := { s.store with bootWaits := true } } := by
  rcases State.beginBootstrap_cases s with ⟨-, e⟩ | ⟨hn, -, -⟩ | ⟨hn, -, -⟩
  · exact e
  · exact absurd hn h
  · exact absurd hn h

theorem beginBootstrap_of_limit {s : State} (h : s.store.write = none) (hc : 65535 ≤ imageCount s.store.image) :
    s.beginBootstrap = (s.raise .bootLimit).enterSafe := by
  rcases State.beginBootstrap_cases s with ⟨hn, -⟩ | ⟨-, -, e⟩ | ⟨-, hlt, -⟩
  · exact absurd h hn
  · exact e
  · omega

theorem beginBootstrap_of_count {s : State} (h : s.store.write = none) (hc : imageCount s.store.image < 65535) :
    s.beginBootstrap = { s with
      store := { s.store with write := some (.count (imageCount s.store.image + 1)), bootWaits := false }
      derivs := s.derivs ++ [.bootstrap (imageCount s.store.image + 1)] } := by
  rcases State.beginBootstrap_cases s with ⟨hn, -⟩ | ⟨-, hle, -⟩ | ⟨-, -, e⟩
  · exact absurd h hn
  · omega
  · exact e

/-! ### The end of the self-check (R186 steps 3 to 6) -/

theorem exec_selfCheckEnd {s : State} (hmode : s.mode = .starting) (hcore : s.core = .derives .selfCheck) (ok : Bool) :
    exec (.selfCheckEnd ok) s = .next (s.selfCheckEnds ok) := if_pos ⟨hcore, hmode⟩

/-- The trunks of a part that enters RUNNING (R186 step 6). -/
theorem trunk_entered (s : State) (k : Trunk) : (entered s).trunk k = if (s.trunk k).enable then { s.trunk k with
    state := if s.carrier k then .proving else .down
    proving := if s.carrier k then some (s.uptime + (s.trunk k).provingInterval) else none } else s.trunk k := by
  have hone (u : State) (hline : u.lines = s.lines) (hup : u.uptime = s.uptime) (htrunk : u.trunk k = s.trunk k) :
      (enterEnabled u k).trunk k = if (s.trunk k).enable then { s.trunk k with
        state := if s.carrier k then .proving else .down
        proving := if s.carrier k then some (s.uptime + (s.trunk k).provingInterval) else none } else s.trunk k := by
    unfold enterEnabled
    rw [htrunk]
    split
    · rw [enterByCarrier_eq, State.trunk_modTrunk, if_pos rfl, carrier_of_lines hline, hup, htrunk]
      unfold byCarrier
      cases s.carrier k <;> rfl
    · exact htrunk
  have hfirst : (enterEnabled (inRunning s) .t0).lines = s.lines ∧ (enterEnabled (inRunning s) .t0).uptime = s.uptime := by
    unfold enterEnabled
    split <;> exact ⟨rfl, rfl⟩
  cases k
  · exact (trunk_enterEnabled_of_ne _ (by decide)).trans (hone (inRunning s) rfl rfl rfl)
  · exact hone _ hfirst.1 hfirst.2 (trunk_enterEnabled_of_ne _ (by decide))

theorem entered_frame (s : State) : { entered s with t0 := s.t0, t1 := s.t1 } = inRunning s := by
  unfold entered enterEnabled
  split
  · split <;> rfl
  · split <;> rfl

/-- Settles O42. -/
theorem selfCheckEndsInRunningOrSafe : Obligations.SelfCheckEndsInRunningOrSafe := by
  intro s ok hmode hcore
  have hexec := exec_selfCheckEnd hmode hcore ok
  refine ⟨fun hok himage hcount hwrite => ?_, fun hbad => ?_⟩
  · subst hok
    have hcount : imageCount s.store.image < 65535 := hcount
    have hends : s.selfCheckEnds true = (entered { s with core := .idle }).beginBootstrap := by
      rw [selfCheckEnds_true, if_neg (by rw [himage]; nofun), if_neg (Nat.ne_of_lt hcount), enterRunning_eq]
    have hframe := entered_frame { s with core := .idle }
    have htrunk := trunk_entered { s with core := .idle }
    rw [hexec, hends]
    generalize entered { s with core := .idle } = u at hframe htrunk
    have hstore : u.store = s.store := by
      have := congrArg State.store hframe
      exact this
    rw [beginBootstrap_of_count (by rw [hstore]; exact hwrite) (by rw [hstore]; exact hcount), hstore]
    have hmode' := congrArg State.mode hframe
    have hcore' := congrArg State.core hframe
    have hfault := congrArg State.fault hframe
    have hderivs := congrArg State.derivs hframe
    refine ⟨_, rfl, hmode', hcore', hfault, rfl, ?_, fun k => ?_, ?_⟩
    · exact congrArg (fun l => l ++ [Derivation.bootstrap (imageCount s.store.image + 1)]) hderivs
    · exact (htrunk k).trans rfl
    · have := congrArg (fun x : State => { x with
        mode := s.mode, core := s.core, fault := s.fault, store := s.store, derivs := s.derivs, t0 := s.t0
        t1 := s.t1 }) hframe
      exact this
  · have hsafe (u : State) (h : s.selfCheckEnds ok = u.enterSafe) (hcheck : ok = false → FaultKind.coreCheck ∈ u.fault.latches)
        (hlimit : ok = true → s.settings.fromImage = true → FaultKind.bootLimit ∈ u.fault.latches) :
        ∃ t, exec (.selfCheckEnd ok) s = .next t ∧ t.mode = .safe ∧ t.QuietLaw
          ∧ (ok = false → FaultKind.coreCheck ∈ t.fault.latches)
          ∧ (ok = true → s.settings.fromImage = true → FaultKind.bootLimit ∈ t.fault.latches) := by
      obtain ⟨hm, hempty, -, -, hfault, -, -, -, -⟩ := safe_enterSafe u
      refine ⟨u.enterSafe, hexec.trans (congrArg _ h), hm, quietLaw_of_emptied hempty, ?_, ?_⟩
      · rw [hfault]
        exact hcheck
      · rw [hfault]
        exact hlimit
    cases ok
    case false =>
      exact hsafe _ (selfCheckEnds_false s) (fun _ => (mem_latches_raise ..).2 (.inr rfl)) nofun
    case true =>
      by_cases himage : s.settings.fromImage = false
      · refine hsafe { s with core := .idle } ?_ nofun fun _ h => ?_
        · rw [selfCheckEnds_true, if_pos himage]
        · rw [himage] at h
          cases h
      · have hcount : imageCount s.store.image = 65535 :=
          (hbad.resolve_left nofun).resolve_left himage
        refine hsafe (State.raise { s with core := .idle } .bootLimit) ?_ nofun fun _ _ => (mem_latches_raise ..).2 (.inr rfl)
        rw [selfCheckEnds_true, if_neg himage, if_pos hcount]

end Sys2Proof.Proofs

/-! The bytes of the settings image and the writes of the store (R41, R184, R197). -/

namespace Sys2Proof.Proofs
open Sys2Proof.Machine

/-! ### Slices and writes of byte lists -/

theorem slice_eq {x y : List Byte} {a b n : Nat} (hx : a + n ≤ x.length) (hy : b + n ≤ y.length)
    (h : ∀ j, j < n → x.getD (a + j) 0 = y.getD (b + j) 0) : (x.drop a).take n = (y.drop b).take n := by
  refine List.ext_getElem (by simp; omega) fun j h1 h2 => ?_
  have hj : j < n := by simp at h1; omega
  have hxy := h j hj
  rw [List.getD_eq_getElem _ _ (by omega), List.getD_eq_getElem _ _ (by omega)] at hxy
  simpa using hxy

theorem getD_of_slice {x y : List Byte} {a b n j : Nat} (h : (x.drop a).take n = (y.drop b).take n) (hj : j < n) :
    x.getD (a + j) 0 = y.getD (b + j) 0 := by
  have hget := congrArg (fun l : List Byte => l.getD j 0) h
  simpa [List.getD_eq_getElem?_getD, List.getElem?_take, List.getElem?_drop, hj] using hget

theorem length_putAt {l new : List Byte} {i : Nat} (h : i + new.length ≤ l.length) : (putAt l i new).length = l.length := by
  simp [putAt]
  omega

theorem getD_putAt {l new : List Byte} {i : Nat} (h : i + new.length ≤ l.length) (j : Nat) :
    (putAt l i new).getD j 0 = if i ≤ j ∧ j < i + new.length then new.getD (j - i) 0 else l.getD j 0 := by
  have hi : (l.take i).length = i := by simp; omega
  simp only [putAt, List.getD_eq_getElem?_getD]
  by_cases h1 : j < i
  · rw [if_neg (by omega), List.append_assoc, List.getElem?_append_left (by omega), List.getElem?_take, if_pos h1]
  · by_cases h2 : j < i + new.length
    · rw [if_pos ⟨by omega, h2⟩, List.append_assoc, List.getElem?_append_right (by omega), hi,
        List.getElem?_append_left (by omega)]
    · have hlen : (l.take i ++ new).length = i + new.length := by rw [List.length_append, hi]
      rw [if_neg (by omega), List.getElem?_append_right (by omega), hlen, List.getElem?_drop]
      congr 2
      omega

theorem length_keepIf {stored l : List Byte} {i n : Nat} (lock : Bool) (hl : i + n ≤ l.length) :
    (keepIf lock stored l i n).length = l.length := by
  unfold keepIf
  split
  · exact length_putAt (by simp; omega)
  · rfl

theorem getD_keepIf {stored l : List Byte} {i n : Nat} (lock : Bool) (hs : i + n ≤ stored.length) (hl : i + n ≤ l.length)
    (j : Nat) : (keepIf lock stored l i n).getD j 0
      = if lock = true ∧ i ≤ j ∧ j < i + n then stored.getD j 0 else l.getD j 0 := by
  have hlen : ((stored.drop i).take n).length = n := by simp; omega
  unfold keepIf
  cases lock
  case false => simp
  case true =>
    rw [if_pos rfl, getD_putAt (by rw [hlen]; exact hl), hlen]
    simp only [true_and]
    split
    next h =>
      have hj : j - i < n := by omega
      simp only [List.getD_eq_getElem?_getD, List.getElem?_take, List.getElem?_drop, hj, if_true]
      congr 2
      omega
    next => rfl

/-! ### The image written (R184, R197) -/

/-- The parts that the four locks keep, without tamper arming (R184, Table 10-1). -/
def lockedParts (stored l : List Byte) : List Byte :=
  keepIf (flagAt stored 45) stored (keepIf (flagAt stored 44) stored (keepIf (flagAt stored 43) stored
    (keepIf (flagAt stored 43) stored (keepIf (flagAt stored 42) stored (keepIf (flagAt stored 42) stored l 0 40) 42 1)
      46 9) 43 1) 44 1) 45 1

theorem keepLocked_eq (stored l : List Byte) : keepLocked stored l
    = if flagAt stored 45 then putAt (lockedParts stored l) 134 [1] else lockedParts stored l := rfl

theorem lockedParts_spec {stored l : List Byte} (hs : stored.length = 139) (hl : l.length = 135) :
    (lockedParts stored l).length = 135 ∧ ∀ j, (lockedParts stored l).getD j 0 =
      if (flagAt stored 45 = true ∧ j = 45) ∨ (flagAt stored 44 = true ∧ j = 44)
        ∨ (flagAt stored 43 = true ∧ (j = 43 ∨ 46 ≤ j ∧ j < 55)) ∨ (flagAt stored 42 = true ∧ (j = 42 ∨ j < 40)) then
        stored.getD j 0
      else l.getD j 0 := by
  have hkeep (lock : Bool) (m : List Byte) (i n : Nat) (hin : i + n ≤ 135) (hm : m.length = 135) :
      (keepIf lock stored m i n).length = 135 ∧ ∀ j, (keepIf lock stored m i n).getD j 0
        = if lock = true ∧ i ≤ j ∧ j < i + n then stored.getD j 0 else m.getD j 0 :=
    ⟨(length_keepIf lock (by omega)).trans hm, getD_keepIf lock (by omega) (by omega)⟩
  obtain ⟨h1, g1⟩ := hkeep (flagAt stored 42) l 0 40 (by omega) hl
  obtain ⟨h2, g2⟩ := hkeep (flagAt stored 42) _ 42 1 (by omega) h1
  obtain ⟨h3, g3⟩ := hkeep (flagAt stored 43) _ 46 9 (by omega) h2
  obtain ⟨h4, g4⟩ := hkeep (flagAt stored 43) _ 43 1 (by omega) h3
  obtain ⟨h5, g5⟩ := hkeep (flagAt stored 44) _ 44 1 (by omega) h4
  obtain ⟨h6, g6⟩ := hkeep (flagAt stored 45) _ 45 1 (by omega) h5
  refine ⟨h6, fun j => ?_⟩
  rw [lockedParts, g6, g5, g4, g3, g2, g1]
  simp only [← ite_or]
  have h45 : 45 ≤ j ∧ j < 45 + 1 ↔ j = 45 := by omega
  have h44 : 44 ≤ j ∧ j < 44 + 1 ↔ j = 44 := by omega
  have h43 : 43 ≤ j ∧ j < 43 + 1 ↔ j = 43 := by omega
  have h46 : 46 ≤ j ∧ j < 46 + 9 ↔ 46 ≤ j ∧ j < 55 := by omega
  have h42 : 42 ≤ j ∧ j < 42 + 1 ↔ j = 42 := by omega
  have h0 : 0 ≤ j ∧ j < 0 + 40 ↔ j < 40 := by omega
  refine if_congr ?_ rfl rfl
  rw [h45, h44, h43, h46, h42, h0, and_or_left, and_or_left]
  simp only [or_assoc]

theorem length_keepLocked {stored l : List Byte} (hs : stored.length = 139) (hl : l.length = 135) :
    (keepLocked stored l).length = 135 := by
  obtain ⟨hlen, -⟩ := lockedParts_spec hs hl
  rw [keepLocked_eq]
  split
  · exact (length_putAt (by rw [hlen]; decide)).trans hlen
  · exact hlen

/-- Which byte of the image each lock keeps; TAMPER_LOCK keeps tamper arming on (R184, Table 10-1). -/
theorem getD_keepLocked {stored l : List Byte} (hs : stored.length = 139) (hl : l.length = 135) (j : Nat) :
    (keepLocked stored l).getD j 0 =
      if flagAt stored 45 = true ∧ j = 134 then 1
      else if (flagAt stored 45 = true ∧ j = 45) ∨ (flagAt stored 44 = true ∧ j = 44)
        ∨ (flagAt stored 43 = true ∧ (j = 43 ∨ 46 ≤ j ∧ j < 55)) ∨ (flagAt stored 42 = true ∧ (j = 42 ∨ j < 40)) then
        stored.getD j 0
      else l.getD j 0 := by
  obtain ⟨hlen, hget⟩ := lockedParts_spec hs hl
  rw [keepLocked_eq, ← hget]
  by_cases hlock : flagAt stored 45 = true
  · rw [if_pos hlock, getD_putAt (by rw [hlen]; decide)]
    by_cases hj : j = 134
    · rw [if_pos ⟨by omega, by rw [hj]; decide⟩, if_pos ⟨hlock, hj⟩, hj]
      rfl
    · rw [if_neg (by simp only [List.length_singleton]; omega), if_neg fun h => hj h.2]
  · rw [if_neg hlock, if_neg fun h => hlock h.1]

/-- An image sealed with its CRC-32 (R197). -/
theorem sealImage_spec {l : List Byte} (h : 135 ≤ l.length) : (sealImage l).length = 139
    ∧ (sealImage l).take 135 = l.take 135 ∧ (∀ j, j < 135 → (sealImage l).getD j 0 = l.getD j 0)
    ∧ numAt (sealImage l) 135 4 = (crc32 ((sealImage l).take 135)).toNat := by
  have htake : (l.take 135).length = 135 := by simp [h]
  have hcrc : (b4 (imageCrc l)).length = 4 := length_beBytes 4 _
  have hfirst : (sealImage l).take 135 = l.take 135 := by
    rw [sealImage, List.take_append_of_le_length (by omega), List.take_of_length_le (by omega)]
  refine ⟨by rw [sealImage, List.length_append, htake, hcrc], hfirst, fun j hj => ?_, ?_⟩
  · simp only [sealImage, List.getD_eq_getElem?_getD]
    rw [List.getElem?_append_left (by omega), List.getElem?_take, if_pos hj]
  · have hlt : imageCrc l < 256 ^ 4 := (crc32 (l.take 135)).isLt
    rw [hfirst, numAt_field (pre := l.take 135) (x := b4 (imageCrc l)) (post := []) (by simp [sealImage]) htake hcrc, b4,
      ofBytes_beBytes, Nat.mod_eq_of_lt hlt]
    rfl

theorem length_carriedImage {l : List Byte} (h : l.length = 133) (n : Nat) : (carriedImage l n).length = 135 := by
  have hb : (b2 n).length = 2 := length_beBytes 2 n
  simp [carriedImage, hb, h]

theorem getD_carriedImage {l : List Byte} (h : l.length = 133) (n : Nat) (j : Nat) : (carriedImage l n).getD j 0 =
    if j < 40 then l.getD j 0 else if j < 42 then (b2 n).getD (j - 40) 0 else l.getD (j - 2) 0 := by
  have hb : (b2 n).length = 2 := length_beBytes 2 n
  have ht : (l.take 40).length = 40 := by simp [h]
  simp only [carriedImage, List.getD_eq_getElem?_getD]
  by_cases h1 : j < 40
  · rw [if_pos h1, List.append_assoc, List.getElem?_append_left (by omega), List.getElem?_take, if_pos h1]
  · by_cases h2 : j < 42
    · rw [if_neg h1, if_pos h2, List.append_assoc, List.getElem?_append_right (by omega), ht,
        List.getElem?_append_left (by omega)]
    · have hlen : (l.take 40 ++ b2 n).length = 42 := by rw [List.length_append, ht, hb]
      rw [if_neg h1, if_neg h2, List.getElem?_append_right (by omega), hlen, List.getElem?_drop]
      congr 2
      omega

/-- The count that a stored image holds, as its two bytes. -/
theorem b2_imageCount {l : List Byte} (h : 42 ≤ l.length) : b2 (imageCount l) = (l.drop 40).take 2 := by
  have hlen : ((l.drop 40).take 2).length = 2 := by simp; omega
  have hback := beBytes_ofBytes ((l.drop 40).take 2)
  rw [hlen] at hback
  exact hback

theorem withCount_spec {l : List Byte} (h : l.length = 139) {n : Nat} (hn : n ≤ 65535) :
    (withCount l n).length = 139 ∧ (withCount l n).take 40 = l.take 40 ∧ numAt (withCount l n) 40 2 = n
    ∧ ((withCount l n).drop 42).take 93 = (l.drop 42).take 93
    ∧ numAt (withCount l n) 135 4 = (crc32 ((withCount l n).take 135)).toNat := by
  have hb : (b2 n).length = 2 := length_beBytes 2 n
  have hput : (putAt l 40 (b2 n)).length = 139 := (length_putAt (by rw [hb]; omega)).trans h
  obtain ⟨hlen, -, hget, hcrc⟩ := sealImage_spec (l := putAt l 40 (b2 n)) (by omega)
  have hbyte (j : Nat) (hj : j < 135) : (withCount l n).getD j 0
      = if 40 ≤ j ∧ j < 42 then (b2 n).getD (j - 40) 0 else l.getD j 0 := by
    rw [withCount, hget j hj, getD_putAt (by rw [hb]; omega), hb]
  refine ⟨hlen, ?_, ?_, ?_, hcrc⟩
  · have := slice_eq (x := withCount l n) (y := l) (a := 0) (b := 0) (n := 40) (by rw [withCount, hlen]; omega) (by omega)
      fun j hj => by rw [Nat.zero_add, hbyte j (by omega), if_neg (by omega)]
    simpa using this
  · have hslice : ((withCount l n).drop 40).take 2 = b2 n := by
      have := slice_eq (x := withCount l n) (y := b2 n) (a := 40) (b := 0) (n := 2) (by rw [withCount, hlen]; omega)
        (by omega) fun j hj => by
          rw [hbyte (40 + j) (by omega), if_pos (by omega), Nat.zero_add, Nat.add_sub_cancel_left]
      rw [this, List.drop_zero, List.take_of_length_le (by omega)]
    rw [numAt, hslice, b2, ofBytes_beBytes]
    exact Nat.mod_eq_of_lt (by omega)
  · exact slice_eq (by rw [withCount, hlen]; omega) (by omega) fun j hj => by
      rw [hbyte (42 + j) (by omega), if_neg (by omega)]

/-- The first forty bytes of the image written, store identity and root key: kept together under ROOT_LOCK. -/
theorem keepLocked_root {stored l : List Byte} (hs : stored.length = 139) (hl : l.length = 133) (count a n : Nat)
    (h : a + n ≤ 40) : ((keepLocked stored (carriedImage l count)).drop a).take n
      = if flagAt stored 42 = true then (stored.drop a).take n else (l.drop a).take n := by
  have hc := length_carriedImage hl count
  have hlen := length_keepLocked hs hc
  split
  next hroot =>
    refine slice_eq (by omega) (by omega) fun j hj => ?_
    rw [getD_keepLocked hs hc, if_neg (by omega), if_pos (.inr (.inr (.inr ⟨hroot, by omega⟩)))]
  next hroot =>
    refine slice_eq (by omega) (by omega) fun j hj => ?_
    rw [getD_keepLocked hs hc, if_neg (by omega), if_neg ?_, getD_carriedImage hl, if_pos (by omega)]
    rintro (⟨-, h⟩ | ⟨-, h⟩ | ⟨-, h⟩ | ⟨h, -⟩)
    · omega
    · omega
    · omega
    · exact hroot h

theorem newImage_of_bad {st : Store} (hcheck : st.check ≠ 0) {l : List Byte} (hl : l.length = 133) :
    st.kept = [] ∧ (st.newImage l).length = 139
    ∧ numAt (st.newImage l) 135 4 = (crc32 ((st.newImage l).take 135)).toNat
    ∧ (st.newImage l).take 135 = l.take 40 ++ [0, 0] ++ l.drop 40 := by
  have hc := length_carriedImage hl 0
  obtain ⟨hlen, htake, -, hcrc⟩ := sealImage_spec (l := carriedImage l 0) (by omega)
  have hnew : st.newImage l = sealImage (carriedImage l 0) := by rw [Store.newImage, if_neg hcheck]
  refine ⟨if_neg hcheck, by rw [hnew, hlen], by rw [hnew, hcrc], ?_⟩
  rw [hnew, htake, List.take_of_length_le (by omega)]
  rfl

/-- The image that is sealed when the stored one passes its check: with the stored count, or 0 for a new root key. -/
def unsealed (stored l : List Byte) : List Byte :=
  let kept := keepLocked stored (carriedImage l (imageCount stored))
  if (kept.drop 8).take 32 = (stored.drop 8).take 32 then kept else putAt kept 40 (b2 0)

theorem unsealed_spec {stored l : List Byte} (hs : stored.length = 139) (hl : l.length = 133) :
    (unsealed stored l).length = 135
    ∧ (∀ j, j < 40 ∨ 42 ≤ j → (unsealed stored l).getD j 0
      = (keepLocked stored (carriedImage l (imageCount stored))).getD j 0)
    ∧ ((unsealed stored l).drop 40).take 2 = if flagAt stored 42 = true ∨ (l.drop 8).take 32 = (stored.drop 8).take 32 then
        (stored.drop 40).take 2 else [0, 0] := by
  have hc := length_carriedImage hl (imageCount stored)
  have hlen := length_keepLocked hs hc
  have hroot := keepLocked_root hs hl (imageCount stored) 8 32 (by omega)
  have hcond : ((keepLocked stored (carriedImage l (imageCount stored))).drop 8).take 32 = (stored.drop 8).take 32
      ↔ flagAt stored 42 = true ∨ (l.drop 8).take 32 = (stored.drop 8).take 32 := by
    rw [hroot]
    by_cases h : flagAt stored 42 = true
    · simp [h]
    · simp [h]
  have hput : (putAt (keepLocked stored (carriedImage l (imageCount stored))) 40 (b2 0)).length = 135 :=
    (length_putAt (by rw [hlen]; decide)).trans hlen
  unfold unsealed
  dsimp only
  by_cases h : flagAt stored 42 = true ∨ (l.drop 8).take 32 = (stored.drop 8).take 32
  · rw [if_pos (hcond.2 h), if_pos h]
    refine ⟨hlen, fun _ _ => rfl, ?_⟩
    rw [← b2_imageCount (l := stored) (by omega)]
    have hb : (b2 (imageCount stored)).length = 2 := length_beBytes 2 _
    have hslice := slice_eq (x := keepLocked stored (carriedImage l (imageCount stored))) (y := b2 (imageCount stored))
      (a := 40) (b := 0) (n := 2) (by omega) (by omega) fun j hj => by
        rw [getD_keepLocked hs hc, if_neg (by omega), if_neg (by omega), getD_carriedImage hl, if_neg (by omega),
          if_pos (by omega), Nat.zero_add, Nat.add_sub_cancel_left]
    rw [hslice, List.drop_zero, List.take_of_length_le (by omega)]
  · rw [if_neg fun x => h (hcond.1 x), if_neg h]
    have hget := getD_putAt (l := keepLocked stored (carriedImage l (imageCount stored))) (new := b2 0) (i := 40)
      (by rw [hlen]; decide)
    refine ⟨hput, fun j hj => ?_, ?_⟩
    · have hb : (b2 0).length = 2 := length_beBytes 2 0
      rw [hget, if_neg (by omega)]
    · have hslice := slice_eq (x := putAt (keepLocked stored (carriedImage l (imageCount stored))) 40 (b2 0)) (y := b2 0)
        (a := 40) (b := 0) (n := 2) (by omega) (by decide) fun j hj => by
          have hb : (b2 0).length = 2 := length_beBytes 2 0
          rw [hget, if_pos (by omega), Nat.zero_add, Nat.add_sub_cancel_left]
      rw [hslice]
      decide

/-- The image that is written over a stored one that passes its check (R184, Table 10-1). -/
theorem newImage_of_good {st : Store} (hcheck : st.check = 0) (hs : st.image.length = 139) {l : List Byte}
    (hl : l.length = 133) : (st.newImage l).length = 139
    ∧ numAt (st.newImage l) 135 4 = (crc32 ((st.newImage l).take 135)).toNat
    ∧ (∀ j, j < 40 ∨ (42 ≤ j ∧ j < 135) → (st.newImage l).getD j 0 =
      if flagAt st.image 45 = true ∧ j = 134 then 1
      else if (flagAt st.image 45 = true ∧ j = 45) ∨ (flagAt st.image 44 = true ∧ j = 44)
        ∨ (flagAt st.image 43 = true ∧ (j = 43 ∨ 46 ≤ j ∧ j < 55)) ∨ (flagAt st.image 42 = true ∧ (j = 42 ∨ j < 40)) then
        st.image.getD j 0
      else l.getD (if j < 40 then j else j - 2) 0)
    ∧ ((st.newImage l).drop 40).take 2 = if flagAt st.image 42 = true ∨ (l.drop 8).take 32 = (st.image.drop 8).take 32
        then (st.image.drop 40).take 2 else [0, 0] := by
  obtain ⟨hlen, hget, hcount⟩ := unsealed_spec hs hl
  obtain ⟨hslen, -, hsget, hcrc⟩ := sealImage_spec (l := unsealed st.image l) (by omega)
  have hnew : st.newImage l = sealImage (unsealed st.image l) := by rw [Store.newImage, if_pos hcheck]; rfl
  rw [hnew]
  refine ⟨hslen, hcrc, fun j hj => ?_, ?_⟩
  · rw [hsget j (by omega), hget j (by omega), getD_keepLocked hs (length_carriedImage hl _), getD_carriedImage hl]
    split
    · rfl
    · split
      · rfl
      · split
        · rfl
        · rw [if_neg (by omega)]
  · rw [← hcount]
    exact slice_eq (by omega) (by omega) fun j hj => hsget (40 + j) (by omega)

end Sys2Proof.Proofs

/-! WRITE_SETTINGS and the ends of the two writes (R41, R184). -/

namespace Sys2Proof.Proofs
open Sys2Proof.Machine

/-- A bootstrap that waited for a write begins at its end (R41, R184). -/
theorem afterWrite_of_waits {u : State} (hb : u.store.bootWaits = true) (hr : u.store.restartWaits = false)
    (hmode : u.mode = .running) : u.afterWrite = u.beginBootstrap :=
  if_pos ⟨hb, by rw [hr]; exact ⟨nofun, hmode⟩⟩

theorem afterWrite_of_not {u : State}
    (h : ¬ (u.store.bootWaits = true ∧ u.store.restartWaits = false ∧ u.mode = .running)) : u.afterWrite = u :=
  if_neg fun x => h ⟨x.1, eq_false_of_ne_true x.2.1, x.2.2⟩

/-- BOOT_LIMIT at the end of a write: SAFE, with nothing left at the ports (R41, R189). -/
theorem afterWrite_of_limit {u : State} (hb : u.store.bootWaits = true) (hr : u.store.restartWaits = false)
    (hmode : u.mode = .running) (hwrite : u.store.write = none) (hcount : 65535 ≤ imageCount u.store.image) :
    u.afterWrite.mode = .safe ∧ FaultKind.bootLimit ∈ u.afterWrite.fault.latches ∧ u.afterWrite.QuietLaw
    ∧ u.afterWrite.store = { u.store with bootWaits := false }
    ∧ ∀ pt, (u.afterWrite.port pt).completions = [] ∧ (u.afterWrite.port pt).outstanding = 0 := by
  rw [afterWrite_of_waits hb hr hmode, beginBootstrap_of_limit hwrite hcount]
  obtain ⟨hsafe, hlatch, hstore⟩ := safe_of_bootLimit u
  exact ⟨hsafe.mode, hlatch, quietLaw_of_emptied hsafe.emptied, hstore, fun pt => by rw [hsafe.port]; exact ⟨rfl, rfl⟩⟩

theorem complete_eq (s : State) (c : Completion) (marked : Bool) : s.complete .m c true marked = s.modPort .m fun r =>
    if marked then { r with outstanding := r.outstanding - 1, marks := r.marks - 1 }
    else { r with
      outstanding := r.outstanding - 1
      completions := r.completions ++ [c]
      latches := { r.latches with completion := true } } := by cases marked <;> rfl

/-- The begin of a settings write (R184). -/
theorem exec_writeSettings {s : State} {tag : Byte} {l : List Byte} (ht : s.Takes .m) (hl : l.length = 133)
    (hmode : s.mode ≠ .lockdown) (hwrite : s.store.write = none) :
    exec (.writeSettings .m tag l) s = .next (State.modPort { s with store := { s.store with
      write := some (.settings (s.store.newImage l) s.store.kept (imageCheck (s.store.newImage l)) tag false) } } .m
      fun r => { r with outstanding := r.outstanding + 1, reply := [0] }) := by
  have hcheck : s.writeCheck .m = none := by
    simp only [State.writeCheck, hmode, hwrite, Option.isSome_none, ne_eq, not_true_eq_false, if_false, Bool.false_eq_true]
  refine (exec_eq_command rfl s).trans (congrArg _ ((command_of_takes ht _).trans ?_))
  have hdecides : decision (.writeSettings .m tag l) s = s.writeSettings .m tag l := rfl
  rw [hdecides]
  simp only [State.writeSettings, hl, hcheck, ne_eq, not_true_eq_false, if_false]
  rfl

/-- Settles O39. -/
theorem writesOfTheSettingsStore : Obligations.WritesOfTheSettingsStore := by
  refine ⟨fun s tag l ht hl hmode himage => ⟨fun hbusy => ?_, fun hwrite => ?_⟩, ?_, ?_⟩
  · have hcheck : s.writeCheck .m = some .busy := by
      simp only [State.writeCheck, hmode, hbusy, ne_eq, not_true_eq_false, if_false, if_true]
    refine exec_of_refuse rfl ht ?_
    have hdecides : decision (.writeSettings .m tag l) s = s.writeSettings .m tag l := rfl
    rw [hdecides]
    simp only [State.writeSettings, hl, hcheck, ne_eq, not_true_eq_false, if_false]
  · refine ⟨s.store.newImage l, s.store.kept, exec_writeSettings ht hl hmode hwrite, ?_⟩
    by_cases hcheck : s.store.check = 0
    · obtain ⟨hlen, hcrc, hget, hcount⟩ := newImage_of_good hcheck himage hl
      refine ⟨hlen, hcrc, fun h => absurd hcheck h, fun _ => ?_⟩
      intro old root views payment tamper
      generalize s.store.newImage l = new at *
      have hold : old.length = 139 := himage
      refine ⟨if_pos hcheck, ?_, hcount, ?_, ?_, ?_, ?_, ?_, ?_, ?_⟩
      · by_cases hroot : root = true
        · have hslice := slice_eq (x := new) (y := old) (a := 0) (b := 0) (n := 40) (by omega) (by omega) fun j hj => by
            rw [Nat.zero_add, hget j (by omega), if_neg (by omega), if_pos (.inr (.inr (.inr ⟨hroot, by omega⟩)))]
          simpa [hroot] using hslice
        · have hslice := slice_eq (x := new) (y := l) (a := 0) (b := 0) (n := 40) (by omega) (by omega) fun j hj => by
            rw [Nat.zero_add, hget j (by omega), if_neg (by omega), if_neg ?_, if_pos hj]
            rintro (⟨-, h⟩ | ⟨-, h⟩ | ⟨-, h⟩ | ⟨h, -⟩)
            · omega
            · omega
            · omega
            · exact hroot h
          simpa [hroot] using hslice
      · simpa using hget 42 (by omega)
      · simpa using hget 43 (by omega)
      · simpa using hget 44 (by omega)
      · simpa using hget 45 (by omega)
      · by_cases hviews : views = true
        · rw [if_pos hviews]
          refine slice_eq (by omega) (by omega) fun j hj => ?_
          rw [hget (46 + j) (by omega), if_neg (by omega), if_pos (.inr (.inr (.inl ⟨hviews, by omega⟩)))]
        · rw [if_neg hviews]
          refine slice_eq (by omega) (by omega) fun j hj => ?_
          have hplace : 46 + j - 2 = 44 + j := by omega
          rw [hget (46 + j) (by omega), if_neg (by omega), if_neg ?_, if_neg (by omega), hplace]
          rintro (⟨-, h⟩ | ⟨-, h⟩ | ⟨h, -⟩ | ⟨-, h⟩)
          · omega
          · omega
          · exact hviews h
          · omega
      · refine slice_eq (by omega) (by omega) fun j hj => ?_
        have hplace : 55 + j - 2 = 53 + j := by omega
        rw [hget (55 + j) (by omega), if_neg (by omega), if_neg (by omega), if_neg (by omega), hplace]
      · simpa using hget 134 (by omega)
    · obtain ⟨hkept, hlen, hcrc, htake⟩ := newImage_of_bad hcheck hl
      exact ⟨hlen, hcrc, fun _ => ⟨hkept, htake⟩, fun h => absurd h hcheck⟩
  · intro s image kept result tag marked hwrite
    generalize hu : State.modPort { s with store := { s.store with image := image, spoiled := false, write := none } } .m
      (fun r => if marked then { r with outstanding := r.outstanding - 1, marks := r.marks - 1 }
        else { r with
          outstanding := r.outstanding - 1
          completions := r.completions ++ [⟨tag, 0x1A, .done, b1 kept.length ++ kept.flatMap b1 ++ b1 result⟩]
          latches := { r.latches with completion := true } }) = u
    have hexec : exec .settingsWriteEnd s = .next u.afterWrite := by
      have hrow : exec .settingsWriteEnd s = execSettingsWriteEnd s := rfl
      rw [hrow]
      simp only [execSettingsWriteEnd, hwrite, State.settingsWritten, complete_eq, hu]
    have hstore : u.store = { s.store with image := image, spoiled := false, write := none } := by rw [← hu]; rfl
    have hmode : u.mode = s.mode := by rw [← hu]; rfl
    refine ⟨fun hno => ?_, fun ⟨hb, hr, hm⟩ hcount => ?_, fun ⟨hb, hr, hm⟩ hcount => ⟨u.afterWrite, hexec, ?_⟩⟩
    · rw [hexec, afterWrite_of_not (by rw [hstore, hmode]; exact hno)]
    · rw [hexec, afterWrite_of_waits (by rw [hstore]; exact hb) (by rw [hstore]; exact hr) (hmode.trans hm),
        beginBootstrap_of_count (by rw [hstore]) (by rw [hstore]; exact hcount), hstore]
      rfl
    · exact afterWrite_of_limit (by rw [hstore]; exact hb) (by rw [hstore]; exact hr) (hmode.trans hm) (by rw [hstore])
        (by rw [hstore]; exact hcount)
  · intro s n hwrite himage hn
    obtain ⟨hlen, htake, hcount, hrest, hcrc⟩ := withCount_spec himage hn
    generalize hu : ({ s with store := { s.store with image := withCount s.store.image n, write := none } } : State) = u
    have hexec : exec .countWriteEnd s = .next u.afterWrite := by
      have hrow : exec .countWriteEnd s = execCountWriteEnd s := rfl
      rw [hrow]
      simp only [execCountWriteEnd, hwrite, hu]
    have hstore : u.store = { s.store with image := withCount s.store.image n, write := none } := by rw [← hu]
    have hmode : u.mode = s.mode := by rw [← hu]
    have himg : imageCount u.store.image = n := by rw [hstore]; exact hcount
    refine ⟨withCount s.store.image n, ?_, hlen, htake, hcount, hrest, hcrc⟩
    rw [hu]
    refine ⟨fun hno => ?_, fun ⟨hb, hr, hm⟩ hlt => ?_, fun ⟨hb, hr, hm⟩ hle => ⟨u.afterWrite, hexec, ?_⟩⟩
    · rw [hexec, afterWrite_of_not (by rw [hstore, hmode]; exact hno)]
    · rw [hexec, afterWrite_of_waits (by rw [hstore]; exact hb) (by rw [hstore]; exact hr) (hmode.trans hm),
        beginBootstrap_of_count (by rw [hstore]) (by rw [himg]; exact hlt), himg]
    · exact afterWrite_of_limit (by rw [hstore]; exact hb) (by rw [hstore]; exact hr) (hmode.trans hm) (by rw [hstore])
        (by rw [himg]; exact hle)

end Sys2Proof.Proofs

/-! Start-up (R182, R183, R186, R187): every block fresh, or LOCKDOWN where the tamper input is high. -/

namespace Sys2Proof.Proofs
open Sys2Proof.Machine

/-- The part that a start-up leaves, whatever the fault unit holds (R186 steps 1 and 2). -/
theorem startedFrom_blank (s : State) (restart : Bool) (u : FaultUnit) (b : Bool) (hrep : u.report = none)
    (hdead : u.deadline = none) {t : State}
    (ht : t = { s.blank restart (s.store.started restart).load with
      fault := u
      portM := { (PortRec.fresh s.portM.inReset) with
        latches := { (PortRec.fresh s.portM.inReset).latches with fault := b } } }) :
    s.StartedFrom t (s.store.started restart) := by
  subst ht
  have hslot (i : SlotId) : (Vector.replicate 48 Slot.wiped)[i.val] = .wiped := Vector.getElem_replicate ..
  have hchan (c : ChanId) : (s.store.started restart).load.channels[c.val]
      = .fresh ((s.store.started restart).load.ownerOf c.val).1 ((s.store.started restart).load.ownerOf c.val).2
        ((s.store.started restart).load.classLimits ((s.store.started restart).load.ownerOf c.val).2) :=
    Vector.getElem_ofFn ..
  have hline (i : Fin 8) : (s.startLines (s.store.started restart).load)[i.val]
      = if i = 2 then { Line.fresh i.val (s.line i).ext with fn := (s.store.started restart).load.armed }
        else Line.fresh i.val (s.line i).ext := Vector.getElem_ofFn ..
  refine ⟨rfl, rfl, rfl, rfl, rfl, rfl, hslot, hchan, fun o => by cases o <;> rfl, rfl, rfl, rfl, rfl, rfl, rfl, rfl, rfl,
    rfl, rfl, hrep, hdead, fun pt => ?_, fun i => ?_, rfl, rfl⟩
  · cases pt <;> exact ⟨rfl, rfl, rfl, rfl, rfl, rfl, rfl, rfl, rfl, rfl⟩
  · have hi : State.line { s.blank restart (s.store.started restart).load with
        fault := u
        portM := { (PortRec.fresh s.portM.inReset) with
          latches := { (PortRec.fresh s.portM.inReset).latches with fault := b } } } i
        = if i = 2 then { Line.fresh i.val (s.line i).ext with fn := (s.store.started restart).load.armed }
          else Line.fresh i.val (s.line i).ext := hline i
    rw [hi]
    split
    next h => exact ⟨rfl, rfl, rfl, rfl⟩
    next h =>
      refine ⟨rfl, rfl, rfl, ?_⟩
      simp only [Line.fresh, bne_eq_decide_ne]
      exact decide_eq_decide.2 (by simp [Fin.ext_iff])

/-- Channel 0 is CLOSED in the part as it starts up. -/
theorem blank_dead (s : State) (restart : Bool) (t : Settings) : ((s.blank restart t).chan 0).state ≠ .live := by
  have hchan : (s.blank restart t).chan 0 = .fresh (t.ownerOf 0).1 (t.ownerOf 0).2 (t.classLimits (t.ownerOf 0).2) :=
    Vector.getElem_ofFn (f := fun i : Fin 32 => Chan.fresh (t.ownerOf i.val).1 (t.ownerOf i.val).2
      (t.classLimits (t.ownerOf i.val).2)) (by decide)
  rw [hchan]
  nofun

/-- A fault unit with room after a raise without a report: nothing dropped or lost, other kinds' records kept. -/
structure RaisedIn (u v : FaultUnit) (k : FaultKind) : Prop where
  latches : v.latches = (u.latched k).latches
  mask : v.mask = u.mask
  report : v.report = u.report
  deadline : v.deadline = u.deadline
  room : u.queue.length ≤ 31 → v.dropped = u.dropped ∧ v.lost = u.lost ∧ v.queue.length ≤ u.queue.length + 1
    ∧ ∀ r ∈ u.queue, r.kind ≠ k → r ∈ v.queue

theorem raisedIn {s : State} (hdead : (s.chan 0).state ≠ .live) (k : FaultKind) : ∃ v b, s.raise k
      = { s with fault := v, portM := { s.portM with latches := { s.portM.latches with fault := b } } }
    ∧ RaisedIn s.fault v k := by
  by_cases hm : k ∈ s.fault.mask
  · exact ⟨{ s.fault with latches := (s.fault.latched k).latches }, s.portM.latches.fault, raise_of_masked hm .., rfl, rfl,
      rfl, rfl, fun _ => ⟨rfl, rfl, Nat.le_succ _, fun _ h _ => h⟩⟩
  by_cases hold : ∃ r ∈ s.fault.queue, r.taken = false ∧ r.kind = k ∧ r.chan = none ∧ r.trunk = none
  · refine ⟨_, s.portM.latches.fault, raise_of_coalesces hm hold .., rfl, rfl, rfl, rfl, fun _ => ⟨rfl, rfl, ?_, ?_⟩⟩
    · exact Nat.le_succ_of_le (Nat.le_of_eq (List.length_map _))
    · intro r hr hk
      have hno : ¬ r.coalesces k none none = true := fun h => hk ((coalesces_iff r k none none).1 h).2.1
      exact List.mem_map.2 ⟨r, hr, if_neg hno⟩
  · rw [raise_of_new hm fun r hr hx => hold ⟨r, hr, hx⟩]
    generalize hr : FaultRec.made k none none none s.uptime = r
    generalize hw : ({ s with fault := { s.fault with latches := (s.fault.latched k).latches } } : State) = w
    have hqueue : w.fault.queue = s.fault.queue := by rw [← hw]
    have hdead' (u : FaultUnit) : ((queued w u r).chan 0).state ≠ .live := by rw [← hw]; exact hdead
    cases h : (if w.fault.queue.length < 32 then some w.fault else w.fault.makeRoom r.kind.severity) with
    | none =>
      rw [appendRecord_of_none h, ← hw]
      refine ⟨_, s.portM.latches.fault, rfl, rfl, rfl, rfl, rfl, fun hlen => ?_⟩
      rw [if_pos (by rw [hqueue]; omega)] at h
      cases h
    | some u =>
      have hu : u = { w.fault with queue := u.queue, lost := u.lost } := by
        split at h
        · cases h; rfl
        · exact makeRoom_eq h
      rw [appendRecord_of_room h, reportTest_of_dead (hdead' _), ite_self]
      refine ⟨{ u with queue := u.queue ++ [r] }, true, by rw [← hw]; rfl, ?_, ?_, ?_, ?_, fun hlen => ?_⟩
      · rw [hu, ← hw]
      · rw [hu, ← hw]
      · rw [hu, ← hw]
      · rw [hu, ← hw]
      · rw [if_pos (by rw [hqueue]; omega)] at h
        cases h
        rw [← hw]
        exact ⟨rfl, rfl, Nat.le_of_eq List.length_append, fun x hx _ => List.mem_append_left _ hx⟩

theorem latched_congr {u v : FaultUnit} (h : u.latches = v.latches) (k : FaultKind) :
    (u.latched k).latches = (v.latched k).latches := by
  unfold FaultUnit.latched
  by_cases hk : v.latches.contains k = true
  · rw [if_pos hk, if_pos (by rw [h]; exact hk), h]
  · rw [if_neg hk, if_neg (by rw [h]; exact hk)]
    exact congrArg (· ++ [k]) h

/-! ### LOCKDOWN at start-up (R180, R189) -/

theorem fault_tampered (s : State) : (tampered s).fault = s.fault.abandon := by
  have hrefused := congrArg State.fault (refused_foldl s.allFrames s).frame
  have hfault := (quiesced (s.allFrames.foldl State.refuseFrame s)).fault
  have hsame : (s.allFrames.foldl State.refuseFrame s).fault = s.fault := hrefused
  rw [hsame] at hfault
  exact hfault

/-- A tamper at start-up, before the image is read (R180). -/
structure Locked (s t : State) : Prop where
  mode : t.mode = .lockdown
  quiet : t.QuietLaw
  latches : t.fault.latches = (s.fault.latched .tamper).latches
  store : t.store = { s.store with bootWaits := false, restartWaits := false }
  uptime : t.uptime = s.uptime
  settings : t.settings = s.settings
  trunks : ∀ k, (t.trunk k).state = .off
  fn : (t.line 2).fn = (s.line 2).fn

theorem locked_tamperNow {s : State} (h : s.mode ≠ .lockdown) : Locked s s.tamperNow := by
  obtain ⟨hchan, -, hstore, hlines⟩ := tampered_spec s
  obtain ⟨hmode, huptime, hsettings, -⟩ := tampered_frame s
  have hemptied := emptied_tampered s
  have hfault := fault_tampered s
  rw [tamperNow_eq, if_neg h]
  generalize tampered s = t at *
  have hdead : (t.chan 0).state ≠ .live := by rw [hchan]; nofun
  obtain ⟨v, b, hraise, hraised⟩ := raisedIn hdead .tamper
  rw [hraise]
  refine ⟨hmode, fun hm => ?_, ?_, hstore, huptime, hsettings, fun k => ?_, ?_⟩
  · have hquiet := quietLaw_of_emptied hemptied (show t.mode = .safe ∨ t.mode = .lockdown from hm)
    exact hquiet
  · refine hraised.latches.trans ?_
    rw [hfault]
    exact latched_congr (latches_abandon s.fault) .tamper
  · obtain ⟨hoff, -⟩ := hemptied.trunks k
    cases k <;> exact hoff
  · have := congrArg (fun l : Vector Line 8 => l[2].fn) hlines
    have hkept := congrArg Line.fn (line_linesIn (l := s.lines) 2)
    exact Eq.trans this hkept

/-! ### Start-up -/

/-- RESTARTED after a RESTART, and nothing more (R186 step 1). -/
theorem begun_cases (s : State) (t : Settings) : s.begun false t = s.blank false t
    ∧ s.begun true t = (s.blank true t).raise .restarted := ⟨rfl, rfl⟩

theorem startUp_of_low {s : State} (h : (s.line 2).ext = false) (restart : Bool) : s.startUp restart =
    if (s.store.started restart).load.fromImage then s.begun restart (s.store.started restart).load
    else (s.begun restart (s.store.started restart).load).raise .settingsBad := by
  rw [State.startUp, h]
  rfl

theorem startUp_of_high {s : State} (h : (s.line 2).ext ≠ false) (restart : Bool) :
    s.startUp restart = (s.begun restart .delivered).tamperNow := by
  rw [State.startUp, eq_true_of_ne_false h]
  rfl

/-- What a start-up leaves in the fault unit when it began with `u` (R150, R167, R186). -/
structure FaultsAfter (u v : FaultUnit) (kinds : List FaultKind) : Prop where
  latches : ∀ k, k ∈ v.latches ↔ k ∈ u.latches ∨ k ∈ kinds
  mask : v.mask = u.mask
  report : v.report = u.report
  deadline : v.deadline = u.deadline
  room : u.queue.length + kinds.length ≤ 32 → v.dropped = u.dropped ∧ v.lost = u.lost
    ∧ v.queue.length ≤ u.queue.length + kinds.length ∧ ∀ r ∈ u.queue, r.kind ∉ kinds → r ∈ v.queue

theorem FaultsAfter.refl (u : FaultUnit) : FaultsAfter u u [] :=
  ⟨fun k => by simp, rfl, rfl, rfl, fun _ => ⟨rfl, rfl, Nat.le_refl _, fun _ h _ => h⟩⟩

theorem FaultsAfter.raised {u v w : FaultUnit} {l : List FaultKind} {k : FaultKind} (h : FaultsAfter u v l)
    (r : RaisedIn v w k) : FaultsAfter u w (k :: l) where
  latches j := by
    rw [r.latches, mem_latched, h.latches, List.mem_cons, or_assoc]
    exact or_congr_right or_comm
  mask := r.mask.trans h.mask
  report := r.report.trans h.report
  deadline := r.deadline.trans h.deadline
  room hlen := by
    rw [List.length_cons] at hlen
    obtain ⟨hd, hl, hq, hkept⟩ := h.room (by omega)
    obtain ⟨hd', hl', hq', hkept'⟩ := r.room (by omega)
    rw [List.length_cons]
    refine ⟨hd'.trans hd, hl'.trans hl, by omega, fun x hx hk => ?_⟩
    rw [List.mem_cons, not_or] at hk
    exact hkept' x (hkept x hx hk.2) hk.1

/-- The part that a start-up leaves with the tamper input low: blank but for the raises of the fault unit. -/
theorem startUp_low {s : State} (h : (s.line 2).ext = false) (restart : Bool) : ∃ v b,
    s.startUp restart = { s.blank restart (s.store.started restart).load with
      fault := v
      portM := { (PortRec.fresh s.portM.inReset) with
        latches := { (PortRec.fresh s.portM.inReset).latches with fault := b } } }
    ∧ FaultsAfter (s.blank restart (s.store.started restart).load).fault v
      ((if (s.store.started restart).load.fromImage then [] else [.settingsBad])
        ++ if restart then [.restarted] else []) := by
  have hdead := blank_dead s restart (s.store.started restart).load
  have hbegun : ∃ v b, s.begun restart (s.store.started restart).load
      = { s.blank restart (s.store.started restart).load with
        fault := v
        portM := { (PortRec.fresh s.portM.inReset) with
          latches := { (PortRec.fresh s.portM.inReset).latches with fault := b } } }
      ∧ FaultsAfter (s.blank restart (s.store.started restart).load).fault v (if restart then [.restarted] else []) := by
    cases restart
    case false => exact ⟨_, false, rfl, .refl _⟩
    case true =>
      obtain ⟨v, b, hraise, hraised⟩ := raisedIn hdead .restarted
      exact ⟨v, b, hraise, (FaultsAfter.refl _).raised hraised⟩
  obtain ⟨v, b, hstate, hfaults⟩ := hbegun
  rw [startUp_of_low h]
  by_cases himage : (s.store.started restart).load.fromImage = true
  · rw [if_pos himage, if_pos himage]
    exact ⟨v, b, hstate, hfaults⟩
  · rw [if_neg himage, if_neg himage]
    have hdead' : ((s.begun restart (s.store.started restart).load).chan 0).state ≠ .live := by
      rw [hstate]
      exact hdead
    obtain ⟨w, c, hraise, hraised⟩ := raisedIn hdead' .settingsBad
    rw [hstate] at hraise hraised
    exact ⟨w, c, by rw [hstate]; exact hraise, hfaults.raised hraised⟩

/-- LOCKDOWN at start-up (R180), with what the fault unit held before. -/
theorem startUp_high {s : State} (h : (s.line 2).ext ≠ false) (restart : Bool) :
    Locked (s.begun restart .delivered) (s.startUp restart)
    ∧ (s.begun restart .delivered).store = s.store.started restart
    ∧ (s.begun restart .delivered).uptime = 0
    ∧ (s.begun restart .delivered).settings = .delivered
    ∧ ((s.begun restart .delivered).line 2).fn = true
    ∧ (∀ k, k ∈ (s.begun restart .delivered).fault.latches
      ↔ k ∈ (s.blank restart .delivered).fault.latches ∨ (restart = true ∧ k = .restarted)) := by
  have hline : ((s.blank restart .delivered).line 2).fn = true := by
    have := Vector.getElem_ofFn (f := fun i : Fin 8 =>
      let l := Line.fresh i.val (s.line i).ext
      if i = 2 then { l with fn := Settings.armed .delivered } else l) (i := 2) (by decide)
    exact (congrArg Line.fn this).trans rfl
  have hall : (s.begun restart .delivered).mode ≠ .lockdown
      ∧ (s.begun restart .delivered).store = s.store.started restart
      ∧ (s.begun restart .delivered).uptime = 0
      ∧ (s.begun restart .delivered).settings = .delivered
      ∧ ((s.begun restart .delivered).line 2).fn = true
      ∧ (∀ k, k ∈ (s.begun restart .delivered).fault.latches
        ↔ k ∈ (s.blank restart .delivered).fault.latches ∨ (restart = true ∧ k = .restarted)) := by
    cases restart
    case false => exact ⟨nofun, rfl, rfl, rfl, hline, fun k => by simp [(begun_cases s .delivered).1]⟩
    case true =>
      obtain ⟨v, b, hraise, hraised⟩ := raisedIn (blank_dead s true .delivered) .restarted
      rw [(begun_cases s .delivered).2, hraise]
      refine ⟨nofun, rfl, rfl, rfl, hline, fun k => ?_⟩
      have := hraised.latches
      rw [this, mem_latched]
      simp
  rw [startUp_of_high h]
  exact ⟨locked_tamperNow hall.1, hall.2⟩

/-- What a RESTART leaves with the tamper input low (R187). -/
theorem restart_low {s : State} (h : (s.line 2).ext = false) :
    s.StartedFrom (s.startUp true) (s.store.started true) ∧ FaultKind.restarted ∈ (s.startUp true).fault.latches
    ∧ (∀ k ∈ s.fault.latches, k ∈ (s.startUp true).fault.latches) ∧ (s.startUp true).fault.mask = s.fault.mask
    ∧ (s.fault.queue.length ≤ 30 → (s.startUp true).fault.dropped = s.fault.dropped
      ∧ (s.startUp true).fault.lost = s.fault.lost
      ∧ ∀ r ∈ s.fault.queue, r.kind ≠ .restarted → r.kind ≠ .settingsBad →
        { r with inReport := false } ∈ (s.startUp true).fault.queue) := by
  obtain ⟨v, b, hstate, hfaults⟩ := startUp_low h true
  have hstarted := startedFrom_blank s true v b (hfaults.report.trans rfl) (hfaults.deadline.trans rfl) hstate
  have hfault : (s.startUp true).fault = v := by rw [hstate]
  rw [hfault]
  refine ⟨hstarted, (hfaults.latches _).2 (.inr ?_), fun k hk => (hfaults.latches k).2 (.inl hk), hfaults.mask,
    fun hlen => ?_⟩
  · exact List.mem_append_right _ (List.mem_singleton.2 rfl)
  · have hblank : (s.blank true (s.store.started true).load).fault = s.fault.abandon := rfl
    have hkinds : ((if (s.store.started true).load.fromImage then [] else [FaultKind.settingsBad])
        ++ if true then [FaultKind.restarted] else []).length ≤ 2 := by
      split <;> simp
    have hqueue : s.fault.abandon.queue.length = s.fault.queue.length := FaultUnit.abandon_length _
    obtain ⟨hd, hl, -, hkept⟩ := hfaults.room (by rw [hblank, hqueue]; omega)
    refine ⟨hd, hl, fun r hr h1 h2 => hkept _ (List.mem_map.2 ⟨r, hr, rfl⟩) fun hk => ?_⟩
    rcases List.mem_append.1 hk with hk | hk
    · split at hk
      · cases hk
      · exact h2 (List.mem_singleton.1 hk)
    · exact h1 (List.mem_singleton.1 hk)

theorem powerOn_low {s : State} (h : (s.line 2).ext = false) :
    s.StartedFrom (s.startUp false) (s.store.started false)
    ∧ (s.startUp false).fault.latches = (if (s.store.started false).load.fromImage then [] else [.settingsBad])
    ∧ (s.startUp false).fault.mask = []
    ∧ (s.startUp false).fault.queue.length = (if (s.store.started false).load.fromImage then 0 else 1)
    ∧ (s.startUp false).fault.dropped = 0 ∧ (s.startUp false).fault.lost = 0 := by
  obtain ⟨v, b, hstate, hfaults⟩ := startUp_low h false
  refine ⟨startedFrom_blank s false v b (hfaults.report.trans rfl) (hfaults.deadline.trans rfl) hstate, ?_⟩
  rw [startUp_of_low h]
  have hbegun : s.begun false (s.store.started false).load = s.blank false (s.store.started false).load := rfl
  rw [hbegun]
  have hdead := blank_dead s false (s.store.started false).load
  have hfault : (s.blank false (s.store.started false).load).fault = .fresh := rfl
  generalize s.blank false (s.store.started false).load = u at hdead hfault
  by_cases himage : (s.store.started false).load.fromImage = true
  · rw [if_pos himage, if_pos himage, if_pos himage, hfault]
    exact ⟨rfl, rfl, rfl, rfl, rfl⟩
  · rw [if_neg himage, if_neg himage, if_neg himage,
      raise_of_new (by rw [hfault]; nofun) (fun r hr => by rw [hfault] at hr; cases hr) none]
    generalize FaultRec.made .settingsBad none none none u.uptime = r
    generalize hw : ({ u with fault := { u.fault with latches := (u.fault.latched .settingsBad).latches } } : State) = w
    have hwfault : w.fault = { FaultUnit.fresh with latches := [.settingsBad] } := by rw [← hw, hfault]; rfl
    have hwdead : ((queued w w.fault r).chan 0).state ≠ .live := by rw [← hw]; exact hdead
    rw [appendRecord_of_room (u := w.fault) (if_pos (by rw [hwfault]; decide)), reportTest_of_dead hwdead, ite_self]
    have hqueued : (queued w w.fault r).fault = { w.fault with queue := w.fault.queue ++ [r] } := rfl
    rw [hqueued, hwfault]
    exact ⟨rfl, rfl, rfl, rfl, rfl⟩

/-- Settles O41. -/
theorem startUpLeavesEveryBlockFresh : Obligations.StartUpLeavesEveryBlockFresh := by
  intro s low cold warm runs locked replied leaves
  have hleaves (h : low) : leaves (s.startUp true) := restart_low h
  have hlocked (h : ¬ low) (restart : Bool) : locked (s.startUp restart) (s.store.started restart)
      ∧ ∀ k, k ∈ (s.startUp restart).fault.latches
        ↔ k ∈ (s.blank restart .delivered).fault.latches ∨ (restart = true ∧ k = .restarted) ∨ k = .tamper := by
    obtain ⟨hl, hstore, huptime, hsettings, hfn, hlatches⟩ := startUp_high h restart
    have hall (k : FaultKind) : k ∈ (s.startUp restart).fault.latches
        ↔ k ∈ (s.blank restart .delivered).fault.latches ∨ (restart = true ∧ k = .restarted) ∨ k = .tamper := by
      rw [hl.latches, mem_latched, hlatches, or_assoc]
    refine ⟨⟨hl.mode, hl.quiet, (hall _).2 (.inr (.inr rfl)), ?_, hl.uptime.trans huptime, hl.settings.trans hsettings,
      hl.trunks, hl.fn.trans hfn, fun hbad => ?_⟩, hall⟩
    · rw [hl.store, hstore]
      cases restart <;> rfl
    · rcases (hall _).1 hbad with hk | ⟨-, hk⟩ | hk
      · cases restart
        case false => cases hk
        case true => exact hk
      · cases hk
      · cases hk
  have hrestarted (h : ¬ low) : locked (s.startUp true) warm ∧ FaultKind.restarted ∈ (s.startUp true).fault.latches :=
    ⟨(hlocked h true).1, ((hlocked h true).2 _).2 (.inr (.inl ⟨rfl, rfl⟩))⟩
  have hdeferred : exec .deferredRestart s = execDeferredRestart s := rfl
  refine ⟨fun h => ⟨s.startUp false, rfl, powerOn_low h⟩, fun h => ⟨s.startUp false, rfl, (hlocked h false).1, ?_⟩,
    fun tag ht hruns hwrite => ⟨s.startUp true, ?_, hleaves, hrestarted⟩,
    fun hwaits hwrite hruns => ⟨s.startUp true, ?_, hleaves, hrestarted⟩, fun tag ht hmode hwrite => ?_, fun h => ?_⟩
  · obtain ⟨hl, -⟩ := startUp_high h false
    rw [hl.latches]
    rfl
  · have hmode : s.mode ≠ .lockdown := by rcases hruns with e | e <;> rw [e] <;> nofun
    refine (exec_eq_command rfl s).trans (congrArg _ ((command_of_takes ht _).trans ?_))
    have hdecides : decision (.restart .m tag) s = s.restart .m tag := rfl
    rw [hdecides, State.restart, if_neg (by decide), if_neg hmode, hwrite, if_neg nofun]
    rfl
  · rw [hdeferred, execDeferredRestart, if_pos ⟨hwaits, hwrite, hruns⟩]
  · refine (exec_eq_command rfl s).trans (congrArg _ ((command_of_takes ht _).trans ?_))
    have hdecides : decision (.restart .m tag) s = s.restart .m tag := rfl
    rw [hdecides, State.restart, if_neg (by decide), if_neg hmode, if_pos hwrite]
    rfl
  · rw [hdeferred, execDeferredRestart, if_neg]
    rintro ⟨hwaits, hwrite, -⟩
    rcases h with h | h
    · rw [h] at hwaits
      cases hwaits
    · exact h hwrite

end Sys2Proof.Proofs

/-! What goes on in a part whose channel 0 is not LIVE: no report is built, so the sources stay as they are. -/

namespace Sys2Proof.Proofs
open Sys2Proof.Machine

/-- `t` is `s` but for the trunks, the core's place, the fault unit, the pool and the ports, whose deliveries stand. -/
structure TrunkFrame (s t : State) : Prop where
  frame : { t with
    t0 := s.t0, t1 := s.t1, active := s.active, core := s.core, draws := s.draws, fault := s.fault, pool := s.pool
    portG := s.portG, portP := s.portP, portM := s.portM } = s
  deliveries : ∀ q, (t.port q).deliveries = (s.port q).deliveries

theorem TrunkFrame.refl (s : State) : TrunkFrame s s := ⟨rfl, fun _ => rfl⟩

theorem TrunkFrame.trans {s t u : State} (h : TrunkFrame s t) (k : TrunkFrame t u) : TrunkFrame s u where
  frame := by
    have := congrArg (fun x : State => { x with
      t0 := s.t0, t1 := s.t1, active := s.active, core := s.core, draws := s.draws, fault := s.fault, pool := s.pool
      portG := s.portG, portP := s.portP, portM := s.portM }) k.frame
    exact Eq.trans this h.frame
  deliveries q := (k.deliveries q).trans (h.deliveries q)

theorem TrunkFrame.chan {s t : State} (h : TrunkFrame s t) (c : ChanId) : t.chan c = s.chan c := by
  have := congrArg (State.chan · c) h.frame
  exact this

/-- Channel 0 is not LIVE, so no report is built (R161). -/
def Dead (s : State) : Prop := (s.chan 0).state ≠ .live

theorem TrunkFrame.dead {s t : State} (h : TrunkFrame s t) (hdead : Dead s) : Dead t := by
  rw [Dead, h.chan]
  exact hdead

/-- Operations that keep the frame of a part with a dead channel 0, one after another. -/
theorem TrunkFrame.foldl {α : Type} {f : State → α → State} (h : ∀ s a, Dead s → TrunkFrame s (f s a)) (l : List α)
    {s : State} (hdead : Dead s) : TrunkFrame s (l.foldl f s) := by
  induction l generalizing s with
  | nil => exact .refl s
  | cons a l ih =>
    have hfirst := h s a hdead
    exact hfirst.trans (ih (hfirst.dead hdead))

theorem trunkFrame_raise {s : State} (hdead : Dead s) (k : FaultKind) (c : Option ChanId) (w : Option Trunk)
    (pt : Option Port) : TrunkFrame s (s.raise k c w pt) := by
  obtain ⟨u, b, h⟩ := raise_of_dead hdead k c w pt
  rw [h]
  exact ⟨rfl, fun q => by cases q <;> rfl⟩

theorem trunkFrame_reportOutcome {s : State} (hdead : Dead s) (sent : Bool) : TrunkFrame s (s.reportOutcome sent) := by
  cases h : s.fault.report with
  | none =>
    have hsame : s.reportOutcome sent = s := by simp only [State.reportOutcome, h]
    rw [hsame]
    exact .refl s
  | some rep =>
    have hdead' : Dead { s with fault := FaultUnit.answered s.fault rep sent } := hdead
    rw [reportOutcome_of_report h, reportTest_of_dead hdead']
    exact ⟨rfl, fun q => by cases q <;> rfl⟩

theorem trunkFrame_outcome {s : State} (hdead : Dead s) (f : Frame) (res : Result) : TrunkFrame s (s.outcome f res) := by
  have hgive (h : Holder) : TrunkFrame s (s.giveBuf h) := ⟨rfl, fun q => by cases q <;> rfl⟩
  have hcomplete (u : State) (pt : Port) (c : Completion) (m : Bool) : TrunkFrame u (u.complete pt c true m) := by
    refine ⟨by cases pt <;> rfl, fun q => ?_⟩
    rw [port_complete]
    split
    next h => rw [h]
    next => rfl
  unfold State.outcome
  dsimp only
  split
  · exact (hgive _).trans (hcomplete _ _ _ _)
  · split
    · exact (hgive _).trans (trunkFrame_reportOutcome ((hgive _).dead hdead) _)
    · exact hgive _

theorem trunkFrame_modTrunk (s : State) (k : Trunk) (f : TrunkRec → TrunkRec) : TrunkFrame s (s.modTrunk k f) :=
  ⟨by cases k <;> rfl, fun q => by cases k <;> cases q <;> rfl⟩

theorem trunkFrame_moveOrLose {s : State} (hdead : Dead s) (f : Frame) : TrunkFrame s (s.moveOrLose f) := by
  unfold State.moveOrLose
  split
  · split
    · exact trunkFrame_modTrunk _ _ _
    · exact trunkFrame_outcome hdead _ _
  · exact trunkFrame_outcome hdead _ _

theorem trunkFrame_refreshActive {s : State} (hdead : Dead s) : TrunkFrame s s.refreshActive := by
  have hset (a : Option Trunk) : TrunkFrame s { s with active := a } := ⟨rfl, fun q => by cases q <;> rfl⟩
  unfold State.refreshActive
  dsimp only
  split
  · exact (hset _).trans (trunkFrame_raise ((hset _).dead hdead) _ _ _ _)
  · exact hset _

theorem trunkFrame_leaveUp {s : State} (hdead : Dead s) (k : Trunk) : TrunkFrame s (s.leaveUp k) := by
  have hcut : TrunkFrame s (s.cut k) := by
    refine ⟨?_, fun q => by rw [port_cut]⟩
    rcases State.cut_cases s k with ⟨-, h⟩ | ⟨-, h⟩ <;> rw [h]
    cases k <;> rfl
  have hcore (u : State) : TrunkFrame u { u with core := u.core.unplaced k } := ⟨rfl, fun q => by cases q <;> rfl⟩
  have hleft := (hcut.trans (trunkFrame_modTrunk _ k TrunkRec.emptied)).trans (hcore _)
  have hactive := hleft.trans (trunkFrame_refreshActive (hleft.dead hdead))
  exact hactive.trans (.foldl (fun u f hu => trunkFrame_moveOrLose hu f) _ (hactive.dead hdead))

theorem trunkFrame_carrierEvent {s : State} (hdead : Dead s) (k : Trunk) (before : Bool) :
    TrunkFrame s (s.carrierEvent k before) := by
  unfold State.carrierEvent
  split
  · exact .refl s
  · split
    · exact trunkFrame_modTrunk _ _ _
    · unfold State.carrierFall
      split
      · have h := trunkFrame_modTrunk s k fun r => { r with state := .down, proving := none }
        exact h.trans (trunkFrame_raise (h.dead hdead) _ _ _ _)
      · have h := trunkFrame_modTrunk s k fun r => { r with state := .down }
        have hraised := h.trans (trunkFrame_raise (h.dead hdead) .trunkDown none (some k) none)
        exact hraised.trans (trunkFrame_leaveUp (hraised.dead hdead) k)
      · exact .refl s

theorem trunkFrame_carrierEvents {s : State} (hdead : Dead s) (before : State) : TrunkFrame s (s.carrierEvents before) := by
  have h := trunkFrame_carrierEvent hdead .t0 (before.carrier .t0)
  exact h.trans (trunkFrame_carrierEvent (h.dead hdead) .t1 _)

/-! ### A general close, channel by channel (R23, R188) -/

/-- `t` is `s` after closes: channels may have closed, slots and entries gone, queues and sources lost frames; the
deliveries, the store, the lines and the numbers that the sources give next stand. -/
structure Hushed (s t : State) : Prop where
  dead : Dead s → Dead t
  closed : ∀ c, (s.chan c).state = .closed → (t.chan c).state = .closed
  deliveries : ∀ q, (t.port q).deliveries = (s.port q).deliveries
  next : ∀ o, (t.src o).nextSub = (s.src o).nextSub
  waiting : ∀ o, (s.src o).waiting = [] → (t.src o).waiting = []
  rest : t.mode = s.mode ∧ t.store = s.store ∧ t.lines = s.lines

theorem Hushed.refl (s : State) : Hushed s s := ⟨id, fun _ => id, fun _ => rfl, fun _ => rfl, fun _ => id, rfl, rfl, rfl⟩

theorem Hushed.trans {s t u : State} (h : Hushed s t) (k : Hushed t u) : Hushed s u where
  dead x := k.dead (h.dead x)
  closed c x := k.closed c (h.closed c x)
  deliveries q := (k.deliveries q).trans (h.deliveries q)
  next o := (k.next o).trans (h.next o)
  waiting o x := k.waiting o (h.waiting o x)
  rest := by
    obtain ⟨h1, h2, h3⟩ := h.rest
    obtain ⟨k1, k2, k3⟩ := k.rest
    exact ⟨k1.trans h1, k2.trans h2, k3.trans h3⟩

/-- An operation on slots, jobs, entries, the inbound FIFO and the pool. -/
theorem hushed_of_frame {s t : State} (h : { t with
    slots := s.slots, core := s.core, derivs := s.derivs, sched := s.sched, exch := s.exch, boot := s.boot
    inFifo := s.inFifo, pool := s.pool } = s) : Hushed s t := by
  have hchan (c : ChanId) : t.chan c = s.chan c := by
    have := congrArg (State.chan · c) h
    exact this
  have hport (q : Port) : t.port q = s.port q := by
    have := congrArg (State.port · q) h
    exact this
  have hsrc (o : OutSrc) : t.src o = s.src o := by
    have := congrArg (State.src · o) h
    exact this
  have h1 := congrArg State.mode h
  have h2 := congrArg State.store h
  have h3 := congrArg State.lines h
  exact ⟨fun hd => by rw [Dead, hchan]; exact hd, fun c hc => by rw [hchan]; exact hc, fun q => by rw [hport],
    fun o => by rw [hsrc], fun o ho => by rw [hsrc]; exact ho, h1, h2, h3⟩

theorem TrunkFrame.hushed {s t : State} (h : TrunkFrame s t) : Hushed s t := by
  have hsrc (o : OutSrc) : t.src o = s.src o := by
    have := congrArg (State.src · o) h.frame
    exact this
  have h1 := congrArg State.mode h.frame
  have h2 := congrArg State.store h.frame
  have h3 := congrArg State.lines h.frame
  exact ⟨h.dead, fun c hc => by rw [h.chan]; exact hc, h.deliveries, fun o => by rw [hsrc],
    fun o ho => by rw [hsrc]; exact ho, h1, h2, h3⟩

theorem waiting_without {r : Source} {pick : Frame → Bool} (h : r.waiting = []) : (r.without pick).waiting = [] := by
  obtain ⟨hheld, hfifo⟩ := List.append_eq_nil_iff.1 h
  have hempty (l : List Frame) (hl : l ∈ r.holds.toList) : l = [] := List.flatten_eq_nil_iff.1 hheld l hl
  refine List.append_eq_nil_iff.2 ⟨List.flatten_eq_nil_iff.2 fun l hl => ?_, ?_⟩
  · have hl' : l ∈ r.holds.toList.map fun l => l.filter fun f => !pick f := by
      simpa [Source.without, Vector.toList_map] using hl
    obtain ⟨m, hm, rfl⟩ := List.mem_map.1 hl'
    rw [hempty m hm]
    rfl
  · show (r.fifo.filter fun f => !pick f) = []
    rw [hfifo]
    rfl

theorem waiting_without_all (r : Source) : (r.without fun _ => true).waiting = [] := by
  have hnone (l : List Frame) : (l.filter fun _ => !true) = [] := by simp
  refine List.append_eq_nil_iff.2 ⟨List.flatten_eq_nil_iff.2 fun l hl => ?_, hnone r.fifo⟩
  have hl' : l ∈ r.holds.toList.map fun l => l.filter fun _ => !true := by
    simpa [Source.without, Vector.toList_map] using hl
  obtain ⟨m, -, rfl⟩ := List.mem_map.1 hl'
  exact hnone m

theorem hushed_discard {s : State} (hdead : Dead s) (pick : Frame → Bool) (res : Result) :
    Hushed s (s.discard pick res) := by
  have hdropped : Hushed s (withoutFrames s pick) := by
    refine ⟨id, fun _ => id, fun q => by cases q <;> rfl, fun o => ?_, fun o ho => ?_, rfl, rfl, rfl⟩
    · rw [src_withoutFrames]
      rfl
    · rw [src_withoutFrames]
      exact waiting_without ho
  rw [discard_eq]
  exact hdropped.trans (TrunkFrame.foldl (fun u f hu => trunkFrame_outcome hu f res) _ (hdropped.dead hdead)).hushed

theorem deliveries_tellChannel (s : State) (c : ChanId) (q : Port) :
    ((s.tellChannel c).port q).deliveries = (s.port q).deliveries := by
  rw [State.tellChannel, port_latchChannel]
  split
  next h => rw [h]
  next => rfl

/-- The first part of a close: the record, the entries and the slots of the channel. -/
theorem hushed_shutDown (s : State) (c : ChanId) : Hushed s (shutDown s c) ∧ ((shutDown s c).chan c).state = .closed := by
  have htold : Hushed s ((s.modChan c Chan.shut).tellChannel c) := by
    have hframe := latchChannel_frame (s.modChan c Chan.shut) ((s.modChan c Chan.shut).chan c).owner.port
    have hchan (d : ChanId) : ((s.modChan c Chan.shut).tellChannel c).chan d
        = if d = c then (s.chan d).shut else s.chan d := (chan_tellChannel _ c d).trans (State.chan_modChan s c d _)
    have hsrc (o : OutSrc) : ((s.modChan c Chan.shut).tellChannel c).src o = s.src o := by
      have := congrArg (State.src · o) hframe
      exact this
    have h1 := congrArg State.mode hframe
    have h2 := congrArg State.store hframe
    have h3 := congrArg State.lines hframe
    refine ⟨fun hd => ?_, fun d hd => ?_, fun q => ?_, fun o => by rw [hsrc], fun o ho => by rw [hsrc]; exact ho, h1, h2, h3⟩
    · rw [Dead, hchan]
      split
      · nofun
      · exact hd
    · rw [hchan]
      split
      · rfl
      · exact hd
    · rw [deliveries_tellChannel]
      cases q <;> rfl
  obtain ⟨hchan, -⟩ := shutDown_spec s c
  have hshut : shutDown s c = { ((((s.modChan c Chan.shut).tellChannel c).unlist c).dropExch c).wipeChannel c with
    core := (((((s.modChan c Chan.shut).tellChannel c).unlist c).dropExch c).wipeChannel c).core.discarding
      fun x => x == c } := rfl
  refine ⟨?_, by rw [hchan, if_pos rfl]; rfl⟩
  rw [hshut]
  generalize (s.modChan c Chan.shut).tellChannel c = u at htold
  have hentries : Hushed u ((u.unlist c).dropExch c) := hushed_of_frame rfl
  generalize (u.unlist c).dropExch c = v at hentries
  have hwipe := wipeChannel_frame v c
  generalize v.wipeChannel c = w at hwipe
  have hslots : Hushed v { w with core := w.core.discarding fun x => x == c } := by
    refine hushed_of_frame ?_
    have := congrArg (fun x : State => { x with
      sched := v.sched, exch := v.exch, boot := v.boot, inFifo := v.inFifo, pool := v.pool }) hwipe
    exact this
  exact htold.trans (hentries.trans hslots)

theorem hushed_dropInbound (s : State) (pick : ChanId → Bool) : Hushed s (s.dropInbound pick) := by
  obtain ⟨⟨-, -, -, hframe⟩, -⟩ := dropped_dropInbound s pick
  refine hushed_of_frame ?_
  have := congrArg (fun x : State => { x with
    slots := s.slots, core := s.core, derivs := s.derivs, sched := s.sched, exch := s.exch, boot := s.boot }) hframe
  exact this

/-- A close without CLOSE_NOTE, which leaves channel 0 not LIVE (R23). -/
theorem hushed_close {s : State} {c : ChanId} (h : c = 0 ∨ Dead s) :
    Hushed s (s.close c false) ∧ ((s.close c false).chan c).state = .closed ∧ Dead (s.close c false) := by
  obtain ⟨hshut, hclosed⟩ := hushed_shutDown s c
  have hdead : Dead (shutDown s c) := by
    rcases h with rfl | h
    · rw [Dead, hclosed]
      nofun
    · exact hshut.dead h
  have hclose : s.close c false = emptiedOf s c := (close_eq s c false).trans (if_neg nofun)
  have hrest := (hushed_discard hdead (fun f => f.chan == c) (.refused .closedWhileQueued)).trans
    (hushed_dropInbound _ fun x => x == c)
  rw [hclose]
  exact ⟨hshut.trans hrest, hrest.closed c hclosed, hrest.dead hdead⟩

theorem hushed_closeOpen {s : State} {c : ChanId} (h : c = 0 ∨ Dead s) :
    Hushed s (s.closeOpen c false) ∧ ((s.closeOpen c false).chan c).state = .closed ∧ Dead (s.closeOpen c false) := by
  unfold State.closeOpen
  split
  next hc =>
    refine ⟨.refl s, hc, ?_⟩
    rcases h with rfl | h
    · rw [Dead, hc]
      nofun
    · exact h
  next => exact hushed_close h

theorem hushed_closes (l : List ChanId) {s : State} (hdead : Dead s) :
    Hushed s (l.foldl (fun s c => s.closeOpen c false) s)
    ∧ ∀ c ∈ l, ((l.foldl (fun s c => s.closeOpen c false) s).chan c).state = .closed := by
  induction l generalizing s with
  | nil => exact ⟨.refl s, fun _ h => absurd h List.not_mem_nil⟩
  | cons c l ih =>
    obtain ⟨hfirst, hclosed, hdead'⟩ := hushed_closeOpen (c := c) (.inr hdead)
    obtain ⟨hrest, hall⟩ := ih hdead'
    refine ⟨hfirst.trans hrest, fun d hd => ?_⟩
    rcases List.mem_cons.1 hd with rfl | hd
    · exact hrest.closed _ hclosed
    · exact hall d hd

end Sys2Proof.Proofs

/-! ZEROIZE (R188): every channel closed, every slot wiped, and the bootstrap again. -/

namespace Sys2Proof.Proofs
open Sys2Proof.Machine

/-! ### The transmit queues under closes (R146) -/

/-- The frame that a trunk transmits, which no close discards (R146). -/
def headOf (r : TrunkRec) : List Frame := if r.transmitting then r.queue.take 1 else []

/-- A trunk that lost frames that wait in its queue, and nothing else. -/
def Thinned (r t : TrunkRec) : Prop := t = { r with queue := t.queue } ∧ headOf t = headOf r

theorem Thinned.refl (r : TrunkRec) : Thinned r r := ⟨rfl, rfl⟩

theorem Thinned.trans {r t u : TrunkRec} (h : Thinned r t) (k : Thinned t u) : Thinned r u := by
  refine ⟨?_, k.2.trans h.2⟩
  have := congrArg (fun x : TrunkRec => { x with queue := u.queue }) h.1
  exact k.1.trans this

theorem thinned_without (r : TrunkRec) (pick : Frame → Bool) : Thinned r (r.without pick) := by
  refine ⟨rfl, ?_⟩
  have hqueue : (r.without pick).queue = headOf r ++ r.loose.filter fun f => !pick f := rfl
  have htx : (r.without pick).transmitting = r.transmitting := rfl
  unfold headOf
  rw [htx, hqueue]
  by_cases h : r.transmitting = true
  · rw [if_pos h, if_pos h]
    unfold headOf TrunkRec.loose
    rw [if_pos h, if_pos h]
    cases hq : r.queue <;> simp
  · rw [if_neg h, if_neg h]

theorem queue_without_all (r : TrunkRec) : (r.without fun _ => true).queue = headOf r := by
  have hqueue : (r.without fun _ => true).queue = headOf r ++ r.loose.filter fun _ => !true := rfl
  have hnone : (r.loose.filter fun _ => !true) = [] := by simp
  rw [hqueue, hnone, List.append_nil]

theorem thinned_closeOpen (s : State) (c : ChanId) (k : Trunk) : Thinned (s.trunk k) ((s.closeOpen c false).trunk k) := by
  unfold State.closeOpen
  split
  · exact .refl _
  · have hclose : s.close c false = emptiedOf s c := (close_eq s c false).trans (if_neg nofun)
    rw [hclose, (emptiedOf_spec s c).trunk, ← trunk_without]
    exact thinned_without _ _

theorem thinned_closes (l : List ChanId) (s : State) (k : Trunk) :
    Thinned (s.trunk k) ((l.foldl (fun s c => s.closeOpen c false) s).trunk k) := by
  induction l generalizing s with
  | nil => exact .refl _
  | cons c l ih => exact (thinned_closeOpen s c k).trans (ih _)

/-! ### The effects of ZEROIZE (R188) -/

theorem slot_wipeAll (s : State) (j : SlotId) : s.wipeAll.slot j = wipeOrdered (s.slot j) := by
  have hall : s.wipeAll = allSlots.foldl (fun s i => if True then s.wipe i else s) s := by
    simp only [if_true]
    rfl
  rw [hall]
  refine (slot_wipes (fun _ => True) (List.nodup_finRange 48) s j).trans ?_
  simp only [List.mem_finRange, and_self, if_true]

theorem wipeAll_frame (s : State) : { s.wipeAll with slots := s.slots, derivs := s.derivs, core := s.core } = s := by
  have h := wipes_frame (fun _ _ => True) allSlots s
  simp only [if_true] at h
  exact h

/-- What the effects of ZEROIZE leave before the bootstrap request (R188). -/
structure Zeroized (s t : State) : Prop where
  closed : ∀ c, (t.chan c).state = .closed
  slot : ∀ i, (t.slot i).state = .empty ∨ ((t.slot i).inFlight = true ∧ (t.slot i).wipePending = true)
  sched : t.sched = .fresh
  exch : t.exch = []
  boot : t.boot = .fresh
  derivs : t.derivs = []
  inFifo : t.inFifo = []
  line : ∀ i, t.line i = { s.line i with dirOut := false, latch := false }
  src : ∀ o, (t.src o).waiting = [] ∧ (t.src o).nextSub = (s.src o).nextSub
  mode : t.mode = s.mode
  store : t.store = s.store
  deliveries : ∀ q, (t.port q).deliveries = (s.port q).deliveries
  trunk : (∀ k, s.linesIn.carrier k = s.carrier k) → ∀ k, t.trunk k = { s.trunk k with
    queue := if (s.trunk k).transmitting then (s.trunk k).queue.take 1 else [] }

theorem wipeOrdered_spec (k : Slot) : (wipeOrdered k).state = .empty
    ∨ ((wipeOrdered k).inFlight = true ∧ (wipeOrdered k).wipePending = true) := by
  unfold wipeOrdered
  split
  next h => exact .inl h
  next =>
    split
    next h => exact .inr ⟨h, rfl⟩
    next => exact .inl rfl

/-- The channels closed and the frames gone (R188), before the slots are wiped. -/
def allClosed (s : State) : State :=
  (allChans.foldl (fun s c => s.closeOpen c false) (s.closeOpen 0 false)).discard (fun _ => true) (.refused .closedWhileQueued)

theorem allClosed_spec (s : State) : Hushed s (allClosed s) ∧ Dead (allClosed s)
    ∧ (∀ c, ((allClosed s).chan c).state = .closed) ∧ (∀ o, ((allClosed s).src o).waiting = [])
    ∧ ∀ k, (allClosed s).trunk k = { s.trunk k with
      queue := if (s.trunk k).transmitting then (s.trunk k).queue.take 1 else [] } := by
  obtain ⟨hzero, -, hdead⟩ := hushed_closeOpen (s := s) (.inl (Eq.refl 0))
  obtain ⟨hall, hclosed⟩ := hushed_closes allChans hdead
  have hthin (k : Trunk) := (thinned_closeOpen s 0 k).trans (thinned_closes allChans (s.closeOpen 0 false) k)
  unfold allClosed
  generalize allChans.foldl (fun s c => s.closeOpen c false) (s.closeOpen 0 false) = u at hall hclosed hthin ⊢
  have hudead := hall.dead hdead
  have hgone := hushed_discard hudead (fun _ => true) (.refused .closedWhileQueued)
  refine ⟨hzero.trans (hall.trans hgone), hgone.dead hudead,
    fun c => hgone.closed c (hclosed c (List.mem_finRange c)), fun o => ?_, fun k => ?_⟩
  · by_cases ho : o = .control
    · subst ho
      have hdropped : Dead (withoutFrames u fun _ => true) := hudead
      have hsrc := (TrunkFrame.foldl (fun v f hv => trunkFrame_outcome hv f (.refused .closedWhileQueued))
        (u.picked fun _ => true) hdropped).hushed.waiting .control
      rw [discard_eq]
      exact hsrc (waiting_without_all u.srcControl)
    · rw [src_discard u _ _ ho]
      exact waiting_without_all _
  · rw [trunk_discard]
    obtain ⟨h1, h2⟩ := hthin k
    have hqueue := queue_without_all (u.trunk k)
    rw [h2] at hqueue
    have hrec : (u.trunk k).without (fun _ => true) = { u.trunk k with queue := headOf (s.trunk k) } :=
      congrArg (fun q : List Frame => { u.trunk k with queue := q }) hqueue
    have hbase := congrArg (fun x : TrunkRec => { x with queue := headOf (s.trunk k) }) h1
    exact hrec.trans hbase

theorem zeroized_spec (s : State) : Zeroized s (zeroized s) := by
  obtain ⟨hhush, hdead, hclosed, hwaiting, htrunk⟩ := allClosed_spec s
  have hz : zeroized s = (State.dropInbound { (allClosed s).wipeAll with
    core := (allClosed s).wipeAll.core.undriven, derivs := [], sched := .fresh, exch := [], boot := .fresh }
    fun _ => true).resetLines := rfl
  rw [hz]
  generalize allClosed s = u at *
  have hslot := slot_wipeAll u
  have hwipe := wipeAll_frame u
  generalize u.wipeAll = w at hslot hwipe
  generalize he : ({ w with core := w.core.undriven, derivs := [], sched := .fresh, exch := [], boot := .fresh } : State) = e
  obtain ⟨⟨-, -, -, hframe⟩, hfifo⟩ := dropped_dropInbound e fun _ => true
  generalize e.dropInbound (fun _ => true) = g at hframe hfifo
  have hugframe : { g with
      slots := u.slots, derivs := u.derivs, core := u.core, sched := u.sched, exch := u.exch, boot := u.boot
      inFifo := u.inFifo, pool := u.pool } = u := by
    have h1 := congrArg (fun x : State => { x with
      slots := u.slots, derivs := u.derivs, core := u.core, sched := u.sched, exch := u.exch, boot := u.boot
      inFifo := u.inFifo, pool := u.pool }) hframe
    have h2 := congrArg (fun x : State => { x with
      sched := u.sched, exch := u.exch, boot := u.boot, inFifo := u.inFifo, pool := u.pool }) hwipe
    rw [← he] at h1
    exact Eq.trans h1 h2
  have hug : Hushed u g := hushed_of_frame hugframe
  have hgdead : Dead g := hug.dead hdead
  have hsg := hhush.trans hug
  have hlines : g.lines = s.lines := hsg.rest.2.2
  have hldead : Dead g.linesIn := hgdead
  have hcarrier := trunkFrame_carrierEvents hldead g
  have hhushed := hcarrier.hushed
  have hquiet : (∀ k, s.linesIn.carrier k = s.carrier k) → g.linesIn.carrierEvents g = g.linesIn := fun hsame => by
    have hk (k : Trunk) : g.linesIn.carrier k = g.carrier k := by
      have hin : g.linesIn.lines = s.linesIn.lines := by rw [State.linesIn, State.linesIn, hlines]
      rw [carrier_of_lines hin, carrier_of_lines hlines, hsame]
    have h0 : g.linesIn.carrierEvent .t0 (g.carrier .t0) = g.linesIn := carrierEvent_same (hk .t0)
    have h1 : g.linesIn.carrierEvent .t1 (g.carrier .t1) = g.linesIn := carrierEvent_same (hk .t1)
    rw [State.carrierEvents, h0, h1]
  have hreset : g.resetLines = g.linesIn.carrierEvents g := rfl
  rw [hreset]
  generalize g.linesIn.carrierEvents g = t at *
  have htg := hcarrier.frame
  refine ⟨fun c => ?_, fun i => ?_, ?_, ?_, ?_, ?_, ?_, fun i => ?_, fun o => ⟨?_, ?_⟩, ?_, ?_, fun q => ?_, fun hsame k => ?_⟩
  · exact hhushed.closed c (hug.closed c (hclosed c))
  · have h1 := congrArg (State.slot · i) htg
    have h2 := congrArg (State.slot · i) hframe
    rw [← he] at h2
    have hts : t.slot i = w.slot i := Eq.trans h1 h2
    rw [hts, hslot]
    exact wipeOrdered_spec _
  · have h1 := congrArg State.sched htg
    have h2 := congrArg State.sched hframe
    rw [← he] at h2
    exact Eq.trans h1 h2
  · have h1 := congrArg State.exch htg
    have h2 := congrArg State.exch hframe
    rw [← he] at h2
    exact Eq.trans h1 h2
  · have h1 := congrArg State.boot htg
    have h2 := congrArg State.boot hframe
    rw [← he] at h2
    exact Eq.trans h1 h2
  · have h1 := congrArg State.derivs htg
    have h2 := congrArg State.derivs hframe
    rw [← he] at h2
    exact Eq.trans h1 h2
  · have h1 := congrArg State.inFifo htg
    have hnone : (e.inFifo.filter fun _ => !true) = [] := by simp
    exact Eq.trans h1 (hfifo.trans hnone)
  · have h1 := congrArg (fun x : State => x.lines[i.val]) htg
    have h2 := line_linesIn (l := g.lines) i
    have h3 := congrArg (fun l : Vector Line 8 => { l[i.val] with dirOut := false, latch := false }) hlines
    exact Eq.trans h1 (Eq.trans h2 h3)
  · exact hhushed.waiting o (hug.waiting o (hwaiting o))
  · exact (hhushed.next o).trans (hsg.next o)
  · exact hhushed.rest.1.trans hsg.rest.1
  · exact hhushed.rest.2.1.trans hsg.rest.2.1
  · exact (hhushed.deliveries q).trans (hsg.deliveries q)
  · rw [hquiet hsame]
    have h := congrArg (State.trunk · k) hugframe
    exact Eq.trans h (htrunk k)

/-- BOOT_LIMIT at a ZEROIZE: SAFE, with nothing left (R41, R189). -/
structure ZeroizedSafe (s t : State) : Prop where
  mode : t.mode = .safe
  latch : FaultKind.bootLimit ∈ t.fault.latches
  emptied : Emptied t
  store : t.store = { s.store with bootWaits := false }
  free : t.pool.free = 128
  port : ∀ q, (t.port q).completions = [] ∧ (t.port q).outstanding = 0 ∧ (t.port q).marks = 0
    ∧ (t.port q).latches.delivery = false ∧ (t.port q).latches.completion = false
  fault : t.fault.deadline = none ∧ t.fault.report = none
  rest : t.sched = .fresh ∧ t.boot = .fresh
  line : ∀ i, t.line i = { s.line i with dirOut := false, latch := false }
  src : ∀ o, (t.src o).waiting = [] ∧ (t.src o).nextSub = (s.src o).nextSub
  closed : ∀ c, (t.chan c).state = .closed

theorem zeroizeNow_safe {s : State} (hwrite : s.store.write = none) (hcount : 65535 ≤ imageCount s.store.image) :
    ZeroizedSafe s s.zeroizeNow := by
  have hz := zeroized_spec s
  rw [zeroizeNow_eq]
  generalize zeroized s = z at hz
  rw [beginBootstrap_of_limit (by rw [hz.store]; exact hwrite) (by rw [hz.store]; exact hcount)]
  have hdead : Dead z := by rw [Dead, hz.closed]; nofun
  have hraise := (trunkFrame_raise hdead .bootLimit none none none).hushed
  obtain ⟨hsafe, hlatch, hstore⟩ := safe_of_bootLimit z
  generalize z.raise .bootLimit = r at hraise hsafe hlatch hstore
  obtain ⟨hmode, hemptied, -, hlines, hfault, hsrc, hfree, hport, hwork⟩ := hsafe
  generalize r.enterSafe = t at *
  refine ⟨hmode, hlatch, hemptied, by rw [hstore, hz.store], hfree, fun q => by rw [hport]; exact ⟨rfl, rfl, rfl, rfl, rfl⟩,
    by rw [hfault]; exact ⟨rfl, rfl⟩, hwork, fun i => ?_, fun o => ⟨?_, ?_⟩, fun c => ?_⟩
  · have hsame : t.lines = z.lines := hlines.trans hraise.rest.2.2
    rw [← hz.line]
    exact congrArg (fun l : Vector Line 8 => l[i.val]) hsame
  · rw [hsrc]
    exact waiting_emptied _
  · rw [hsrc]
    exact (hraise.next o).trans (hz.src o).2
  · exact (hemptied.quiet (.inl hmode)).1 c

/-- The completion of a ZEROIZE joins port M's queue and changes nothing else of the part. -/
theorem completedAt_frame (s : State) (tag : Byte) (kind : Nat) (res : Result) (data : List Byte) :
    { s.completedAt .m tag kind res data with portM := s.portM } = s := rfl

/-- Settles O43. -/
theorem zeroizeWipesAndBootstrapsAgain : Obligations.ZeroizeWipesAndBootstrapsAgain := by
  intro s tag ht hrun count safe
  have hexec : exec (.zeroize .m tag) s
      = .next (s.zeroizeNow.completedAt .m tag 0x1C .done (b1 s.zeroizeNow.mode.code)) := by
    refine exec_of_finish rfl ht ?_
    have hdecides : decision (.zeroize .m tag) s = s.zeroize .m tag := rfl
    rw [hdecides]
    simp only [State.zeroize, State.onlyM_of_running hrun]
  refine ⟨_, hexec, ?_⟩
  have hport (u : State) (q : Port) (data : List Byte) := port_completedAt u .m q tag 0x1C .done data
  by_cases hsafe : safe
  · have h := zeroizeNow_safe hsafe.1 hsafe.2
    generalize s.zeroizeNow = z at h
    have hcode : b1 z.mode.code = [2] := by rw [h.mode]; rfl
    rw [hcode]
    have hempty := h.emptied
    have hcompleted (q : Port) (hq : q ≠ .m) : (z.completedAt .m tag 0x1C .done [2]).port q = z.port q := by
      rw [hport, if_neg hq]
    refine ⟨h.closed, fun i => .inl ((congrArg Slot.state (hempty.slots i)).trans rfl), hempty.waitList, hempty.exch, ?_,
      hempty.frames.1, fun i => ?_, fun o => ?_, fun hno => absurd hsafe hno, fun hw hlt => ?_, fun hw => absurd hsafe.1 hw,
      fun _ => ⟨h.mode, h.latch, quietLaw_of_emptied (t := z) hempty, hempty.slots, h.store, h.free, fun k => ?_, ?_, ?_, ?_,
        fun q => ?_, h.fault⟩⟩
    · exact congrArg Boot.phase h.rest.2
    · have hline := h.line i
      have hfn : (z.line i).fn = (s.line i).fn := by rw [hline]
      exact ⟨congrArg Line.dirOut hline, congrArg Line.latch hline, hfn⟩
    · have hsrc := h.src o
      cases o <;> exact hsrc
    · exact absurd hsafe.2 (Nat.not_le.2 hlt)
    · obtain ⟨h1, h2, -, h3⟩ := hempty.trunks k
      cases k <;> exact ⟨h1, h2, h3⟩
    · have hm := hport z .m [2]
      rw [if_pos rfl] at hm
      exact (congrArg PortRec.completions hm).trans (congrArg (· ++ [_]) (h.port .m).1)
    · exact (congrArg PortRec.completions (hcompleted .g nofun)).trans (h.port .g).1
    · exact (congrArg PortRec.completions (hcompleted .p nofun)).trans (h.port .p).1
    · obtain ⟨-, h2, h3, h4, h5⟩ := h.port q
      have hdeliveries := hempty.deliveries q
      rw [hport]
      by_cases hq : q = .m
      · subst hq
        rw [if_pos rfl]
        exact ⟨hdeliveries, h2, h3, h4, rfl⟩
      · rw [if_neg hq]
        exact ⟨hdeliveries, h2, h3, h4, h5.trans (decide_eq_false hq).symm⟩
  · have hz := zeroized_spec s
    have hboot : ∃ st d, s.zeroizeNow = { zeroized s with store := st, derivs := d }
        ∧ (s.store.write = none → count < 65535 →
          st = { s.store with write := some (.count (count + 1)), bootWaits := false } ∧ d = [.bootstrap (count + 1)])
        ∧ (s.store.write ≠ none → st = { s.store with bootWaits := true } ∧ d = []) := by
      rw [zeroizeNow_eq]
      by_cases hw : s.store.write = none
      · have hlt : count < 65535 := Nat.lt_of_not_le fun hle => hsafe ⟨hw, hle⟩
        rw [beginBootstrap_of_count (by rw [hz.store]; exact hw) (by rw [hz.store]; exact hlt), hz.store, hz.derivs]
        exact ⟨_, _, rfl, fun _ _ => ⟨rfl, rfl⟩, fun h => absurd hw h⟩
      · rw [beginBootstrap_of_write (by rw [hz.store]; exact hw), hz.store]
        exact ⟨_, (zeroized s).derivs, rfl, fun h => absurd h hw, fun _ => ⟨rfl, hz.derivs⟩⟩
    obtain ⟨st, d, hstate, hbegun, hwaits⟩ := hboot
    rw [hstate]
    generalize zeroized s = z at hz
    have hcode : b1 (State.mode { z with store := st, derivs := d }).code = [1] := by
      have hm : z.mode = .running := hz.mode.trans hrun
      show b1 z.mode.code = [1]
      rw [hm]
      rfl
    rw [hcode]
    refine ⟨hz.closed, hz.slot, congrArg Scheduler.waitList hz.sched, hz.exch, congrArg Boot.phase hz.boot, hz.inFifo,
      fun i => ?_, fun o => ?_, fun _ => ⟨hz.mode.trans hrun, fun hsame k => ?_, ?_, hz.deliveries .g, hz.deliveries .p,
        hz.deliveries .m⟩, hbegun, hwaits, fun h => absurd h hsafe⟩
    · have hline := hz.line i
      have hfn : (z.line i).fn = (s.line i).fn := by rw [hline]
      exact ⟨congrArg Line.dirOut hline, congrArg Line.latch hline, hfn⟩
    · have hsrc := hz.src o
      cases o <;> exact hsrc
    · have htrunk := hz.trunk hsame k
      cases k <;> exact htrunk
    · have hm := hport { z with store := st, derivs := d } .m [1]
      rw [if_pos rfl] at hm
      refine (congrArg (fun r : PortRec => r.completions.getLast?) hm).trans ?_
      exact List.getLast?_concat

end Sys2Proof.Proofs

/-! What a request writes (R99), whatever it finds, and what a cutover keeps. -/

namespace Sys2Proof.Proofs
open Sys2Proof.Machine

/-! ### Requests (R99) -/

/-- What every request keeps: other channels, and of its own everything but the renewal and the pause. -/
structure Asked (s t : State) (c : ChanId) : Prop where
  chan : ∀ d, t.chan d = { s.chan d with
    renewal := (t.chan d).renewal, pause := (t.chan d).pause, pauseReason := (t.chan d).pauseReason }
  others : ∀ d, d ≠ c → t.chan d = s.chan d
  latched : ∀ q, (s.port q).latches.channel = true → (t.port q).latches.channel = true
  frame : adminFrame s t

theorem Asked.refl (s : State) (c : ChanId) : Asked s s c := ⟨fun _ => rfl, fun _ _ => rfl, fun _ => id, rfl⟩

theorem asked_join (s : State) (c : ChanId) (r : Reason) (atHead : Bool) : Asked s (s.join c r atHead).1 c := by
  by_cases h : s.sched.waitList.length < 31
  · obtain ⟨hown, hothers, -, -, hlatched, hframe⟩ := joinedList_join h c r atHead
    refine ⟨fun d => ?_, hothers, hlatched, hframe⟩
    by_cases hd : d = c
    · rw [hd, hown]
    · rw [hothers d hd]
  · rw [join_of_full (Nat.not_lt.1 h)]
    exact .refl s c

theorem asked_relist (s : State) (c : ChanId) (r : Reason) : Asked s (s.relist c r).1 c := by
  unfold State.relist
  split
  · exact .refl s c
  · split
    · dsimp only
      have hframe : adminFrame s { s.unlist c with
          sched := { (s.unlist c).sched with waitList := placeEntry (s.unlist c).sched.waitList ⟨c, r⟩ false } } :=
        ((adminFrame.refl s).sched _).sched _
      have hport (q : Port) : ({ s.unlist c with
          sched := { (s.unlist c).sched with waitList := placeEntry (s.unlist c).sched.waitList ⟨c, r⟩ false } } :
        State).port q = s.port q := by cases q <;> rfl
      refine ⟨fun d => ?_, fun d _ => chan_tellChannel _ c d,
        fun q hq => channel_latched_tellChannel (by rw [hport]; exact hq) c, hframe.tellChannel c⟩
      rw [chan_tellChannel]
      rfl
    · exact .refl s c

theorem asked_joinIf (s : State) (c : ChanId) (r : Reason) (atHead b : Bool) :
    Asked s (if b = true then s.join c r atHead else (s, .notTaken)).1 c := by
  cases b
  · exact .refl s c
  · exact asked_join s c r atHead

theorem asked_request (s : State) (c : ChanId) (r : Reason) (fromPause atHead : Bool) :
    Asked s (s.request c r fromPause atHead).1 c := by
  unfold State.request
  dsimp only
  split
  · exact .refl s c
  · exact .refl s c
  · exact .refl s c
  · exact asked_relist s c _
  · exact asked_join s c _ atHead
  · exact asked_joinIf s c _ atHead _
  · exact asked_joinIf s c _ atHead _

/-- A channel that is CLOSED, BOOTING or EXCHANGING takes no request (R99). -/
theorem request_of_skipped {s : State} {c : ChanId}
    (h : (s.chan c).state = .closed ∨ (s.chan c).state = .booting ∨ (s.chan c).renewal = .exchanging) (r : Reason)
    (fromPause atHead : Bool) : (s.request c r fromPause atHead).1 = s := by
  unfold State.request
  dsimp only
  rcases h with h | h | h
  · simp only [h]
  · simp only [h]
  · rw [h]
    cases (s.chan c).state <;> rfl

/-- An URGENT request for a LIVE or FROZEN channel that is IDLE, PAUSED or STOPPED finds room (R99). -/
theorem joinedList_request {s : State} {c : ChanId} {r : Reason}
    (hlive : (s.chan c).state = .live ∨ (s.chan c).state = .frozen)
    (hready : (s.chan c).renewal = .idle ∨ (s.chan c).renewal = .paused ∨ (s.chan c).renewal = .stopped)
    (hr : r.urgent = true) (hroom : s.sched.waitList.length < 31) :
    JoinedList s (s.request c r false false).1 c r false := by
  have hne {st : ChanState} (h1 : ChanState.live ≠ st) (h2 : ChanState.frozen ≠ st) : (s.chan c).state ≠ st := by
    rcases hlive with h | h <;> rw [h] <;> assumption
  rw [request_of_ready (hne nofun nofun) (hne nofun nofun) hready hr, if_neg (hne (st := .openWait) nofun nofun)]
  exact joinedList_join hroom c r false

/-! ### What a cutover keeps -/

/-- The ports' queues and enables, the settings, the owners and an idle core stay. -/
structure KeepsPorts (s t : State) : Prop where
  deliveries : ∀ q, (t.port q).deliveries = (s.port q).deliveries
  enables : ∀ q, (t.port q).enables = (s.port q).enables
  settings : t.settings = s.settings
  owner : ∀ d, (t.chan d).owner = (s.chan d).owner
  core : s.core = .idle → t.core = .idle

theorem KeepsPorts.trans {s t u : State} (h : KeepsPorts s t) (k : KeepsPorts t u) : KeepsPorts s u where
  deliveries q := (k.deliveries q).trans (h.deliveries q)
  enables q := (k.enables q).trans (h.enables q)
  settings := k.settings.trans h.settings
  owner d := (k.owner d).trans (h.owner d)
  core x := k.core (h.core x)

theorem idle_of_wipes (p : State → SlotId → Prop) [∀ s i, Decidable (p s i)] (l : List SlotId) {s : State}
    (h : s.core = .idle) : (l.foldl (fun s i => if p s i then s.wipe i else s) s).core = .idle := by
  induction l generalizing s with
  | nil => exact h
  | cons i l ih =>
    rw [List.foldl_cons]
    refine ih ?_
    have hwipe : (s.wipe i).core = .idle := by
      unfold State.wipe
      dsimp only
      split
      · exact h
      · split
        · exact h
        · simp only [State.abandonInto, State.modSlot_core, h]
    split
    · exact hwipe
    · exact h

theorem keepsPorts_wipeState (s : State) (c : ChanId) (st : SlotState) : KeepsPorts s (s.wipeState c st) := by
  have hframe := wipeState_frame s c st
  have hidle := fun h => idle_of_wipes (fun s i => (s.slot i).state = st ∧ (s.slot i).chan = some c) allSlots (s := s) h
  have hcore : s.core = .idle → (s.wipeState c st).core = .idle := hidle
  generalize s.wipeState c st = t at hframe hcore
  refine ⟨fun q => ?_, fun q => ?_, ?_, fun d => ?_, hcore⟩
  · have := congrArg (fun x : State => (x.port q).deliveries) hframe
    exact this
  · have := congrArg (fun x : State => (x.port q).enables) hframe
    exact this
  · have := congrArg State.settings hframe
    exact this
  · have := congrArg (fun x : State => (x.chan d).owner) hframe
    exact this

theorem keepsPorts_settleActive (s : State) (c : ChanId) : KeepsPorts s (settleActive s c) := by
  unfold settleActive
  split <;> exact ⟨fun _ => rfl, fun _ => rfl, rfl, fun _ => rfl, id⟩

theorem keepsPorts_tellChannel (s : State) (c : ChanId) : KeepsPorts s (s.tellChannel c) := by
  have htold := told_latchChannel s (s.chan c).owner.port
  have hchan (d : ChanId) := chan_tellChannel s c d
  refine ⟨deliveries_tellChannel s c, fun q => ?_, ?_, fun d => by rw [hchan], fun h => ?_⟩
  · rw [State.tellChannel, htold.port]
  · have := congrArg State.settings htold.frame
    exact this
  · have := congrArg State.core htold.frame
    exact Eq.trans this h

theorem keepsPorts_turnedOver (s : State) (c : ChanId) (new : SlotId) : KeepsPorts s (turnedOver s c new) := by
  have hwrite (u : State) : KeepsPorts u ((u.modSlot new Slot.activated).modChan c fun ch => ch.cutOver new) := by
    refine ⟨fun _ => rfl, fun _ => rfl, rfl, fun d => ?_, id⟩
    rw [State.chan_modChan]
    split
    next h => rw [h]; rfl
    next => rfl
  have hdrop (u : State) : KeepsPorts u (u.dropExch c) := ⟨fun _ => rfl, fun _ => rfl, rfl, fun _ => rfl, id⟩
  exact ((((keepsPorts_wipeState s c .settling).trans (keepsPorts_settleActive _ c)).trans (hwrite _)).trans
    (keepsPorts_tellChannel _ c)).trans (hdrop _)

theorem keepsPorts_reportTest (s : State) (b : Bool) : KeepsPorts s (s.reportTest b) := by
  have hframe := reportTest_frame s b
  refine ⟨fun q => ?_, fun q => ?_, ?_, fun d => ?_, fun h => ?_⟩
  · have := congrArg (fun x : State => (x.port q).deliveries) hframe
    exact this
  · have := congrArg (fun x : State => (x.port q).enables) hframe
    exact this
  · have := congrArg State.settings hframe
    exact this
  · have := congrArg (fun x : State => (x.chan d).owner) hframe
    exact this
  · have := congrArg State.core hframe
    exact Eq.trans this h

theorem keepsPorts_cutover (s : State) (c : ChanId) : KeepsPorts s (s.cutover c) := by
  rcases cutover_eq s c with ⟨-, e⟩ | ⟨new, -, e⟩
  · rw [e]
    exact ⟨fun _ => rfl, fun _ => rfl, rfl, fun _ => rfl, id⟩
  · rw [e]
    have hturned := keepsPorts_turnedOver s c new
    split
    · exact hturned.trans (keepsPorts_reportTest _ false)
    · exact hturned

end Sys2Proof.Proofs

/-! INBOUND_JOB_END (R62 to R69, R97, R29, R38). -/

namespace Sys2Proof.Proofs
open Sys2Proof.Machine

/-! ### Slots of a channel in states that agree -/

theorem slotOf_congr {s t : State} {c : ChanId} {st : SlotState}
    (h : ∀ j, ((t.slot j).state = st ∧ (t.slot j).chan = some c) ↔ ((s.slot j).state = st ∧ (s.slot j).chan = some c)) :
    t.slotOf c st = s.slotOf c st := by
  refine congrArg (fun p => allSlots.find? p) (funext fun j => ?_)
  have hiff : ((t.slot j).state == st && (t.slot j).chan == some c) = true
      ↔ ((s.slot j).state == st && (s.slot j).chan == some c) = true := by
    simpa using h j
  exact Bool.eq_iff_iff.2 hiff

theorem stagedSlot_congr {s t : State} {c : ChanId}
    (h : ∀ j, ((t.slot j).state = .staged ∧ (t.slot j).chan = some c)
      ↔ ((s.slot j).state = .staged ∧ (s.slot j).chan = some c))
    (hp : ∀ j, (s.slot j).state = .staged → (t.slot j).wipePending = (s.slot j).wipePending) :
    t.stagedSlot c = s.stagedSlot c := by
  unfold State.stagedSlot
  rw [slotOf_congr h]
  cases hs : s.slotOf c .staged with
  | none => rfl
  | some j =>
    have hj := hp j (state_of_slotOf hs).1
    simp only [Option.filter, hj]

/-! ### The end of the job's slot (R38) -/

theorem slot_modSlot_at (s : State) (i j : SlotId) (g : Slot → Slot) :
    (s.modSlot i g).slot j = if j = i then g (s.slot i) else s.slot j := by
  rw [State.slot_modSlot]
  split
  next e => rw [e]
  next => rfl

theorem slot_freed (s : State) (i j : SlotId) : (freed s i).slot j
    = if j = i then (if (s.slot i).wipePending then .wiped else { s.slot i with inFlight := false }) else s.slot j := by
  unfold freed
  split
  · exact slot_modSlot_at s i j fun _ => .wiped
  · exact slot_modSlot_at s i j fun x => { x with inFlight := false }

theorem freed_frame (s : State) (i : SlotId) :
    { freed s i with slots := s.slots, core := s.core, derivs := s.derivs } = s ∧ (freed s i).core = .idle := by
  unfold freed
  split <;> exact ⟨rfl, rfl⟩

/-- The end of a job's slot keeps what does not look at slots, core and derivations. -/
theorem freed_keeps {α : Type} (s : State) (i : SlotId) (g : State → α)
    (hg : ∀ (x : State) v d e, g { x with slots := v, core := d, derivs := e } = g x) : g (freed s i) = g s := by
  have := congrArg g (freed_frame s i).1
  rw [hg] at this
  exact this

theorem endJob_of_none {s : State} {i : SlotId} (hcore : s.core = .idle) (hstate : (s.slot i).state ≠ .empty)
    (hnone : ∀ e ∈ s.exch, e.cutoverWaits = false) : s.endJob i = freed s i := by
  rw [State.endJob, releaseSlot_eq hcore hstate]
  refine takeWaiting_of_none ?_
  have : (freed s i).exch = s.exch := by
    have := congrArg State.exch (freed_frame s i).1
    exact this
  rw [this]
  exact hnone

/-! ### Drops at the end of the job (R62, R63, R66) -/

theorem dropIn_eq {s : State} (h : 0 < s.pool.heldInbound) (f : InFrame) (d : Drop) : s.dropIn f d
    = State.countDrop
      { s with pool := { s.pool with heldInbound := s.pool.heldInbound - 1, free := s.pool.free + 1 } } f.trunk d := by
  rw [State.dropIn, giveBuf_inbound h]

/-- A dropped frame: the core is free, the buffer is back, the cause is counted, and the slot's job has ended. -/
def droppedIn (s : State) (f : InFrame) (i : SlotId) (d : Drop) : State :=
  State.countDrop { freed s i with
    pool := { s.pool with heldInbound := s.pool.heldInbound - 1, free := s.pool.free + 1 } } f.trunk d

theorem freed_countDrop (s : State) (i : SlotId) (p : Pool) (w : Trunk) (d : Drop) :
    freed (State.countDrop { s with core := .idle, pool := p } w d) i
      = State.countDrop { freed s i with pool := p } w d := by
  have hslot : (State.countDrop { s with core := .idle, pool := p } w d).slot i = s.slot i := by cases w <;> rfl
  unfold freed
  rw [hslot]
  split
  · cases w <;> rfl
  · cases w <;> rfl

theorem endJob_dropIn {s : State} {i : SlotId} (hstate : (s.slot i).state ≠ .empty) (h : 0 < s.pool.heldInbound)
    (hnone : ∀ e ∈ s.exch, e.cutoverWaits = false) (f : InFrame) (d : Drop) :
    (State.dropIn { s with core := .idle } f d).endJob i = droppedIn s f i d := by
  rw [dropIn_eq (s := { s with core := .idle }) h f d, endJob_of_none (State.modTrunk_core ..)
    (by cases f.trunk <;> exact hstate) (by cases f.trunk <;> exact hnone)]
  exact freed_countDrop s i _ f.trunk d

/-! ### Deliveries (R67, R68) -/

section
variable {s : State} {c : ChanId} {payload : List Byte} {pt : Port}

theorem deliver_of_room (ho : (s.chan c).owner.deliverTo = some pt) (hon : (s.port pt).enables.deliver = true)
    (hroom : (s.port pt).deliveries.length < 24) {v : View} (hv : s.settings.view pt = some v) :
    s.deliver c payload = s.modPort pt fun r => { r with
      deliveries := r.deliveries ++ [⟨v.localOf c.val, payload⟩], latches := { r.latches with delivery := true } } := by
  simp only [State.deliver, ho, hon, hv, Bool.true_eq_false, if_false, if_neg (Nat.not_le.2 hroom), Option.map_some,
    Option.getD_some]

theorem deliver_of_no_room (ho : (s.chan c).owner.deliverTo = some pt)
    (hno : (s.port pt).enables.deliver = false ∨ 24 ≤ (s.port pt).deliveries.length) :
    s.deliver c payload = (s.modPort pt fun r => { r with
      missed := if (s.port pt).enables.deliver = false then satIncr r.missed else r.missed }).overrun pt c := by
  simp only [State.deliver, ho]
  by_cases hoff : (s.port pt).enables.deliver = false
  · simp only [hoff, if_true]
  · have hfull := hno.resolve_left hoff
    simp only [hoff, if_pos hfull]
    cases pt <;> rfl

end

/-- What a hand-off to a port keeps: all but the pool, the fault unit and the ports, whose CHANNEL latches stay. -/
structure HandedOn (s t : State) : Prop where
  frame : { t with pool := s.pool, fault := s.fault, portG := s.portG, portP := s.portP, portM := s.portM } = s
  latched : ∀ q, (s.port q).latches.channel = true → (t.port q).latches.channel = true

theorem HandedOn.trans {s t u : State} (h : HandedOn s t) (k : HandedOn t u) : HandedOn s u where
  frame := by
    have := congrArg (fun x : State => { x with
      pool := s.pool, fault := s.fault, portG := s.portG, portP := s.portP, portM := s.portM }) k.frame
    exact Eq.trans this h.frame
  latched q x := k.latched q (h.latched q x)

theorem handedOn_modPort (s : State) (pt : Port) (g : PortRec → PortRec)
    (hg : ∀ r, r.latches.channel = true → (g r).latches.channel = true) : HandedOn s (s.modPort pt g) where
  frame := by cases pt <;> rfl
  latched q h := by
    rw [State.port_modPort]
    split
    next e => subst e; exact hg _ h
    next => exact h

theorem handedOn_giveBuf (s : State) (h : Holder) : HandedOn s (s.giveBuf h) := ⟨rfl, fun q => by cases q <;> exact id⟩

theorem handedOn_overrun (s : State) (pt : Port) (c : ChanId) : HandedOn s (s.overrun pt c) := by
  refine (handedOn_giveBuf s .inbound).trans ?_
  obtain ⟨u, b, h⟩ := raise_of_not_critical (s.giveBuf .inbound) (k := .deliveryOverrun) (by decide) (some c) none
    (some pt)
  rw [State.overrun, h]
  exact ⟨rfl, fun q => by cases q <;> exact id⟩

theorem handedOn_deliver (s : State) (c : ChanId) (payload : List Byte) : HandedOn s (s.deliver c payload) := by
  unfold State.deliver
  split
  · exact handedOn_giveBuf s .inbound
  · split
    · exact (handedOn_modPort s _ (fun r => { r with missed := satIncr r.missed }) fun _ => id).trans (handedOn_overrun ..)
    · split
      · exact handedOn_overrun ..
      · exact handedOn_modPort s _ _ fun _ => id

/-! ### The row -/

theorem exec_inboundJobEnd {s : State} {f : InFrame} {i : SlotId} (hcore : s.core = .inbound f i) :
    exec .inboundJobEnd s = .next (State.inEnds { s with core := .idle } f i).rest := by
  have hexec : exec .inboundJobEnd s = execInboundJobEnd s := rfl
  rw [hexec]
  simp only [execInboundJobEnd, hcore]

section
variable {s : State} {f : InFrame} {i : SlotId}

theorem passes_iff (f : InFrame) (k : Slot) : f.passes k = true ↔ frameTag k.tagKey f.header f.payload = f.auth := by
  simp [InFrame.passes]

theorem inEnds_of_fails (h : ¬ frameTag (s.slot i).tagKey f.header f.payload = f.auth) :
    s.inEnds f i = ((s.dropIn f .tag).tagFailure f.chan).endJob i :=
  if_neg fun x => h ((passes_iff f _).1 x)

theorem inEnds_of_wipes (h : frameTag (s.slot i).tagKey f.header f.payload = f.auth)
    (hw : (s.slot i).wipePending = true) : s.inEnds f i = (s.dropIn f .unknownEpoch).endJob i := by
  simp only [State.inEnds, (passes_iff f _).2 h, if_true, hw]

theorem inEnds_of_passes (h : frameTag (s.slot i).tagKey f.header f.payload = f.auth)
    (hw : ¬ (s.slot i).wipePending = true) {k : Keyed} (hk : (s.slot i).keyed = some k) :
    s.inEnds f i = s.passed f i k := by
  simp only [State.inEnds, (passes_iff f _).2 h, if_true, Bool.eq_false_iff.2 hw, hk]

/-- The number is in the window of the slot (R64 step 2). -/
def windowed (s : State) (i : SlotId) (k : Keyed) (n : Nat) : State :=
  State.modSlot { s with core := .idle } i fun x => { x with keyed := some (k.record n) }

theorem slot_windowed (s : State) (i j : SlotId) (k : Keyed) (n : Nat) : (windowed s i k n).slot j
    = if j = i then { s.slot i with keyed := some (k.record n) } else s.slot j :=
  slot_modSlot_at { s with core := .idle } i j fun x => { x with keyed := some (k.record n) }

theorem passed_of_accept {k : Keyed} (hj : k.judge f.seq = .accept) :
    State.passed { s with core := .idle } f i k
      = (State.endJob (if (s.slot i).state = .staged then (windowed s i k f.seq).cutover f.chan
          else windowed s i k f.seq) i).handOff f (f.deciphered (s.slot i)) := by
  simp only [State.passed, hj, beq_iff_eq]
  rfl

/-- The state that a record leaves where no cutover follows it. -/
def recordedAt (s : State) (i : SlotId) (k : Keyed) (n : Nat) : State :=
  { s.modSlot i fun x => { x with keyed := some (k.record n), inFlight := false } with core := .idle }

theorem freed_windowed {k : Keyed} (hw : ¬ (s.slot i).wipePending = true) (n : Nat) :
    freed (windowed s i k n) i = recordedAt s i k n := by
  have hp : ((windowed s i k n).slot i).wipePending = (s.slot i).wipePending := by
    rw [slot_windowed, if_pos rfl]
  rw [freed, hp, if_neg hw, windowed, modSlot_modSlot]
  rfl

/-- A passing tag of a slot in use ends in the hand-off of the recorded frame. -/
theorem inEnds_of_inUse {k : Keyed} (h : frameTag (s.slot i).tagKey f.header f.payload = f.auth)
    (hw : ¬ (s.slot i).wipePending = true) (hk : (s.slot i).keyed = some k) (hj : k.judge f.seq = .accept)
    (huse : (s.slot i).state = .active ∨ (s.slot i).state = .settling)
    (hnone : ∀ e ∈ s.exch, e.cutoverWaits = false) : State.inEnds { s with core := .idle } f i
      = (recordedAt s i k f.seq).handOff f (f.deciphered (s.slot i)) := by
  have hstaged : (s.slot i).state ≠ .staged := by rcases huse with e | e <;> rw [e] <;> nofun
  have hempty : ((windowed s i k f.seq).slot i).state ≠ .empty := by
    rw [slot_windowed, if_pos rfl]
    rcases huse with e | e <;> exact fun x => by cases e.symm.trans x
  have hpass := inEnds_of_passes (s := { s with core := .idle }) h hw hk
  rw [hpass, passed_of_accept hj, if_neg hstaged, endJob_of_none rfl hempty hnone, freed_windowed hw]

/-! ### The cutover by the first frame under a STAGED slot (R65) -/

/-- The part at the end of a job whose frame was the first under the STAGED slot `i` (R65, R28). -/
structure CutIn (s t : State) (f : InFrame) (i : SlotId) (k : Keyed) : Prop where
  keeps : KeepsPorts s t
  core : t.core = .idle
  slot : t.slot i = { s.slot i with
    state := .active, inFlight := false, keyed := some { k.record f.seq with age := 0, nextSeq := 1 } }
  old : ∀ j, s.slotOf f.chan .active = some j →
    t.slot j = { s.slot j with state := .settling, settle := some (s.uptime + s.settings.settle) }
  chan : t.chan f.chan = (s.chan f.chan).cutOver i
  exch : t.exch = s.exch.filter fun x => x.chan ≠ f.chan
  latched : (t.port (s.chan f.chan).owner.port).latches.channel = true
  quiet : ¬ (f.chan = 0 ∧ (s.chan f.chan).state = .frozen) → t.srcControl = s.srcControl ∧ t.pool = s.pool

theorem cutIn_of_staged {k : Keyed} (hw : ¬ (s.slot i).wipePending = true) (hst : (s.slot i).state = .staged)
    (hstaged : s.stagedSlot f.chan = some i) (hnone : ∀ e ∈ s.exch, e.cutoverWaits = false) :
    CutIn s (((windowed s i k f.seq).cutover f.chan).endJob i) f i k := by
  have hstate (j : SlotId) : ((windowed s i k f.seq).slot j).state = (s.slot j).state
      ∧ ((windowed s i k f.seq).slot j).chan = (s.slot j).chan
      ∧ ((windowed s i k f.seq).slot j).wipePending = (s.slot j).wipePending := by
    rw [slot_windowed]
    split
    next e => rw [e]; exact ⟨rfl, rfl, rfl⟩
    next => exact ⟨rfl, rfl, rfl⟩
  have hagree (st : SlotState) (j : SlotId) : ((windowed s i k f.seq).slot j).state = st
      ∧ ((windowed s i k f.seq).slot j).chan = some f.chan ↔ (s.slot j).state = st ∧ (s.slot j).chan = some f.chan := by
    rw [(hstate j).1, (hstate j).2.1]
  have hactive : (windowed s i k f.seq).slotOf f.chan .active = s.slotOf f.chan .active := slotOf_congr (hagree .active)
  have hnew : (windowed s i k f.seq).stagedSlot f.chan = some i := by
    rw [stagedSlot_congr (hagree .staged) fun j _ => (hstate j).2.2, hstaged]
  have hslots (j : SlotId) := slot_windowed s i j k f.seq
  have hchan (d : ChanId) : (windowed s i k f.seq).chan d = s.chan d := rfl
  have hexch : (windowed s i k f.seq).exch = s.exch := rfl
  have hsrc : (windowed s i k f.seq).srcControl = s.srcControl := rfl
  have hpool : (windowed s i k f.seq).pool = s.pool := rfl
  have hclock : (windowed s i k f.seq).uptime = s.uptime ∧ (windowed s i k f.seq).settings = s.settings := ⟨rfl, rfl⟩
  have hkeep : KeepsPorts s (windowed s i k f.seq) := ⟨fun _ => rfl, fun _ => rfl, rfl, fun _ => rfl, fun _ => rfl⟩
  have hidle : (windowed s i k f.seq).core = .idle := rfl
  generalize windowed s i k f.seq = a at *
  have hkeep' := keepsPorts_cutover a f.chan
  obtain ⟨htslot, htchan, htexch, htlatched, htquiet, -⟩ := cutover_turns hnew
  have hslot (j : SlotId) := (htslot j).trans (slot_of_cutover hnew j)
  have hi : (a.cutover f.chan).slot i = { s.slot i with
      state := .active, keyed := some { k.record f.seq with age := 0, nextSeq := 1 } } := by
    rw [hslot, if_pos rfl, hslots, if_pos rfl]
    rfl
  generalize a.cutover f.chan = b at *
  have hbnone : ∀ e ∈ b.exch, e.cutoverWaits = false := by
    rw [htexch, hexch]
    exact fun e he => hnone e (List.mem_filter.1 he).1
  have hbend : b.endJob i = freed b i := endJob_of_none (hkeep'.core hidle) (by rw [hi]; nofun) hbnone
  have hfcore := (freed_frame b i).2
  have hfslot := slot_freed b i
  have hrest {α : Type} (g : State → α) := freed_keeps b i g
  rw [hbend]
  generalize freed b i = u at *
  refine ⟨(hkeep.trans hkeep').trans ⟨fun q => ?_, fun q => ?_, ?_, fun d => ?_, fun _ => hfcore⟩, hfcore, ?_, fun j hj => ?_,
    ?_, ?_, ?_, fun hno => ⟨?_, ?_⟩⟩
  · exact hrest (fun x => (x.port q).deliveries) fun _ _ _ _ => rfl
  · exact hrest (fun x => (x.port q).enables) fun _ _ _ _ => rfl
  · exact hrest State.settings fun _ _ _ _ => rfl
  · exact hrest (fun x => (x.chan d).owner) fun _ _ _ _ => rfl
  · have hpending : (b.slot i).wipePending = (s.slot i).wipePending := by rw [hi]
    rw [hfslot, if_pos rfl, hpending, if_neg hw, hi]
  · have hne : j ≠ i := by
      rintro rfl
      rw [(state_of_slotOf hj).1] at hst
      cases hst
    rw [hfslot, if_neg hne, hslot, if_neg hne, hactive, if_pos hj, hslots, if_neg hne, hclock.1, hclock.2]
    rfl
  · rw [hrest (fun x => x.chan f.chan) fun _ _ _ _ => rfl, htchan, if_pos rfl, hchan]
  · rw [hrest State.exch fun _ _ _ _ => rfl, htexch, hexch]
  · rw [hrest (fun x => (x.port (s.chan f.chan).owner.port).latches.channel) fun _ _ _ _ => rfl]
    rw [hchan] at htlatched
    exact htlatched
  · rw [hrest State.srcControl fun _ _ _ _ => rfl, (htquiet (by rw [hchan]; exact hno)).2.1, hsrc]
  · rw [hrest State.pool fun _ _ _ _ => rfl, (htquiet (by rw [hchan]; exact hno)).2.2, hpool]

/-- What a hand-off leaves of the cutover before it. -/
theorem CutIn.handedOn {t u : State} {k : Keyed} (h : CutIn s t f i k) (g : HandedOn t u) :
    u.core = .idle ∧ (∀ j, u.slot j = t.slot j) ∧ u.chan f.chan = (s.chan f.chan).cutOver i
    ∧ u.exch = s.exch.filter (fun x => x.chan ≠ f.chan)
    ∧ (u.port (s.chan f.chan).owner.port).latches.channel = true := by
  refine ⟨?_, fun j => ?_, ?_, ?_, g.latched _ h.latched⟩
  · have := congrArg State.core g.frame
    exact Eq.trans this h.core
  · have := congrArg (State.slot · j) g.frame
    exact this
  · have := congrArg (State.chan · f.chan) g.frame
    exact Eq.trans this h.chan
  · have := congrArg State.exch g.frame
    exact Eq.trans this h.exch

/-! ### A cutover that waited for the job's slot (R29) -/

/-- The cutover of an exchange whose SETTLING slot no longer carries a job. -/
theorem waiting_taken {u : State} {e : Exchange} {new : SlotId} {y : Keyed}
    (hfind : (u.exch.find? fun x => x.cutoverWaits) = some e) (hothers : ∀ j, j ≠ i → u.slot j = s.slot j)
    (hfly : ∀ j, j ≠ i → (s.slot j).inFlight = false)
    (hi : u.slot i = .wiped ∨ ((u.slot i).state = .settling ∧ (u.slot i).chan = some e.chan ∧ (u.slot i).inFlight = false))
    (hst : (s.slot i).state = .settling) (hnew : s.stagedSlot e.chan = some new) (hy : (s.slot new).keyed = some y) :
    u.takeWaiting.slot i = .wiped
      ∧ u.takeWaiting.slot new
        = { s.slot new with state := .active, keyed := some { y with age := 0, nextSeq := 1 } }
      ∧ (u.takeWaiting.chan e.chan).cur = some new ∧ u.takeWaiting.exch = u.exch.filter (fun x => x.chan ≠ e.chan)
      ∧ KeepsPorts u u.takeWaiting ∧ (e.chan ≠ 0 → u.takeWaiting.pool = u.pool) := by
  have hne : i ≠ new := by
    rintro rfl
    rw [(state_of_stagedSlot hnew).1] at hst
    cases hst
  have hfree : u.settlingBusy e.chan = false := by
    refine List.any_eq_false.2 fun j _ hj => ?_
    have hquiet : (u.slot j).inFlight = false := by
      by_cases hji : j = i
      · subst hji
        rcases hi with h | ⟨-, -, h⟩
        · rw [h]; rfl
        · exact h
      · rw [hothers j hji]
        exact hfly j hji
    rw [hquiet, Bool.and_false] at hj
    cases hj
  have hui : (u.slot i).state ≠ .staged := by
    rcases hi with h | ⟨h, -⟩
    · rw [h]; nofun
    · rw [h]; nofun
  have hnew' : u.stagedSlot e.chan = some new := by
    rw [← hnew]
    refine stagedSlot_congr (fun j => ?_) fun j hj => ?_
    · by_cases hji : j = i
      · subst hji
        exact ⟨fun h => absurd h.1 hui, fun h => by rw [hst] at h; cases h.1⟩
      · rw [hothers j hji]
    · have hji : j ≠ i := by rintro rfl; rw [hst] at hj; cases hj
      rw [hothers j hji]
  have htake : u.takeWaiting = u.cutover e.chan := by
    simp only [State.takeWaiting, hfind, hfree, Bool.false_eq_true, if_false]
  have hkeep := keepsPorts_cutover u e.chan
  obtain ⟨htslot, htchan, htexch, -, htquiet, -⟩ := cutover_turns hnew'
  have hslot (j : SlotId) := (htslot j).trans (slot_of_cutover hnew' j)
  rw [htake]
  generalize u.cutover e.chan = t at *
  refine ⟨?_, ?_, ?_, htexch, hkeep, fun h => (htquiet fun h' => h h'.1).2.2⟩
  · have hact : u.slotOf e.chan .active ≠ some i := fun h => by
      have hia := (state_of_slotOf h).1
      rcases hi with h | ⟨h, -⟩
      · rw [h] at hia; cases hia
      · rw [h] at hia; cases hia
    rw [hslot, if_neg hne, if_neg hact]
    rcases hi with h | ⟨hs, hc, hf⟩
    · rw [h]
      exact if_neg fun x => by cases x.1
    · rw [if_pos ⟨hs, hc⟩, wipeOrdered, if_neg (by rw [hs]; nofun), hf]
      rfl
  · rw [hslot, if_pos rfl, hothers new hne.symm, Slot.activated, hy]
    rfl
  · rw [htchan, if_pos rfl]
    rfl

/-! ### Tag failures (R97) -/

theorem modChan_congr (s : State) {c : ChanId} {g h : Chan → Chan} (e : g (s.chan c) = h (s.chan c)) :
    s.modChan c g = s.modChan c h :=
  congrArg (fun x => { s with chans := s.chans.set c.val x }) e

theorem tagFailure_of_low {u : State} {c : ChanId} (h : (u.chan c).bucket < 15) :
    u.tagFailure c = u.modChan c fun ch => { ch with bucket := ch.bucket + 1 } := by
  have hn : min ((u.chan c).bucket + 1) 255 = (u.chan c).bucket + 1 := Nat.min_eq_left (by omega)
  unfold State.tagFailure
  dsimp only
  rw [hn, if_neg (by omega)]
  exact modChan_congr u rfl

theorem tagFailure_of_high {u : State} {c : ChanId} (h : 15 ≤ (u.chan c).bucket) : u.tagFailure c
    = (((u.modChan c fun ch => { ch with bucket := 0 }).raise .tagFailures (some c)).request c .suspect).1 :=
  if_pos (by omega)

/-- The part after a tag failure that filled the bucket of the channel (R97). -/
structure Suspected (s t : State) (f : InFrame) (i : SlotId) : Prop where
  latched : FaultKind.tagFailures ∈ t.fault.latches
  core : t.core = .idle
  pool : t.pool = { s.pool with heldInbound := s.pool.heldInbound - 1, free := s.pool.free + 1 }
  slot : ∀ j, t.slot j = (freed s i).slot j
  others : ∀ d, d ≠ f.chan → t.chan d = s.chan d
  trunk : t.trunk f.trunk = { s.trunk f.trunk with counters := (s.trunk f.trunk).counters.bump .tag }
  listed : (s.chan f.chan).state = .live ∨ (s.chan f.chan).state = .frozen →
    (s.chan f.chan).renewal = .idle ∨ (s.chan f.chan).renewal = .paused ∨ (s.chan f.chan).renewal = .stopped →
    s.sched.waitList.length < 31 →
    t.chan f.chan = { s.chan f.chan with bucket := 0, renewal := .listed, pause := none, pauseReason := none }
    ∧ t.sched.waitList = (s.sched.waitList.filter fun e => e.reason.urgent)
      ++ ⟨f.chan, .suspect⟩ :: s.sched.waitList.filter fun e => !e.reason.urgent
  skipped : (s.chan f.chan).state = .closed ∨ (s.chan f.chan).state = .booting
      ∨ (s.chan f.chan).renewal = .exchanging →
    t.chan f.chan = { s.chan f.chan with bucket := 0 } ∧ t.sched = s.sched

theorem freed_of_slots {s t : State} (h : t.slots = s.slots) (i j : SlotId) : (freed t i).slot j = (freed s i).slot j := by
  have hslot (j : SlotId) : t.slot j = s.slot j := by simp only [State.slot, h]
  rw [slot_freed, slot_freed, hslot, hslot]

theorem suspected_of_high (hstate : (s.slot i).state ≠ .empty) (h : 0 < s.pool.heldInbound)
    (hnone : ∀ e ∈ s.exch, e.cutoverWaits = false) (hb : 15 ≤ (s.chan f.chan).bucket) :
    Suspected s (((State.dropIn { s with core := .idle } f .tag).tagFailure f.chan).endJob i) f i := by
  have hdrop := dropIn_eq (s := { s with core := .idle }) h f .tag
  generalize hu : State.dropIn { s with core := .idle } f .tag = u at hdrop
  have hfields : u.slots = s.slots ∧ u.chans = s.chans ∧ u.exch = s.exch ∧ u.sched = s.sched ∧ u.core = .idle
      ∧ u.pool = { s.pool with heldInbound := s.pool.heldInbound - 1, free := s.pool.free + 1 }
      ∧ u.trunk f.trunk = { s.trunk f.trunk with counters := (s.trunk f.trunk).counters.bump .tag } := by
    rw [hdrop]
    cases f.trunk <;> exact ⟨rfl, rfl, rfl, rfl, rfl, rfl, rfl⟩
  obtain ⟨hslots, hchans, hexch, hsched, hcore, hpool, htrunk⟩ := hfields
  have hchan (d : ChanId) : u.chan d = s.chan d := by simp only [State.chan, hchans]
  rw [tagFailure_of_high (by rw [hchan]; exact hb)]
  obtain ⟨fu, b, hraise⟩ := raise_of_not_critical (u.modChan f.chan fun ch => { ch with bucket := 0 })
    (k := .tagFailures) (by decide) (some f.chan) none none
  have hlatch : FaultKind.tagFailures
      ∈ ((u.modChan f.chan fun ch => { ch with bucket := 0 }).raise .tagFailures (some f.chan)).fault.latches :=
    (mem_latches_raise ..).2 (.inr rfl)
  have hwchan (d : ChanId) : ((u.modChan f.chan fun ch => { ch with bucket := 0 }).raise .tagFailures (some f.chan)).chan d
      = if d = f.chan then { s.chan d with bucket := 0 } else s.chan d := by
    rw [hraise]
    refine (State.chan_modChan u f.chan d fun ch => { ch with bucket := 0 }).trans ?_
    rw [hchan]
  have hwframe : { (u.modChan f.chan fun ch => { ch with bucket := 0 }).raise .tagFailures (some f.chan) with
      chans := u.chans, fault := u.fault, portM := u.portM } = u := by
    rw [hraise]
    rfl
  generalize (u.modChan f.chan fun ch => { ch with bucket := 0 }).raise .tagFailures (some f.chan) = w at *
  have hwsched : w.sched = s.sched := by
    have := congrArg State.sched hwframe
    exact Eq.trans this hsched
  have hown : w.chan f.chan = { s.chan f.chan with bucket := 0 } := by rw [hwchan, if_pos rfl]
  obtain ⟨-, hothers, -, hframe⟩ := asked_request w f.chan .suspect false false
  have hready := fun hlive hready hroom => joinedList_request (s := w) (c := f.chan) (r := .suspect)
    (by rw [hown]; exact hlive) (by rw [hown]; exact hready) rfl (by rw [hwsched]; exact hroom)
  have hskip := fun hskip => request_of_skipped (s := w) (c := f.chan) (by rw [hown]; exact hskip) .suspect false false
  generalize (w.request f.chan .suspect false false).1 = r at *
  have hkeep {α : Type} (g : State → α) (h1 : ∀ (x : State) a b c d e,
      g { x with chans := a, sched := b, portG := c, portP := d, portM := e } = g x)
      (h2 : ∀ (x : State) a b c, g { x with chans := a, fault := b, portM := c } = g x) : g r = g u := by
    have e1 := congrArg g hframe
    have e2 := congrArg g hwframe
    rw [h1] at e1
    rw [h2] at e2
    exact e1.trans e2
  have hrslots : r.slots = s.slots := (hkeep State.slots (fun _ _ _ _ _ _ => rfl) fun _ _ _ _ => rfl).trans hslots
  have hend : r.endJob i = freed r i := by
    refine endJob_of_none ((hkeep State.core (fun _ _ _ _ _ _ => rfl) fun _ _ _ _ => rfl).trans hcore) ?_ ?_
    · simp only [State.slot, hrslots]
      exact hstate
    · rw [(hkeep State.exch (fun _ _ _ _ _ _ => rfl) fun _ _ _ _ => rfl).trans hexch]
      exact hnone
  have hfcore := (freed_frame r i).2
  have hrest {α : Type} (g : State → α) := freed_keeps r i g
  rw [hend]
  have hfslot := freed_of_slots hrslots i
  generalize freed r i = t at *
  have htchan (d : ChanId) : t.chan d = r.chan d := hrest (State.chan · d) fun _ _ _ _ => rfl
  have htsched : t.sched = r.sched := hrest State.sched fun _ _ _ _ => rfl
  refine ⟨?_, hfcore, ?_, hfslot, fun d hd => ?_, ?_, fun hlive hidle hroom => ?_, fun hs => ?_⟩
  · rw [hrest State.fault fun _ _ _ _ => rfl]
    have : r.fault = w.fault := by
      have := congrArg State.fault hframe
      exact this
    rw [this]
    exact hlatch
  · rw [hrest State.pool fun _ _ _ _ => rfl, hkeep State.pool (fun _ _ _ _ _ _ => rfl) fun _ _ _ _ => rfl, hpool]
  · rw [htchan, hothers d hd, hwchan, if_neg hd]
  · rw [hrest (State.trunk · f.trunk) fun _ _ _ _ => rfl,
      hkeep (State.trunk · f.trunk) (fun _ _ _ _ _ _ => rfl) fun _ _ _ _ => rfl, htrunk]
  · obtain ⟨hjown, -, hlist, -⟩ := hready hlive hidle hroom
    refine ⟨?_, ?_⟩
    · rw [htchan, hjown, hown]
    · rw [htsched, hlist, hwsched, placeEntry_urgent rfl]
  · have hrw := hskip hs
    rw [htchan, htsched, hrw, hown, hwsched]
    exact ⟨rfl, rfl⟩

end

theorem endJob_tagFailure_low {s : State} {f : InFrame} {i : SlotId} (hstate : (s.slot i).state ≠ .empty)
    (h : 0 < s.pool.heldInbound) (hnone : ∀ e ∈ s.exch, e.cutoverWaits = false) (hb : (s.chan f.chan).bucket < 15) :
    ((State.dropIn { s with core := .idle } f .tag).tagFailure f.chan).endJob i
      = (droppedIn s f i .tag).modChan f.chan fun ch => { ch with bucket := ch.bucket + 1 } := by
  have hdrop := dropIn_eq (s := { s with core := .idle }) h f .tag
  have hchan : (State.dropIn { s with core := .idle } f .tag).chan f.chan = s.chan f.chan := by
    rw [hdrop]
    cases f.trunk <;> rfl
  have hmod (u : State) (c : ChanId) (g : Chan → Chan) : freed (u.modChan c g) i = (freed u i).modChan c g := by
    have hslot : (u.modChan c g).slot i = u.slot i := rfl
    unfold freed
    rw [hslot]
    split <;> rfl
  rw [tagFailure_of_low (by rw [hchan]; exact hb), hdrop]
  rw [endJob_of_none (State.modTrunk_core ..) (by cases f.trunk <;> exact hstate)
    (by cases f.trunk <;> exact hnone), hmod]
  exact congrArg (State.modChan · f.chan _) (freed_countDrop s i _ f.trunk .tag)

/-- A dropped frame's job, before a waiting cutover. -/
theorem releasedDrop {s : State} {i : SlotId} (hstate : (s.slot i).state ≠ .empty) (h : 0 < s.pool.heldInbound)
    (f : InFrame) (d : Drop) :
    (State.dropIn { s with core := .idle } f d).endJob i = (droppedIn s f i d).takeWaiting
      ∧ (droppedIn s f i d).core = .idle ∧ (∀ j, (droppedIn s f i d).slot j = (freed s i).slot j)
      ∧ (droppedIn s f i d).exch = s.exch
      ∧ (droppedIn s f i d).pool
        = { s.pool with heldInbound := s.pool.heldInbound - 1, free := s.pool.free + 1 }
      ∧ ∀ q, ((droppedIn s f i d).port q).deliveries = (s.port q).deliveries := by
  refine ⟨?_, ?_, fun j => ?_, ?_, ?_, fun q => ?_⟩
  · rw [dropIn_eq (s := { s with core := .idle }) h f d, State.endJob, releaseSlot_eq (State.modTrunk_core ..)
      (by cases f.trunk <;> exact hstate)]
    exact congrArg State.takeWaiting (freed_countDrop s i _ f.trunk d)
  · rw [droppedIn, State.countDrop, State.modTrunk_core]
    exact (freed_frame s i).2
  · rw [droppedIn]
    cases f.trunk <;> rfl
  · have := congrArg State.exch (freed_frame s i).1
    rw [droppedIn, State.countDrop, State.modTrunk_exch]
    exact this
  · rw [droppedIn, State.countDrop, State.modTrunk_pool]
  · have := congrArg (fun x : State => (x.port q).deliveries) (freed_frame s i).1
    rw [droppedIn]
    cases f.trunk <;> exact this

/-- Settles O51: drops, hand-offs, tag failures and cutovers, each by the verdict on the frame. -/
theorem inboundJobEndDeliversOrDrops : Obligations.InboundJobEndDeliversOrDrops := by
  intro s f i k hcore hkeyed hstate hheld noneWaits up passes wipes inUse returned plain recorded turned dropped
  have hexec := exec_inboundJobEnd hcore
  have hdropped (d : Drop) : droppedIn s f i d = dropped fun n => n.bump d := by
    unfold droppedIn freed dropped
    split <;> rfl
  have huse (hw : ¬ wipes) (hu : inUse) (hp : passes) (hj : k.judge f.seq = .accept) (hn : noneWaits) :
      exec .inboundJobEnd s = .next (recorded.handOff f plain).rest := by
    rw [hexec, inEnds_of_inUse hp hw hkeyed hj hu hn]
    rfl
  have hgive : recorded.giveBuf .inbound = { recorded with pool := returned } := giveBuf_inbound (s := recorded) hheld
  have hturned {t u : State} (h : CutIn s t f i k) (g : HandedOn t u) : turned u := by
    obtain ⟨hc, hslot, hchan, hexch, hlatch⟩ := h.handedOn g
    refine ⟨hc, by rw [hslot, h.slot], fun old hold => by rw [hslot, h.old old hold], ?_, ?_, ?_, ?_, ?_, hexch, hlatch⟩
    all_goals rw [hchan]; rfl
  have hstaged (hw : ¬ wipes) (hp : passes) (hj : k.judge f.seq = .accept) (hst : (s.slot i).state = .staged) :
      exec .inboundJobEnd s
        = .next ((((windowed s i k f.seq).cutover f.chan).endJob i).handOff f plain).rest := by
    rw [hexec, inEnds_of_passes (s := { s with core := .idle }) hp hw hkeyed, passed_of_accept hj, if_pos hst]
    rfl
  clear_value turned
  refine ⟨fun hn => ⟨?_, ?_, ?_, ?_, ?_, ?_, ?_, ?_, ?_, ?_⟩, ?_⟩
  · intro pt v hw hu hp hj hk ho hon hroom hv
    rw [huse hw hu hp hj hn, State.handOff, if_pos hk,
      deliver_of_room (s := recorded) ho (by cases pt <;> exact hon) (by cases pt <;> exact hroom) hv]
  · intro pt hw hu hp hj hk ho off hno
    rw [huse hw hu hp hj hn, State.handOff, if_pos hk, deliver_of_no_room (s := recorded) ho (by cases pt <;> exact hno)]
    rw [State.overrun, giveBuf_inbound (by cases pt <;> exact hheld)]
    cases pt <;> rfl
  · intro hw hu hp hj hk
    rw [huse hw hu hp hj hn, State.handOff, if_neg hk, hgive]
  · intro hw hp hj
    rw [hexec, inEnds_of_passes (s := { s with core := .idle }) hp hw hkeyed]
    simp only [State.passed, hj]
    rw [endJob_dropIn hstate hheld hn, hdropped]
    rfl
  · intro hw hp hj
    rw [hexec, inEnds_of_passes (s := { s with core := .idle }) hp hw hkeyed]
    simp only [State.passed, hj]
    rw [endJob_dropIn hstate hheld hn, hdropped]
    rfl
  · intro hw hp
    rw [hexec, inEnds_of_wipes (s := { s with core := .idle }) hp hw, endJob_dropIn hstate hheld hn, hdropped]
    rfl
  · intro hp hb
    rw [hexec, inEnds_of_fails (s := { s with core := .idle }) hp, endJob_tagFailure_low hstate hheld hn hb, hdropped]
    rfl
  · intro hp hb
    obtain ⟨hlatch, hidle, hpool, hslot, hothers, htrunk, hlisted, hskipped⟩ := suspected_of_high hstate hheld hn hb
    have hown : (dropped id).slot i = (freed s i).slot i := by
      unfold dropped freed
      cases f.trunk <;> split <;> rfl
    refine ⟨_, by rw [hexec, inEnds_of_fails (s := { s with core := .idle }) hp], hlatch, hidle, hpool,
      by rw [hslot, hown], fun j hj => by rw [hslot, slot_freed, if_neg hj], hothers, htrunk, hlisted, hskipped⟩
  · intro hw hp hj hk hst hsl
    have hcut := cutIn_of_staged (k := k) hw hst hsl hn
    rw [hstaged hw hp hj hst, State.handOff, if_pos hk]
    generalize ((windowed s i k f.seq).cutover f.chan).endJob i = t at *
    refine ⟨_, rfl, hturned hcut (handedOn_deliver ..), fun pt v ho hon hroom hv => ?_⟩
    obtain ⟨hdel, hen, hset, hown, -⟩ := hcut.keeps
    rw [deliver_of_room (by rw [hown]; exact ho) (by rw [hen]; exact hon) (by rw [hdel]; exact hroom)
      (by rw [hset]; exact hv)]
    refine ⟨?_, ?_, fun h0 => ?_⟩
    · rw [State.port_modPort, if_pos rfl, hdel]
    · rw [State.port_modPort, if_pos rfl]
    · rw [State.modPort_pool]
      exact (hcut.quiet fun h => h0 h.1).2
  · intro hw hp hj hk hst hsl
    have hcut := cutIn_of_staged (k := k) hw hst hsl hn
    rw [hstaged hw hp hj hst, State.handOff, if_neg hk]
    generalize ((windowed s i k f.seq).cutover f.chan).endJob i = t at *
    refine ⟨_, rfl, hturned hcut (handedOn_giveBuf t .inbound), fun hno => ?_⟩
    obtain ⟨hsrc, hpool⟩ := hcut.quiet hno
    rw [giveBuf_inbound (by rw [hpool]; exact hheld), hpool]
    exact ⟨rfl, hsrc⟩
  · intro e new y pt v hp hst hch hfind hnew hy hfly hj hk ho hon hroom hv
    have hne : (s.slot i).state ≠ .empty := hstate
    by_cases hw : wipes
    · obtain ⟨hends, hidle, hslot, hexch, hpool, hdel⟩ := releasedDrop hne hheld f .unknownEpoch
      obtain ⟨hti, htnew, htcur, htexch, htkeep, htpool⟩ := waiting_taken (s := s) (i := i)
        (u := droppedIn s f i .unknownEpoch) (by rw [hexch]; exact hfind)
        (fun j hji => by rw [hslot, slot_freed, if_neg hji]) hfly
        (.inl (by rw [hslot, slot_freed, if_pos rfl]; exact if_pos hw)) hst hnew hy
      refine ⟨_, by rw [hexec, inEnds_of_wipes (s := { s with core := .idle }) hp hw, hends], htkeep.core hidle, hti,
        htnew, htcur, htexch.trans (by rw [hexch]), ?_, fun _ h0 => (htpool h0).trans hpool⟩
      rw [htkeep.deliveries, hdel, if_pos hw, List.append_nil]
    · have hslot (j : SlotId) : (recordedAt s i k f.seq).slot j
          = if j = i then { s.slot i with keyed := some (k.record f.seq), inFlight := false } else s.slot j :=
        slot_modSlot_at s i j fun x => { x with keyed := some (k.record f.seq), inFlight := false }
      obtain ⟨hti, htnew, htcur, htexch, htkeep, -⟩ := waiting_taken (s := s) (i := i) (u := recordedAt s i k f.seq)
        hfind (fun j hji => by rw [hslot, if_neg hji]) hfly
        (.inr (by rw [hslot, if_pos rfl]; exact ⟨hst, hch, rfl⟩)) hst hnew hy
      have hends : (windowed s i k f.seq).endJob i = (recordedAt s i k f.seq).takeWaiting := by
        rw [State.endJob, releaseSlot_eq rfl (by rw [slot_windowed, if_pos rfl]; exact hne), freed_windowed hw]
      rw [hexec, inEnds_of_passes (s := { s with core := .idle }) hp hw hkeyed, passed_of_accept (hj hw),
        if_neg (by rw [hst]; nofun), hends, State.handOff, if_pos hk]
      obtain ⟨hdel, hen, hset, hown, hidle⟩ := htkeep
      replace hidle := hidle rfl
      generalize (recordedAt s i k f.seq).takeWaiting = t at *
      have hhand := handedOn_deliver t f.chan (f.deciphered (s.slot i))
      have hdeliver := deliver_of_room (s := t) (c := f.chan) (payload := plain) (by rw [hown]; exact ho)
        (by rw [hen]; cases pt <;> exact hon) (by rw [hdel]; cases pt <;> exact hroom) (by rw [hset]; exact hv)
      refine ⟨_, rfl, ?_, ?_, ?_, ?_, ?_, ?_, fun h => absurd h hw⟩
      · have := congrArg State.core hhand.frame
        exact Eq.trans this hidle
      · have := congrArg (State.slot · i) hhand.frame
        exact Eq.trans this hti
      · have := congrArg (State.slot · new) hhand.frame
        exact Eq.trans this htnew
      · have := congrArg (fun x : State => (x.chan e.chan).cur) hhand.frame
        exact Eq.trans this htcur
      · have := congrArg State.exch hhand.frame
        exact Eq.trans this htexch
      · have hplain : f.deciphered (s.slot i) = plain := rfl
        rw [hplain, hdeliver, State.port_modPort, if_pos rfl, if_neg hw]
        have hold : (t.port pt).deliveries = (s.port pt).deliveries := by rw [hdel]; cases pt <;> rfl
        rw [hold]

end Sys2Proof.Proofs

/-! The turnover engine (R112, R118 to R124, R129 to R131). -/

namespace Sys2Proof.Proofs
open Sys2Proof.Machine

/-! ### Messages as bytes (R191, R193) -/

theorem b1_eq (n : Nat) : b1 n = [BitVec.ofNat 8 n] := rfl

theorem length_b1 (n : Nat) : (b1 n).length = 1 := rfl

theorem length_b2 (n : Nat) : (b2 n).length = 2 := rfl

/-- The channel of a number, by the two spellings of the bound. -/
theorem finRange_getElem? (n : Nat) : (List.finRange 32)[n]? = if h : n < 32 then some ⟨n, h⟩ else none := by
  split
  next h => rw [List.getElem?_eq_getElem (by simpa using h), List.getElem_finRange]; rfl
  next h => exact List.getElem?_eq_none (by simpa using h)

theorem namedChan_cons (b : Byte) (more : List Byte) : namedChan (b :: more) = (List.finRange 32)[b.toNat]? := by
  rw [finRange_getElem?]
  rfl

theorem namedChan_b1 (c : ChanId) (l : List Byte) : namedChan (b1 c.val ++ l) = some c := by
  have hval : (BitVec.ofNat 8 c.val).toNat = c.val := by
    have := c.isLt
    rw [BitVec.toNat_ofNat]
    omega
  rw [b1_eq, List.singleton_append, namedChan_cons, hval, finRange_getElem?, dif_pos c.isLt]

theorem namedChan_none {b : Byte} {more : List Byte} (h : 31 < b.toNat) : namedChan (b :: more) = none := by
  rw [namedChan_cons, finRange_getElem?, dif_neg (by omega)]

/-! ### Which kinds the engine takes (R112) -/

/-- Channel 0 serves: LIVE or FROZEN. -/
abbrev serves (s : State) : Prop := (s.chan 0).state = .live ∨ (s.chan 0).state = .frozen

theorem engine_turnGive {s : State} (h : serves s) (payload : List Byte) : s.engine .turnGive payload
    = s.forChan payload 19 fun c => s.turnGive c (numAt payload 1 2) (ofSixteen (payload.drop 3)) := by
  rcases h with h | h <;> simp only [State.engine, h]

theorem engine_turnRefuse {s : State} (h : serves s) (payload : List Byte) : s.engine .turnRefuse payload
    = s.forChan payload 2 fun c => if byteAt payload 1 = 1 then s.turnRefuse c true
      else if byteAt payload 1 = 2 then s.turnRefuse c false else s.protocol (some c) := by
  rcases h with h | h <;> simp only [State.engine, h]

theorem engine_turnOrder {s : State} (h : serves s) (payload : List Byte) :
    s.engine .turnOrder payload = s.turnOrder payload := by
  rcases h with h | h <;> simp only [State.engine, h]

theorem engine_helloAck {s : State} (h : (s.chan 0).state = .booting) (payload : List Byte) :
    s.engine .helloAck payload = s.helloAck payload := by simp only [State.engine, h]

/-- A kind that no cell of R112 takes in any state of channel 0. -/
theorem engine_storeKind {kind : Kind} (h : kind ∈ [Kind.hello, .turnAsk, .turnDone, .faultReport, .closeNote]) (s : State)
    (payload : List Byte) : s.engine kind payload = s.unfit kind payload := by
  fin_cases h <;> cases hst : (s.chan 0).state <;> simp only [State.engine, hst]

theorem engine_served {s : State} (h : serves s) (payload : List Byte) :
    s.engine .helloAck payload = s.unfit .helloAck payload := by
  rcases h with h | h <;> simp only [State.engine, h]

theorem engine_booting {s : State} (h : (s.chan 0).state = .booting) {kind : Kind}
    (hk : kind = .turnGive ∨ kind = .turnRefuse ∨ kind = .turnOrder) (payload : List Byte) :
    s.engine kind payload = s.unfit kind payload := by
  rcases hk with rfl | rfl | rfl <;> simp only [State.engine, h]

theorem unfit_cons (s : State) (kind : Kind) (b : Byte) (more : List Byte) : s.unfit kind (b :: more) = s.raise .protocol
    (if kind ∈ [Kind.turnAsk, .turnGive, .turnDone, .turnRefuse, .closeNote] then (List.finRange 32)[b.toNat]? else none) := by
  have hnames : kind.names = true ↔ kind ∈ [Kind.turnAsk, .turnGive, .turnDone, .turnRefuse, .closeNote] := by
    cases kind <;> simp [Kind.names]
  unfold State.unfit State.protocol
  refine congrArg (s.raise .protocol ·) ?_
  by_cases h : kind.names = true
  · rw [if_pos h, if_pos (hnames.1 h), namedChan_cons]
  · rw [if_neg h, if_neg fun x => h (hnames.2 x)]

/-- A message of a wrong length, or of a channel above 31 (R193). -/
theorem forChan_unfit (s : State) {b : Byte} {more : List Byte} {len : Nat}
    (h : more.length + 1 ≠ len ∨ 31 < b.toNat) (f : ChanId → State) :
    s.forChan (b :: more) len f = s.raise .protocol (List.finRange 32)[b.toNat]? := by
  rw [← namedChan_cons b more]
  unfold State.forChan State.protocol
  cases hc : namedChan (b :: more) with
  | none => rfl
  | some c =>
    have hlen : more.length + 1 ≠ len := h.resolve_right fun hb => by
      rw [namedChan_none hb] at hc
      cases hc
    exact if_neg hlen

theorem forChan_of_length (s : State) {c : ChanId} {l : List Byte} {len : Nat} (h : l.length + 1 = len)
    (f : ChanId → State) : s.forChan (b1 c.val ++ l) len f = f c := by
  unfold State.forChan
  rw [namedChan_b1]
  exact if_pos (by rw [List.length_append, length_b1, ← h, Nat.add_comm])

/-- The cells of R112 that raise PROTOCOL. -/
theorem engineRefusesUnfitMessages (s : State) (kind : Kind) (b : Byte) (more : List Byte) :
    let boots := (s.chan 0).state = .booting
    let length := more.length + 1
    let unfit := s.engine kind (b :: more) = s.raise .protocol
      (if kind ∈ [.turnAsk, .turnGive, .turnDone, .turnRefuse, .closeNote] then (List.finRange 32)[b.toNat]? else none)
    (serves s ∨ boots → kind ∈ [Kind.hello, .turnAsk, .turnDone, .faultReport, .closeNote] → unfit)
    ∧ (serves s → kind = .helloAck → unfit)
    ∧ (serves s → kind = .turnGive → length ≠ 19 ∨ 31 < b.toNat → unfit)
    ∧ (serves s → kind = .turnRefuse → length ≠ 2 ∨ 31 < b.toNat → unfit)
    ∧ (boots → kind = .turnGive ∨ kind = .turnRefuse ∨ kind = .turnOrder → unfit)
    ∧ (boots → kind = .helloAck → length ≠ 2 → unfit) := by
  intro boots length unfit
  have hunfit (h : s.engine kind (b :: more) = s.unfit kind (b :: more)) : unfit := h.trans (unfit_cons s kind b more)
  refine ⟨fun _ hk => hunfit (engine_storeKind hk s _), fun hs hk => hunfit (hk ▸ engine_served hs _), fun hs hk h => ?_,
    fun hs hk h => ?_, fun hb hk => hunfit (engine_booting hb hk _), fun hb hk hlen => ?_⟩
  · subst hk
    exact (engine_turnGive hs _).trans (forChan_unfit s h _)
  · subst hk
    exact (engine_turnRefuse hs _).trans (forChan_unfit s h _)
  · subst hk
    exact (engine_helloAck hb _).trans (if_pos hlen)

/-! ### TURN_GIVE and TURN_REFUSE (R118 to R123) -/

section
variable {s : State} {c : ChanId} (hs : serves s)
include hs

theorem engine_give {epoch : Nat} (he : epoch < 65536) (hd : Sixteen) :
    s.engine .turnGive (b1 c.val ++ b2 epoch ++ sixteenBytes hd) = s.turnGive c epoch hd := by
  have hlen : (b2 epoch ++ sixteenBytes hd).length + 1 = 19 := by
    rw [List.length_append, length_b2, sixteenBytes, length_beBytes]
  have hnum : numAt (b1 c.val ++ (b2 epoch ++ sixteenBytes hd)) 1 2 = epoch := by
    rw [← List.append_assoc, numAt_field rfl (length_b1 _) (length_b2 _), b2, ofBytes_beBytes]
    omega
  have hdrop : (b1 c.val ++ (b2 epoch ++ sixteenBytes hd)).drop 3 = sixteenBytes hd := by
    rw [← List.append_assoc]
    exact List.drop_left' (by rw [List.length_append, length_b1, length_b2])
  rw [List.append_assoc, engine_turnGive hs, forChan_of_length s hlen, hnum, hdrop, ofSixteen_sixteenBytes]

theorem engine_refuse {cause : Nat} (h : cause < 256) : s.engine .turnRefuse (b1 c.val ++ b1 cause)
    = if cause = 1 then s.turnRefuse c true else if cause = 2 then s.turnRefuse c false else s.protocol (some c) := by
  have hbyte : byteAt (b1 c.val ++ b1 cause) 1 = cause := by
    have : byteAt (b1 c.val ++ b1 cause) 1 = (BitVec.ofNat 8 cause).toNat := rfl
    rw [this, BitVec.toNat_ofNat]
    omega
  rw [engine_turnRefuse hs, forChan_of_length s (by rw [length_b1]), hbyte]

end

section
variable {s : State} {c : ChanId} {e : Exchange} (he : s.exchOf c = some e)
include he

theorem turnGive_waiting (hst : e.state ≠ .confirming) (hnew : e.newEpoch = none) (epoch : Nat) (hd : Sixteen) :
    s.turnGive c epoch hd
      = if epoch = s.expectedEpoch c then s.takeGive c e epoch hd else s.raise .protocol (some c) := by
  simp only [State.turnGive, he]
  rw [hnew]
  cases h : e.state with
  | confirming => exact absurd h hst
  | asking | backingOff => rfl

theorem turnGive_confirming (hst : e.state = .confirming) (epoch : Nat) (hd : Sixteen) : s.turnGive c epoch hd
    = if e.newEpoch = some epoch ∧ e.head = some hd then s.buildDone c epoch (e.proof.getD 0)
      else s.raise .protocol (some c) := by
  simp only [State.turnGive, he, hst]
  rfl

theorem turnGive_given (hst : e.state ≠ .confirming) {old : Nat} (hnew : e.newEpoch = some old) (epoch : Nat)
    (hd : Sixteen) : s.turnGive c epoch hd
    = if e.newEpoch = some epoch ∧ e.head = some hd then s else s.raise .protocol (some c) := by
  simp only [State.turnGive, he]
  cases h : e.state with
  | confirming => exact absurd h hst
  | asking | backingOff => rw [hnew]; rfl

theorem turnRefuse_given (h : e.state = .confirming ∨ e.newEpoch ≠ none) (busy : Bool) :
    s.turnRefuse c busy = s.raise .protocol (some c) := by
  simp only [State.turnRefuse, he]
  rcases h with h | h
  · rw [h]; rfl
  · obtain ⟨old, hold⟩ := Option.ne_none_iff_exists'.1 h
    rw [hold]
    cases e.state <;> rfl

theorem turnRefuse_denied (hst : e.state = .asking ∨ e.state = .backingOff) (hnew : e.newEpoch = none) :
    s.turnRefuse c false = s.denied c := by
  simp only [State.turnRefuse, he]
  rcases hst with h | h <;> rw [h, hnew] <;> rfl

end

end Sys2Proof.Proofs

/-! What the engine decides: refusals, orders, and the acknowledgement of a bootstrap (R123, R124, R131). -/

namespace Sys2Proof.Proofs
open Sys2Proof.Machine

/-! ### DENIED and BUSY (R123) -/

/-- A DENIED ends the exchange and leaves the channel STOPPED. -/
theorem denied_spec {s : State} {c : ChanId} {e : Exchange} (he : s.exchOf c = some e) :
    (s.denied c).exch = s.exch.filter (fun x => x.chan ≠ c)
    ∧ (∀ j, (s.denied c).slot j = if j = e.slot then wipeOrdered (s.slot e.slot) else s.slot j)
    ∧ (∀ d, (s.denied c).chan d = if d = c then { s.chan d with next := none, renewal := .stopped } else s.chan d)
    ∧ FaultKind.renewalRefused ∈ (s.denied c).fault.latches := by
  obtain ⟨hslot, hexch, hchan, -⟩ := endExchange_spec he
  have hdenied : s.denied c = ((s.endExchange c).raise .renewalRefused (some c)).setRenewal c .stopped := rfl
  rw [hdenied]
  generalize s.endExchange c = u at *
  have hmem : FaultKind.renewalRefused ∈ (u.raise .renewalRefused (some c)).fault.latches :=
    (mem_latches_raise ..).2 (.inr rfl)
  obtain ⟨_, _, _, _, hraise, -⟩ := u.raise_step .renewalRefused (some c) none none
  have hrslot (j : SlotId) : (u.raise .renewalRefused (some c)).slot j = u.slot j := by rw [hraise]; rfl
  have hrchan (d : ChanId) : (u.raise .renewalRefused (some c)).chan d = u.chan d := by rw [hraise]; rfl
  have hrexch : (u.raise .renewalRefused (some c)).exch = u.exch := by rw [hraise]
  generalize u.raise .renewalRefused (some c) = r at *
  obtain ⟨hset, -, -, hframe⟩ := renewed r c .stopped
  generalize r.setRenewal c .stopped = t at *
  have hrest {α : Type} (g : State → α)
      (hg : ∀ (x : State) a b d e, g { x with chans := a, portG := b, portP := d, portM := e } = g x) : g t = g r := by
    have := congrArg g hframe
    rw [hg] at this
    exact this
  refine ⟨?_, fun j => ?_, fun d => ?_, ?_⟩
  · rw [hrest State.exch fun _ _ _ _ _ => rfl, hrexch, hexch]
  · rw [hrest (State.slot · j) fun _ _ _ _ _ => rfl, hrslot, hslot]
  · rw [hset, hrchan, hchan]
    split <;> rfl
  · rw [hrest State.fault fun _ _ _ _ _ => rfl]
    exact hmem

/-- A raise reads no exchange. -/
theorem reportTest_exch (s : State) (x : List Exchange) (b : Bool) :
    State.reportTest { s with exch := x } b = { s.reportTest b with exch := x } := by
  rw [reportTest_eq, reportTest_eq]
  by_cases h : (s.mayReport = true ∧ (b = true ∨ s.fault.unsentCritical = true))
      ∧ s.pool.heldControl < 8 ∧ 0 < s.pool.free
  · rw [if_pos h]
    exact (if_pos h).trans rfl
  · rw [if_neg h]
    exact if_neg h

theorem appendRecord_exch (s : State) (x : List Exchange) (r : FaultRec) :
    State.appendRecord { s with exch := x } r = { s.appendRecord r with exch := x } := by
  cases h : (if s.fault.queue.length < 32 then some s.fault else s.fault.makeRoom r.kind.severity) with
  | none => rw [appendRecord_of_none h, appendRecord_of_none (s := { s with exch := x }) h]
  | some u =>
    rw [appendRecord_of_room h, appendRecord_of_room (s := { s with exch := x }) h]
    split
    · exact reportTest_exch (queued s u r) x false
    · rfl

theorem raise_exch (s : State) (x : List Exchange) (k : FaultKind) (c : Option ChanId) (w : Option Trunk)
    (pt : Option Port) : State.raise { s with exch := x } k c w pt = { s.raise k c w pt with exch := x } := by
  by_cases hm : k ∈ s.fault.mask
  · rw [raise_of_masked hm, raise_of_masked (s := { s with exch := x }) hm]
  · by_cases h : ∃ r ∈ s.fault.queue, r.taken = false ∧ r.kind = k ∧ r.chan = c ∧ r.trunk = w
    · rw [raise_of_coalesces hm h, raise_of_coalesces (s := { s with exch := x }) hm h]
    · rw [raise_of_new hm fun r hr hx => h ⟨r, hr, hx⟩,
        raise_of_new (s := { s with exch := x }) hm fun r hr hx => h ⟨r, hr, hx⟩]
      exact appendRecord_exch { s with fault := { s.fault with latches := (s.fault.latched k).latches } } x _

/-- The entries of a channel are due now. -/
abbrev dueNow (s : State) (c : ChanId) : State := s.modExch c fun x => { x with deadline := some s.uptime }

theorem exchOf_dueNow {s : State} {c : ChanId} {e : Exchange} (he : s.exchOf c = some e) :
    (dueNow s c).exchOf c = some { e with deadline := some s.uptime } := by
  have hp : ((fun e : Exchange => e.chan == c) ∘ fun e : Exchange =>
      if e.chan = c then { e with deadline := some s.uptime } else e) = fun e : Exchange => e.chan == c := by
    funext e
    by_cases h : e.chan = c <;> simp [h]
  have hfind : (dueNow s c).exchOf c = (s.exchOf c).map fun e =>
      if e.chan = c then { e with deadline := some s.uptime } else e := by
    unfold State.exchOf
    refine (List.find?_map ..).trans ?_
    rw [hp]
  rw [hfind, he, Option.map_some, if_pos (exchOf_chan he)]

theorem filter_dueNow (s : State) (c : ChanId) :
    (dueNow s c).exch.filter (fun e => e.chan != c) = s.exch.filter fun e => e.chan != c := by
  refine Eq.trans (b := (s.exch.map fun e => if e.chan = c then { e with deadline := some s.uptime } else e).filter
    fun e => e.chan != c) rfl ?_
  induction s.exch with
  | nil => rfl
  | cons x l ih =>
    rw [List.map_cons]
    by_cases h : x.chan = c
    · rw [if_pos h, List.filter_cons_of_neg (by simp [h]), List.filter_cons_of_neg (by simp [h]), ih]
    · rw [if_neg h, List.filter_cons_of_pos (by simp [h]), List.filter_cons_of_pos (by simp [h]), ih]

/-- A BUSY does what a reached deadline does (R123, R115). -/
theorem askingEnds_dueNow {s : State} {c : ChanId} {e : Exchange} (he : s.exchOf c = some e) :
    (dueNow s c).askingEnds { e with deadline := some s.uptime } = s.askingEnds e := by
  have hc := exchOf_chan he
  unfold State.askingEnds
  refine ite_congr rfl (fun _ => ?_) fun _ => ?_
  · refine congrArg (fun l => { s with exch := l }) ?_
    rw [hc]
    refine (List.map_map ..).trans (List.map_congr_left fun x _ => ?_)
    by_cases hx : x.chan = c
    · simp only [Function.comp, hx, if_true]
      rfl
    · simp only [Function.comp, hx, if_false]
  · have hraise := raise_exch s (dueNow s c).exch .renewalFailed (some c) none none
    have hold : (dueNow s c).raise .renewalFailed (some c) = { s.raise .renewalFailed (some c) with
        exch := (dueNow s c).exch } := hraise
    have hends : ((dueNow s c).raise .renewalFailed (some c)).endExchange c
        = (s.raise .renewalFailed (some c)).endExchange c := by
      obtain ⟨_, _, _, _, hstep, -⟩ := s.raise_step .renewalFailed (some c) none none
      have hexch : (s.raise .renewalFailed (some c)).exch = s.exch := by rw [hstep]
      have hdrop : ((dueNow s c).raise .renewalFailed (some c)).dropExch c
          = (s.raise .renewalFailed (some c)).dropExch c := by
        rw [hold, State.dropExch, State.dropExch, hexch]
        exact congrArg (fun l => { s.raise .renewalFailed (some c) with exch := l }) (filter_dueNow s c)
      have hof : ((dueNow s c).raise .renewalFailed (some c)).exchOf c = some { e with deadline := some s.uptime } := by
        rw [hold]
        exact exchOf_dueNow he
      have hof' : (s.raise .renewalFailed (some c)).exchOf c = some e := by
        rw [State.exchOf, hexch]
        exact he
      unfold State.endExchange
      rw [hof, hof', hdrop]
    unfold State.failExchange
    rw [hc, hends]

/-! ### TURN_ORDER (R124) -/

theorem orderList_eq (l : List Byte) : orderList l = l.filterMap fun b => (List.finRange 32)[b.toNat]? :=
  congrArg (fun g => l.filterMap g) (funext fun b => (finRange_getElem? b.toNat).symm)

theorem turnOrder_list (s : State) {l : List Byte} (hlo : 1 ≤ l.length) (hhi : l.length ≤ 31) :
    s.turnOrder (b1 l.length ++ l) = if (l.any fun b => decide (31 < b.toNat)) then (s.order (orderList l)).raise .protocol none
      else s.order (orderList l) := by
  have hbyte : byteAt (b1 l.length ++ l) 0 = l.length := by
    have : byteAt (b1 l.length ++ l) 0 = (BitVec.ofNat 8 l.length).toNat := rfl
    rw [this, BitVec.toNat_ofNat]
    omega
  have hlen : (b1 l.length ++ l).length = l.length + 1 := by rw [List.length_append, length_b1, Nat.add_comm]
  unfold State.turnOrder
  dsimp only
  rw [hbyte, hlen, if_neg (by omega), if_pos ⟨hlo, hhi, rfl⟩]
  rfl

theorem turnOrder_unfit (s : State) {l : List Byte} (hall : l ≠ [0xFF])
    (h : l.length ≤ 1 ∨ 32 < l.length ∨ (l.getD 0 0).toNat + 1 ≠ l.length) :
    s.turnOrder l = s.raise .protocol none := by
  have hbyte : byteAt l 0 = (l.getD 0 0).toNat := rfl
  unfold State.turnOrder
  dsimp only
  rw [hbyte, if_neg, if_neg (by omega)]
  · rfl
  · rintro ⟨h255, h1⟩
    obtain ⟨b, rfl⟩ := List.length_eq_one_iff.1 h1
    exact hall (congrArg (· :: []) (BitVec.eq_of_toNat_eq h255))

theorem ordersOfTheList (s : State) (hs : serves s) :
    let orders (l : List ChanId) : State := l.foldl (fun u c => (u.request c .ordered).1) s
    s.engine .turnOrder [0xFF] = orders (List.finRange 32)
    ∧ (∀ l : List ChanId, 1 ≤ l.length → l.length ≤ 31 →
      s.engine .turnOrder (b1 l.length ++ l.flatMap fun c => b1 c.val) = orders l)
    ∧ (∀ l : List Byte, 1 ≤ l.length → l.length ≤ 31 → (∃ b ∈ l, 31 < b.toNat) →
      s.engine .turnOrder (b1 l.length ++ l)
        = (orders (l.filterMap fun b => (List.finRange 32)[b.toNat]?)).raise .protocol none)
    ∧ (∀ l : List Byte, l ≠ [0xFF] → (l.length ≤ 1 ∨ 32 < l.length ∨ (l.getD 0 0).toNat + 1 ≠ l.length) →
      s.engine .turnOrder l = s.raise .protocol none) := by
  intro orders
  refine ⟨?_, fun l hlo hhi => ?_, fun l hlo hhi hbad => ?_, fun l hall h => ?_⟩
  · have hall : byteAt [0xFF] 0 = 255 ∧ ([0xFF] : List Byte).length = 1 := ⟨rfl, rfl⟩
    rw [engine_turnOrder hs]
    unfold State.turnOrder
    dsimp only
    rw [if_pos hall]
    rfl
  · have hbytes : (l.flatMap fun c => b1 c.val) = l.map fun c => BitVec.ofNat 8 c.val :=
      (List.map_eq_flatMap ..).symm
    have hval (c : ChanId) : (BitVec.ofNat 8 c.val).toNat = c.val := by
      have := c.isLt
      rw [BitVec.toNat_ofNat]
      omega
    have hlist : orderList (l.map fun c => BitVec.ofNat 8 c.val) = l := by
      rw [orderList_eq, List.filterMap_map]
      refine (congrArg (fun g => l.filterMap g) (funext fun c => ?_)).trans List.filterMap_some
      rw [Function.comp, hval, finRange_getElem?, dif_pos c.isLt]
    have hnone : ((l.map fun c => BitVec.ofNat 8 c.val).any fun b => decide (31 < b.toNat)) = false := by
      rw [List.any_map, List.any_eq_false]
      intro c _
      have := c.isLt
      simp only [Function.comp, hval, decide_eq_true_eq]
      omega
    have hlen : (l.map fun c => BitVec.ofNat 8 c.val).length = l.length := List.length_map ..
    rw [engine_turnOrder hs, hbytes, ← hlen, turnOrder_list s (by rw [hlen]; exact hlo) (by rw [hlen]; exact hhi), hnone,
      hlist]
    rfl
  · have hany : (l.any fun b => decide (31 < b.toNat)) = true := by simpa using hbad
    rw [engine_turnOrder hs, turnOrder_list s hlo hhi, if_pos hany, orderList_eq]
    rfl
  · rw [engine_turnOrder hs, turnOrder_unfit s hall h]

/-- One order: ORDERED, or OPEN for a channel that waits for its first key (R99, R124). -/
theorem orderListsMovesOrLeaves (s : State) (c : ChanId) :
    let t := (s.request c .ordered).1
    let ready := (s.chan c).renewal = .idle ∨ (s.chan c).renewal = .paused ∨ (s.chan c).renewal = .stopped
    let skipped := (s.chan c).state = .closed ∨ (s.chan c).state = .booting ∨ (s.chan c).renewal = .exchanging
    let reason : Reason := if (s.chan c).state = .openWait then .openKey else .ordered
    let urgent (l : List WaitEntry) := (l.filter fun e => e.reason.urgent) ++ ⟨c, reason⟩ :: l.filter fun e => !e.reason.urgent
    (skipped → t = s)
    ∧ (¬ skipped → ready → 31 ≤ s.sched.waitList.length → t = s)
    ∧ (¬ skipped → ready → s.sched.waitList.length < 31 →
      t.chan c = { s.chan c with renewal := .listed, pause := none, pauseReason := none }
      ∧ (∀ d, d ≠ c → t.chan d = s.chan d) ∧ t.sched = { s.sched with waitList := urgent s.sched.waitList }
      ∧ (t.port (s.chan c).owner.port).latches.channel = true)
    ∧ (∀ e, ¬ skipped → (s.chan c).renewal = .listed → s.entryOf c = some e →
      (e.reason.urgent = true → t = s)
      ∧ (e.reason.urgent = false → t.chans = s.chans
        ∧ t.sched = { s.sched with waitList := urgent (s.sched.waitList.filter fun x => x.chan ≠ c) })) := by
  intro t ready skipped reason urgent
  have hurgent : reason.urgent = true := by
    unfold reason
    split <;> rfl
  have hjoin (h : ¬ skipped) (hr : ready) : t = (s.join c reason false).1 :=
    congrArg Prod.fst (request_of_ready (fun x => h (.inl x)) (fun x => h (.inr (.inl x))) hr rfl false false)
  refine ⟨fun h => request_of_skipped h .ordered false false, fun h hr hfull => ?_, fun h hr hroom => ?_,
    fun e h hl he => ?_⟩
  · rw [hjoin h hr, join_of_full hfull]
  · obtain ⟨hown, hothers, -⟩ := joinedList_join hroom c reason false
    rw [hjoin h hr]
    refine ⟨hown, hothers, ?_, ?_⟩
    · rw [join_of_room hroom, tellChannel_sched, placeEntry_urgent hurgent]
      rfl
    · rw [join_of_room hroom]
      have hlatch := latched_tellChannel (State.modChan
        { s with sched := { s.sched with waitList := placeEntry s.sched.waitList ⟨c, reason⟩ false } } c
        fun ch => { ch.unpaused with renewal := .listed }) c
      rw [State.chan_modChan, if_pos rfl] at hlatch
      exact hlatch
  · have hreq : t = (if e.reason.urgent = true then (s, Listing.unchanged) else (movedUp s c reason, .moved)).1 :=
      congrArg Prod.fst ((request_of_listed (fun x => h (.inl x)) (fun x => h (.inr (.inl x))) hl .ordered false
        false).trans (relist_of_entry he hurgent))
    refine ⟨fun hu => by rw [hreq, if_pos hu], fun hu => ?_⟩
    rw [hreq, if_neg (by rw [hu]; nofun), movedUp]
    refine ⟨?_, ?_⟩
    · rw [State.tellChannel, State.latchChannel, State.modPort_chans]
      rfl
    · rw [tellChannel_sched]
      dsimp only
      rw [placeEntry_urgent hurgent]
      simp only [State.unlist, bne_eq_decide_ne]
      rfl

end Sys2Proof.Proofs

/-! HELLO_ACK (R131), with the starts that follow it, and the engine's obligation. -/

namespace Sys2Proof.Proofs
open Sys2Proof.Machine

/-! ### What start tests keep (R105, R106) -/

/-- Starts move no channel's state and no bootstrap record; an exchange under way stays, the first entry of the table
stays, and a channel without an entry on the wait list keeps its renewal. -/
structure StartsKeep (s t : State) : Prop where
  state : ∀ d, (t.chan d).state = (s.chan d).state
  boot : t.boot = s.boot
  exchanging : ∀ d, (s.chan d).renewal = .exchanging → (t.chan d).renewal = .exchanging
  head : ∀ x, s.exch.head? = some x → t.exch.head? = some x
  unlisted : ∀ d, (∀ e ∈ s.sched.waitList, e.chan ≠ d) →
    (t.chan d).renewal = (s.chan d).renewal ∧ ∀ e ∈ t.sched.waitList, e.chan ≠ d

theorem StartsKeep.refl (s : State) : StartsKeep s s := ⟨fun _ => rfl, rfl, fun _ => id, fun _ => id, fun _ h => ⟨rfl, h⟩⟩

theorem StartsKeep.trans {s t u : State} (h : StartsKeep s t) (k : StartsKeep t u) : StartsKeep s u where
  state d := (k.state d).trans (h.state d)
  boot := k.boot.trans h.boot
  exchanging d x := k.exchanging d (h.exchanging d x)
  head x e := k.head x (h.head x e)
  unlisted d x := by
    obtain ⟨hren, hlist⟩ := h.unlisted d x
    obtain ⟨kren, klist⟩ := k.unlisted d hlist
    exact ⟨kren.trans hren, klist⟩

/-- A KEY_STORE_FULL concerns the fault unit and its second (R106). -/
theorem keyStoreFull_spec (s : State) (c : ChanId) :
    (s.keyStoreFull c).chans = s.chans ∧ (s.keyStoreFull c).boot = s.boot ∧ (s.keyStoreFull c).exch = s.exch
    ∧ (s.keyStoreFull c).sched.waitList = s.sched.waitList
    ∧ (s.sched.lastFull ≠ some s.uptime → FaultKind.keyStoreFull ∈ (s.keyStoreFull c).fault.latches) := by
  unfold State.keyStoreFull
  split
  next h => exact ⟨rfl, rfl, rfl, rfl, fun hno => absurd h hno⟩
  next =>
    have hmem := (mem_latches_raise { s with sched := { s.sched with lastFull := some s.uptime } } .keyStoreFull (some c)
      none none .keyStoreFull).2 (.inr rfl)
    obtain ⟨_, _, _, _, hraise, -⟩ := State.raise_step { s with sched := { s.sched with lastFull := some s.uptime } }
      .keyStoreFull (some c) none none
    refine ⟨?_, ?_, ?_, ?_, fun _ => hmem⟩
    · rw [hraise]
    · rw [hraise]
    · rw [hraise]
    · rw [hraise]

theorem chan_of_chans {s t : State} (h : t.chans = s.chans) (d : ChanId) : t.chan d = s.chan d := by
  simp only [State.chan, h]

theorem mem_of_candidate {s : State} {e : WaitEntry} (h : s.candidate = some e) : e ∈ s.sched.waitList := by
  unfold State.candidate at h
  split at h
  · exact List.mem_of_head? h
  · exact List.mem_of_find?_eq_some h
  · cases h

theorem reserve_eq_some {s u : State} {c : ChanId} {i : SlotId} (h : s.reserve c = some (u, i)) :
    u = reserved s c i ∧ (s.slot i).state = .empty := by
  unfold State.reserve at h
  split at h
  · obtain ⟨j, hj, hji⟩ := Option.map_eq_some_iff.1 h
    cases hji
    exact ⟨rfl, by simpa using List.find?_some hj⟩
  · cases h

theorem startsKeep_startOne (s : State) : StartsKeep s s.startOne.1 := by
  cases hc : s.candidate with
  | none => rw [startOne_of_none hc]; exact .refl s
  | some e =>
    by_cases hroom : s.exch.length < 4
    case neg => rw [startOne_of_full (Nat.not_lt.1 hroom)]; exact .refl s
    cases hr : s.reserve e.chan with
    | none =>
      obtain ⟨hchans, hboot, hexch, hlist, -⟩ := keyStoreFull_spec s e.chan
      have hone : s.startOne.1 = s.keyStoreFull e.chan := by simp only [State.startOne, hc, hroom, if_true, hr]
      rw [hone]
      refine ⟨fun d => by rw [chan_of_chans hchans], hboot, fun d => by rw [chan_of_chans hchans]; exact id,
        fun x => by rw [hexch]; exact id, fun d h => ⟨by rw [chan_of_chans hchans], by rw [hlist]; exact h⟩⟩
    | some q =>
      obtain ⟨u, i⟩ := q
      have hu : u = reserved s e.chan i := (reserve_eq_some hr).1
      have hone : s.startOne.1 = (u.unlist e.chan).startExchange e.chan e.reason i := by
        simp only [State.startOne, hc, hroom, if_true, hr]
      have hlist : (u.unlist e.chan).sched.waitList = s.sched.waitList.filter fun x => x.chan != e.chan := by
        rw [hu]; rfl
      have hchan (d : ChanId) : (u.unlist e.chan).chan d = s.chan d := by rw [hu]; rfl
      have hboot : (u.unlist e.chan).boot = s.boot := by rw [hu]; rfl
      have hexch : (u.unlist e.chan).exch = s.exch := by rw [hu]; rfl
      rw [hone]
      generalize u.unlist e.chan = v at *
      obtain ⟨htexch, -, htchan, -, hframe⟩ := started v e.chan e.reason i
      have htboot : (v.startExchange e.chan e.reason i).boot = v.boot := by
        have := congrArg State.boot hframe
        exact this
      have htsched : (v.startExchange e.chan e.reason i).sched = v.sched := by
        have := congrArg State.sched hframe
        exact this
      generalize v.startExchange e.chan e.reason i = t at *
      refine ⟨fun d => ?_, htboot.trans hboot, fun d h => ?_, fun x h => ?_, fun d h => ⟨?_, fun x hx => ?_⟩⟩
      · rw [htchan, hchan, hchan]
        split
        next he => rw [he]
        next => rfl
      · rw [htchan, hchan, hchan]
        split
        · rfl
        · exact h
      · rw [htexch, hexch, List.head?_append, h]
        rfl
      · rw [htchan, hchan, hchan, if_neg (h e (mem_of_candidate hc)).symm]
      · rw [htsched, hlist] at hx
        exact h x (List.mem_filter.1 hx).1

theorem startsKeep_startTest (n : Nat) (s : State) : StartsKeep s (State.startTest n s) := by
  induction n generalizing s with
  | zero => exact .refl s
  | succ n ih =>
    have hone := startsKeep_startOne s
    unfold State.startTest
    split
    next t h => rw [h] at hone; exact hone.trans (ih t)
    next t h => rw [h] at hone; exact hone

/-! ### HELLO_ACK (R131) -/

/-- Channel 0 is LIVE and its bootstrap ended, before the report test. -/
def woken (s : State) : State :=
  (State.modChan { s with boot := { s.boot with phase := .none, deadline := none } } 0
    fun ch => { ch with state := .live }).tellChannel 0

/-- The part before the start test of a taken HELLO_ACK. -/
structure Acknowledged (s t : State) : Prop where
  chan : ∀ d, t.chan d = if d = 0 then { s.chan 0 with state := .live } else s.chan d
  boot : t.boot = { s.boot with phase := .none, deadline := none }
  slot : ∀ j, t.slot j = s.slot j
  exch : t.exch = s.exch
  sched : t.sched = s.sched
  draws : t.draws = s.draws
  mode : t.mode = s.mode
  clock : t.uptime = s.uptime ∧ t.settings = s.settings

theorem acknowledged_woken (s : State) : Acknowledged s ((woken s).reportTest false) := by
  have htold := told_latchChannel (State.modChan { s with boot := { s.boot with phase := .none, deadline := none } } 0
    fun ch => { ch with state := .live }) ((State.modChan
      { s with boot := { s.boot with phase := .none, deadline := none } } 0 fun ch => { ch with state := .live }).chan
        0).owner.port
  have hwoken : { woken s with portG := s.portG, portP := s.portP, portM := s.portM }
      = State.modChan { s with boot := { s.boot with phase := .none, deadline := none } } 0
        fun ch => { ch with state := .live } := htold.frame
  have hchan (d : ChanId) : (woken s).chan d = if d = 0 then { s.chan 0 with state := .live } else s.chan d := by
    refine (chan_tellChannel _ 0 d).trans ((State.chan_modChan _ 0 d _).trans ?_)
    split
    next h => rw [h]; rfl
    next => rfl
  have hframe := reportTest_frame (woken s) false
  generalize (woken s).reportTest false = t at *
  generalize woken s = w at *
  have hkeep {α : Type} (g : State → α) (h1 : ∀ (x : State) a b c, g { x with srcControl := a, pool := b, fault := c } = g x)
      (h2 : ∀ (x : State) a b c, g { x with portG := a, portP := b, portM := c } = g x) :
      g t = g (State.modChan { s with boot := { s.boot with phase := .none, deadline := none } } 0
        fun ch => { ch with state := .live }) := by
    have e1 := congrArg g hframe
    have e2 := congrArg g hwoken
    rw [h1] at e1
    rw [h2] at e2
    exact e1.trans e2
  refine ⟨fun d => ?_, ?_, fun j => ?_, ?_, ?_, ?_, ?_, ?_, ?_⟩
  · have := congrArg (State.chan · d) hframe
    exact Eq.trans this (hchan d)
  · exact hkeep State.boot (fun _ _ _ _ => rfl) fun _ _ _ _ => rfl
  · exact hkeep (State.slot · j) (fun _ _ _ _ => rfl) fun _ _ _ _ => rfl
  · exact hkeep State.exch (fun _ _ _ _ => rfl) fun _ _ _ _ => rfl
  · exact hkeep State.sched (fun _ _ _ _ => rfl) fun _ _ _ _ => rfl
  · exact hkeep State.draws (fun _ _ _ _ => rfl) fun _ _ _ _ => rfl
  · exact hkeep State.mode (fun _ _ _ _ => rfl) fun _ _ _ _ => rfl
  · exact hkeep State.uptime (fun _ _ _ _ => rfl) fun _ _ _ _ => rfl
  · exact hkeep State.settings (fun _ _ _ _ => rfl) fun _ _ _ _ => rfl

/-- The part after channel 0's own request. -/
def askedFirst (s : State) : State := (((woken s).reportTest false).request 0 .ordered false true).1

theorem acknowledged_eq (s : State) : s.acknowledged = State.startTest 4 (askedFirst s) := rfl

/-- Channel 0 is first on the list (R131). -/
structure ListedFirst (s t : State) : Prop where
  state : (t.chan 0).state = .live
  renewal : (t.chan 0).renewal = .listed
  waitList : t.sched.waitList = ⟨0, .ordered⟩ :: s.sched.waitList
  lastFull : t.sched.lastFull = s.sched.lastFull
  slot : ∀ j, t.slot j = s.slot j
  exch : t.exch = s.exch
  draws : t.draws = s.draws
  mode : t.mode = s.mode
  clock : t.uptime = s.uptime ∧ t.settings = s.settings

theorem request_of_woken {s w : State} (h : Acknowledged s w) (hidle : (s.chan 0).renewal = .idle) :
    (w.request 0 .ordered false true).1 = (w.join 0 .ordered true).1 := by
  have h0 : w.chan 0 = { s.chan 0 with state := .live } := by rw [h.chan, if_pos rfl]
  have hreason : (if (w.chan 0).state = .openWait then Reason.openKey else .ordered) = .ordered :=
    if_neg (by rw [h0]; nofun)
  rw [request_of_idle (by rw [h0]; nofun) (by rw [h0]; nofun) (by rw [h0]; exact hidle), hreason]

theorem listedFirst {s : State} (hidle : (s.chan 0).renewal = .idle) (hroom : s.sched.waitList.length < 31) :
    ListedFirst s (askedFirst s) := by
  have hack := acknowledged_woken s
  unfold askedFirst
  generalize (woken s).reportTest false = w at *
  rw [request_of_woken hack hidle]
  have hroom' : w.sched.waitList.length < 31 := by rw [hack.sched]; exact hroom
  have hsched : (w.join 0 .ordered true).1.sched
      = { w.sched with waitList := placeEntry w.sched.waitList ⟨0, .ordered⟩ true } := by
    rw [join_of_room hroom', tellChannel_sched]
    rfl
  obtain ⟨hown, -, -, -, -, hframe⟩ := joinedList_join hroom' 0 .ordered true
  generalize (w.join 0 .ordered true).1 = t at *
  have hkeep {α : Type} (g : State → α) (h1 : ∀ (x : State) a b c d e,
      g { x with chans := a, sched := b, portG := c, portP := d, portM := e } = g x) : g t = g w := by
    have := congrArg g hframe
    rw [h1] at this
    exact this
  refine ⟨?_, ?_, ?_, ?_, fun j => ?_, ?_, ?_, ?_, ?_, ?_⟩
  · rw [hown, hack.chan, if_pos rfl]
  · rw [hown]
  · rw [hsched, hack.sched]
    rfl
  · rw [hsched, hack.sched]
  · rw [hkeep (State.slot · j) fun _ _ _ _ _ _ => rfl, hack.slot]
  · rw [hkeep State.exch fun _ _ _ _ _ _ => rfl, hack.exch]
  · rw [hkeep State.draws fun _ _ _ _ _ _ => rfl, hack.draws]
  · rw [hkeep State.mode fun _ _ _ _ _ _ => rfl, hack.mode]
  · rw [hkeep State.uptime fun _ _ _ _ _ _ => rfl, hack.clock.1]
  · rw [hkeep State.settings fun _ _ _ _ _ _ => rfl, hack.clock.2]

/-- Channel 0's request and the starts after it keep the states and the bootstrap record. -/
theorem acknowledged_states (s : State) : (s.acknowledged.chan 0).state = .live
    ∧ s.acknowledged.boot = { s.boot with phase := .none, deadline := none }
    ∧ ∀ d, d ≠ 0 → (s.acknowledged.chan d).state = (s.chan d).state := by
  have hack := acknowledged_woken s
  rw [acknowledged_eq, askedFirst]
  generalize (woken s).reportTest false = w at *
  obtain ⟨hchan, -, -, hframe⟩ := asked_request w 0 .ordered false true
  generalize (w.request 0 .ordered false true).1 = r at *
  have hrstate (d : ChanId) : (r.chan d).state = (w.chan d).state := by rw [hchan]
  have hrboot : r.boot = w.boot := by
    have := congrArg State.boot hframe
    exact this
  obtain ⟨hstate, hboot, -⟩ := startsKeep_startTest 4 r
  refine ⟨?_, ?_, fun d hd => ?_⟩
  · rw [hstate, hrstate, hack.chan, if_pos rfl]
  · rw [hboot, hrboot, hack.boot]
  · rw [hstate, hrstate, hack.chan, if_neg hd]

/-- The candidate of a part whose channel 0 is LIVE and first on the list. -/
theorem candidate_of_listedFirst {s t : State} (h : ListedFirst s t) : t.candidate = some ⟨0, .ordered⟩ := by
  rw [candidate_of_live h.state, h.waitList]
  rfl

theorem acknowledged_starts {s : State} {i : SlotId} (hidle : (s.chan 0).renewal = .idle)
    (hroom : s.sched.waitList.length < 31) (hexch : s.exch = []) (hmode : s.mode = .running)
    (hempty : (s.slot i).state = .empty) (hlow : ∀ j, j < i → (s.slot j).state ≠ .empty) :
    (s.acknowledged.chan 0).renewal = .exchanging
    ∧ s.acknowledged.exch.head? = some ⟨0, .ordered, .asking, 1, Config.nonce s.draws, i, none, none,
        some (s.uptime + s.settings.reply + 2), none, false⟩ := by
  have hfirst := listedFirst hidle hroom
  rw [acknowledged_eq]
  generalize askedFirst s = t at *
  have hone := startOne_of_lowest (candidate_of_listedFirst hfirst) (by rw [hfirst.exch, hexch]; decide)
    (hfirst.mode.trans hmode) (by rw [hfirst.slot]; exact hempty) (fun j hj => by rw [hfirst.slot]; exact hlow j hj)
  obtain ⟨hsexch, -, hschan, -, -⟩ := started ((reserved t 0 i).unlist 0) 0 .ordered i
  have htest : State.startTest 4 t
      = State.startTest 3 (((reserved t 0 i).unlist 0).startExchange 0 .ordered i) := by
    rw [State.startTest, hone]
  rw [htest]
  generalize ((reserved t 0 i).unlist 0).startExchange 0 .ordered i = u at *
  obtain ⟨-, -, hexchanging, hhead, -⟩ := startsKeep_startTest 3 u
  refine ⟨hexchanging 0 (by rw [hschan, if_pos rfl]), hhead _ ?_⟩
  have hbase : ((reserved t 0 i).unlist 0).exch = [] := hfirst.exch.trans hexch
  have hdraws : ((reserved t 0 i).unlist 0).draws = s.draws := hfirst.draws
  have huptime : ((reserved t 0 i).unlist 0).uptime = s.uptime := hfirst.clock.1
  have hsettings : ((reserved t 0 i).unlist 0).settings = s.settings := hfirst.clock.2
  rw [hsexch, hbase, hdraws, huptime, hsettings]
  rfl

theorem acknowledged_full {s : State} (hidle : (s.chan 0).renewal = .idle) (hroom : s.sched.waitList.length < 31)
    (hexch : s.exch = []) (hfull : ∀ j, (s.slot j).state ≠ .empty) :
    (s.acknowledged.chan 0).renewal = .listed ∧ s.acknowledged.sched.waitList = ⟨0, .ordered⟩ :: s.sched.waitList
    ∧ (s.sched.lastFull ≠ some s.uptime → FaultKind.keyStoreFull ∈ s.acknowledged.fault.latches) := by
  have hfirst := listedFirst hidle hroom
  rw [acknowledged_eq]
  generalize askedFirst s = t at *
  have hone := startOne_of_candidate (candidate_of_listedFirst hfirst) (by rw [hfirst.exch, hexch]; decide)
    (fun j => by rw [hfirst.slot]; exact hfull j)
  have htest : State.startTest 4 t = t.keyStoreFull 0 := by rw [State.startTest, hone]
  obtain ⟨hchans, -, -, hlist, hlatch⟩ := keyStoreFull_spec t 0
  rw [htest]
  refine ⟨by rw [chan_of_chans hchans, hfirst.renewal], hlist.trans hfirst.waitList, fun h => hlatch ?_⟩
  rw [hfirst.lastFull, hfirst.clock.1]
  exact h

theorem acknowledged_unlisted {s : State} (hidle : (s.chan 0).renewal = .idle) (hfull : 31 ≤ s.sched.waitList.length)
    (hno : ∀ e ∈ s.sched.waitList, e.chan ≠ 0) : (s.acknowledged.chan 0).renewal = .idle := by
  have hack := acknowledged_woken s
  rw [acknowledged_eq, askedFirst]
  generalize (woken s).reportTest false = w at *
  rw [request_of_woken hack hidle, join_of_full (by rw [hack.sched]; exact hfull)]
  obtain ⟨-, -, -, -, hunlisted⟩ := startsKeep_startTest 4 w
  rw [(hunlisted 0 (by rw [hack.sched]; exact hno)).1, hack.chan, if_pos rfl]
  exact hidle

theorem helloAckEndsTheBootstrap (s : State) (n : Nat) (hboot : (s.chan 0).state = .booting) (hn : n < 65536) :
    s.engine .helloAck (b2 n) = if s.boot.count = some n then s.acknowledged else s.raise .protocol (some 0) := by
  have hnum : numAt (b2 n) 0 2 = n := by
    rw [numAt, List.drop_zero, List.take_of_length_le (Nat.le_of_eq (length_b2 n)), b2, ofBytes_beBytes]
    omega
  rw [engine_helloAck hboot, State.helloAck, if_neg (by rw [length_b2]; decide), hnum]
  rfl

/-! ### The obligation -/

/-- Settles O56: the cells of R112, the messages of an exchange, the orders, and HELLO_ACK. -/
theorem engineDecidesTheMessages : Obligations.EngineDecidesTheMessages := by
  refine ⟨engineRefusesUnfitMessages, ?_, ordersOfTheList, orderListsMovesOrLeaves, ?_⟩
  · intro s c epoch hd hs hepoch give refuse deny unexpected expected
    have hgive : give = s.turnGive c epoch hd := engine_give hs hepoch hd
    have hbusy : refuse 1 = s.turnRefuse c true := engine_refuse hs (by decide)
    have hdeny : deny = s.turnRefuse c false := engine_refuse hs (by decide)
    have hexpected : s.expectedEpoch c = expected := by
      unfold State.expectedEpoch expected
      cases s.curKeyed c <;> rfl
    clear_value give deny expected
    refine ⟨fun hnone => ?_, fun n hn h1 h2 => ?_, fun e he hst hnew => ?_, fun e he hgiven => ?_⟩
    · rw [hgive, hdeny, hbusy]
      refine ⟨?_, ?_, ?_⟩
      · simp only [State.turnGive, hnone]
        rfl
      · simp only [State.turnRefuse, hnone]
        rfl
      · simp only [State.turnRefuse, hnone]
        rfl
    · exact (engine_refuse hs hn).trans ((if_neg h1).trans (if_neg h2))
    · have hnc : e.state ≠ .confirming := by rcases hst with h | h <;> rw [h] <;> nofun
      have hwait := turnGive_waiting he hnc hnew epoch hd
      rw [hexpected] at hwait
      refine ⟨fun hne => ?_, fun heq hslot => ?_, fun heq hres hch => ?_, fun hfly hempty => ?_, fun hback => ?_,
        fun hask due hdue _ => ?_⟩
      · rw [hgive, hwait, if_neg hne]
      · rw [hgive, hwait, if_pos heq]
        exact if_neg hslot
      · rw [hgive, hwait, if_pos heq]
        exact if_pos ⟨hres, hch⟩
      · obtain ⟨hexch, hslot, hchan, hlatch⟩ := denied_spec he
        rw [hdeny, turnRefuse_denied he hst hnew]
        refine ⟨hexch, ?_, by rw [hchan, if_pos rfl], fun d hne => by rw [hchan, if_neg hne], hlatch⟩
        rw [hslot, if_pos rfl, wipeOrdered, if_neg hempty, hfly]
        rfl
      · rw [hbusy]
        simp only [State.turnRefuse, he, hback, hnew, if_true]
      · have hrow : exec (.askingDeadline c) due = execAskingDeadline c due := rfl
        have hends : s.turnRefuse c true = s.askingEnds e := by
          simp only [State.turnRefuse, he, hask, hnew, if_true]
        have hreach : due.reached (some s.uptime) = true := by
          rw [hdue]
          exact reached_of_le (Nat.le_refl _)
        rw [hrow, hbusy, hends, ← askingEnds_dueNow he]
        subst hdue
        simp only [execAskingDeadline, exchOf_dueNow he, hask, hreach, and_self, if_true]
    · intro again
      have hcases (h : e.state ≠ .confirming) : s.turnGive c epoch hd = if again then s else unexpected := by
        obtain ⟨old, hold⟩ := Option.ne_none_iff_exists'.1 (hgiven.resolve_left h)
        exact turnGive_given he h hold epoch hd
      have hbuild {proof : Sixteen} (ha : again) (hst : e.state = .confirming) (hp : e.proof = some proof) :
          give = s.build .turnDone (b1 c.val ++ b2 epoch ++ sixteenBytes proof) := by
        rw [hgive, turnGive_confirming he hst, if_pos ha, hp]
        rfl
      refine ⟨fun hno => ?_, ?_, ?_, fun ha hst => ?_, fun proof ha hst hp hheld hfree => ?_,
        fun proof ha hst hp hfull => ?_⟩
      · rw [hgive]
        by_cases hst : e.state = .confirming
        · rw [turnGive_confirming he hst, if_neg hno]
        · rw [hcases hst, if_neg hno]
      · rw [hbusy, turnRefuse_given he hgiven]
      · rw [hdeny, turnRefuse_given he hgiven]
      · rw [hgive, hcases hst, if_pos ha]
      · rw [hbuild ha hst hp, build_lent ⟨hheld, hfree⟩]
        rfl
      · rw [hbuild ha hst hp, build_unlent (by omega)]
  · intro s n hboot hn t
    have ht : t = if s.boot.count = some n then s.acknowledged else s.raise .protocol (some 0) :=
      helloAckEndsTheBootstrap s n hboot hn
    clear_value t
    refine ⟨fun hcount => ?_, fun hcount => by rw [ht, if_neg hcount]⟩
    rw [if_pos hcount] at ht
    subst ht
    obtain ⟨hlive, hrec, hstates⟩ := acknowledged_states s
    refine ⟨hlive, by rw [hrec], by rw [hrec], by rw [hrec], hstates,
      fun i hidle hroom hexch hmode hempty hlow => acknowledged_starts hidle hroom hexch hmode hempty hlow,
      fun hidle hroom hexch hfull => acknowledged_full hidle hroom hexch hfull,
      fun hidle hfull hno => acknowledged_unlisted hidle hfull hno⟩

end Sys2Proof.Proofs

/-! The uptime step (R190): the evaluation of each channel (R91 to R97), and the OPEN retries (R100). -/

namespace Sys2Proof.Proofs
open Sys2Proof.Machine

/-! ### What a second changes -/

/-- What the samples of a second write of a channel, and what nothing in a second writes. -/
def reading (ch : Chan) : (Nat × Nat × Nat) × Limits × Owner × Option SlotId :=
  ((ch.rate, ch.units, ch.bucket), ch.limits, ch.owner, ch.cur)

theorem reading_sampled {a b : Chan} (h : reading a = reading b) : reading a.sampled = reading b.sampled := by
  simp only [reading, Prod.mk.injEq] at h
  obtain ⟨⟨hrate, hunits, hbucket⟩, hlimits, howner, hcur⟩ := h
  simp only [reading, Chan.sampled, hrate, hunits, hbucket, hlimits, howner, hcur]

/-- A channel that takes its sample at a second (R91). -/
abbrev samples (s : State) (c : ChanId) : Prop := (s.chan c).state = .live ∨ (s.chan c).state = .frozen

/-- What no part of a second changes. -/
def secondFrame (s t : State) : Prop :=
  { t with
    chans := s.chans, slots := s.slots, srcG := s.srcG, srcP := s.srcP, srcM := s.srcM, srcControl := s.srcControl
    pool := s.pool, arb := s.arb, sched := s.sched, exch := s.exch, draws := s.draws, fault := s.fault, portG := s.portG
    portP := s.portP, portM := s.portM } = s

theorem secondFrame.trans {s t u : State} (h : secondFrame s t) (k : secondFrame t u) : secondFrame s u := by
  have hback := congrArg (fun x : State => { x with
    chans := s.chans, slots := s.slots, srcG := s.srcG, srcP := s.srcP, srcM := s.srcM, srcControl := s.srcControl
    pool := s.pool, arb := s.arb, sched := s.sched, exch := s.exch, draws := s.draws, fault := s.fault, portG := s.portG
    portP := s.portP, portM := s.portM }) k
  exact hback.trans h

/-- `t` is `s` after the channels of `l` that are LIVE or FROZEN have taken their samples; LIVE channels may have frozen. -/
structure Measured (l : List ChanId) (s t : State) : Prop where
  frame : secondFrame s t
  reading : ∀ c, reading (t.chan c) = reading (if c ∈ l ∧ samples s c then (s.chan c).sampled else s.chan c)
  state : ∀ c, (t.chan c).state = (s.chan c).state ∨ ((s.chan c).state = .live ∧ (t.chan c).state = .frozen)

/-- A part of the second that takes no sample. -/
theorem Measured.of_quiet {s t : State} (hframe : secondFrame s t) (hreading : ∀ c, Proofs.reading (t.chan c) = Proofs.reading (s.chan c))
    (hstate : ∀ c, (t.chan c).state = (s.chan c).state) : Measured [] s t :=
  ⟨hframe, fun c => by rw [hreading, if_neg fun h => List.not_mem_nil h.1], fun c => .inl (hstate c)⟩

theorem Measured.refl (s : State) : Measured [] s s := .of_quiet rfl (fun _ => rfl) fun _ => rfl

theorem Measured.samples {l : List ChanId} {s t : State} (h : Measured l s t) (c : ChanId) :
    Proofs.samples t c ↔ Proofs.samples s c := by
  unfold Proofs.samples
  rcases h.state c with e | ⟨e, e'⟩
  · rw [e]
  · rw [e, e']
    simp

theorem Measured.trans {l m : List ChanId} {s t u : State} (h : Measured l s t) (k : Measured m t u)
    (hdisjoint : ∀ c ∈ l, c ∉ m) : Measured (l ++ m) s u := by
  refine ⟨h.frame.trans k.frame, fun c => ?_, fun c => ?_⟩
  · rw [k.reading]
    have hc := h.reading c
    by_cases hs : Proofs.samples s c
    · by_cases hm : c ∈ m
      · have hl : c ∉ l := fun hl => hdisjoint c hl hm
        rw [if_neg fun x => hl x.1] at hc
        rw [if_pos ⟨hm, (h.samples c).2 hs⟩, if_pos ⟨List.mem_append_right l hm, hs⟩, reading_sampled hc]
      · rw [if_neg fun x => hm x.1, hc]
        simp only [List.mem_append, hm, or_false]
    · rw [if_neg fun x => hs ((h.samples c).1 x.2), hc, if_neg fun x => hs x.2, if_neg fun x => hs x.2]
  · rcases k.state c with e | ⟨e, e'⟩
    · rw [e]
      exact h.state c
    · refine .inr ⟨?_, e'⟩
      rcases h.state c with f | ⟨f, f'⟩
      · rw [← f, e]
      · exact f

theorem Measured.quiet_trans {l : List ChanId} {s t u : State} (h : Measured l s t) (k : Measured [] t u) :
    Measured l s u := by
  have := h.trans k fun _ _ => List.not_mem_nil
  rwa [List.append_nil] at this

/-! ### The parts of a second -/

theorem measured_request (s : State) (c : ChanId) (r : Reason) (fromPause atHead : Bool) :
    Measured [] s (s.request c r fromPause atHead).1 := by
  obtain ⟨hchan, -, -, hframe⟩ := asked_request s c r fromPause atHead
  refine .of_quiet ?_ (fun d => by rw [hchan]; rfl) fun d => by rw [hchan]
  have := congrArg (fun x : State => { x with
    slots := s.slots, srcG := s.srcG, srcP := s.srcP, srcM := s.srcM, srcControl := s.srcControl
    pool := s.pool, arb := s.arb, exch := s.exch, draws := s.draws, fault := s.fault }) hframe
  exact this

theorem measured_triggers (s : State) (c : ChanId) : Measured [] s (s.triggers c) := by
  unfold State.triggers
  dsimp only
  split
  · split
    · exact measured_request s c _ false false
    · exact .refl s
  · split
    · exact measured_request s c _ false false
    · exact .refl s
  · exact .refl s

theorem measured_sample {s : State} {c : ChanId} (h : samples s c) :
    Measured [c] s (agedCurrent (s.modChan c Chan.sampled) c) := by
  have hchan (d : ChanId) : (agedCurrent (s.modChan c Chan.sampled) c).chan d
      = if d = c then (s.chan d).sampled else s.chan d := by
    refine Eq.trans ?_ (State.chan_modChan s c d Chan.sampled)
    unfold agedCurrent
    split <;> rfl
  refine ⟨by unfold agedCurrent; split <;> rfl, fun d => ?_, fun d => .inl ?_⟩
  · rw [hchan]
    by_cases hd : d = c
    · subst hd
      rw [if_pos rfl, if_pos ⟨List.mem_singleton_self d, h⟩]
    · rw [if_neg hd, if_neg fun x => hd (List.mem_singleton.1 x.1)]
  · rw [hchan]
    split <;> rfl

theorem measured_evaluate (s : State) (c : ChanId) : Measured [c] s (s.evaluate c) := by
  rw [evaluate_eq]
  by_cases h : samples s c
  · rw [if_pos h]
    exact (measured_sample h).quiet_trans (measured_triggers _ c)
  · rw [if_neg h]
    exact ⟨rfl, fun d => by
      rw [if_neg]
      rintro ⟨hd, hs⟩
      rw [List.mem_singleton.1 hd] at hs
      exact h hs, fun _ => .inl rfl⟩

theorem measured_evaluates {l : List ChanId} (hl : l.Nodup) (s : State) : Measured l s (l.foldl State.evaluate s) := by
  induction l generalizing s with
  | nil => exact .refl s
  | cons c l ih =>
    obtain ⟨hc, hl⟩ := List.nodup_cons.1 hl
    exact (measured_evaluate s c).trans (ih hl _) fun d hd => by
      rw [List.mem_singleton.1 hd]
      exact hc

theorem measured_retries (l : List ChanId) (s : State) : Measured [] s (l.foldl State.retryOpen s) := by
  induction l generalizing s with
  | nil => exact .refl s
  | cons c l ih =>
    have hone : Measured [] s (s.retryOpen c) := by
      unfold State.retryOpen
      split
      · exact measured_request s c _ false false
      · exact .refl s
    exact hone.quiet_trans (ih _)

theorem measured_reserved (s : State) (c : ChanId) (i : SlotId) : Measured [] s (reserved s c i) :=
  .of_quiet rfl (fun _ => rfl) fun _ => rfl

theorem measured_startExchange (s : State) (c : ChanId) (r : Reason) (i : SlotId) :
    Measured [] s (s.startExchange c r i) := by
  obtain ⟨-, -, hchan, -, hframe⟩ := started s c r i
  refine .of_quiet ?_ (fun d => ?_) fun d => ?_
  · have := congrArg (fun x : State => { x with
      slots := s.slots, srcG := s.srcG, srcP := s.srcP, srcM := s.srcM, arb := s.arb, sched := s.sched
      fault := s.fault }) hframe
    exact this
  · rw [hchan]
    split
    next e => rw [e]; rfl
    next => rfl
  · rw [hchan]
    split
    next e => rw [e]
    next => rfl

theorem measured_raise (s : State) (k : FaultKind) (c : Option ChanId) : Measured [] s (s.raise k c) := by
  obtain ⟨_, _, _, _, hraise, -⟩ := s.raise_step k c none none
  rw [hraise]
  exact .of_quiet rfl (fun _ => rfl) fun _ => rfl

theorem measured_startOne (s : State) : Measured [] s s.startOne.1 := by
  unfold State.startOne
  split
  · exact .refl s
  · split
    · split
      · unfold State.keyStoreFull
        split
        · exact .refl s
        · have hnote (x : Scheduler) : Measured [] s { s with sched := x } := .of_quiet rfl (fun _ => rfl) fun _ => rfl
          exact (hnote _).quiet_trans (measured_raise ..)
      next u i h =>
        rw [(reserve_eq_some h).1]
        have hunlist (v : State) (c : ChanId) : Measured [] v (v.unlist c) := .of_quiet rfl (fun _ => rfl) fun _ => rfl
        exact ((measured_reserved ..).quiet_trans (hunlist ..)).quiet_trans (measured_startExchange ..)
    · exact .refl s

theorem measured_startTest (n : Nat) (s : State) : Measured [] s (State.startTest n s) := by
  induction n generalizing s with
  | zero => exact .refl s
  | succ n ih =>
    have hone := measured_startOne s
    unfold State.startTest
    split
    next t h => rw [h] at hone; exact hone.quiet_trans (ih t)
    next t h => rw [h] at hone; exact hone

theorem measured_noteAhead (s : State) (c : ChanId) : Measured [] s (s.noteAhead c) := by
  unfold State.noteAhead
  split
  · exact .of_quiet rfl (fun _ => rfl) fun _ => rfl
  · exact .refl s

theorem measured_aheadStarts (l : List ChanId) (n : Nat) (s : State) : Measured [] s (State.aheadStarts l n s) := by
  induction l generalizing n s with
  | nil => exact .refl s
  | cons c l ih =>
    cases n with
    | zero => exact .refl s
    | succ n =>
      unfold State.aheadStarts
      split
      · split
        · exact .refl s
        next u i h =>
          rw [(reserve_eq_some h).1]
          exact (((measured_reserved s c i).quiet_trans (measured_startExchange ..)).quiet_trans
            (measured_noteAhead ..)).quiet_trans (ih n _)
      · exact ih (n + 1) s

theorem measured_aheadStep (s : State) : Measured [] s s.aheadStep := by
  unfold State.aheadStep
  split
  · exact measured_aheadStarts ..
  · exact .refl s

theorem measured_reportTest (s : State) (b : Bool) : Measured [] s (s.reportTest b) := by
  have hframe := reportTest_frame s b
  generalize s.reportTest b = t at hframe
  refine .of_quiet ?_ (fun d => ?_) fun d => ?_
  · have := congrArg (fun x : State => { x with
      chans := s.chans, slots := s.slots, srcG := s.srcG, srcP := s.srcP, srcM := s.srcM, arb := s.arb, sched := s.sched
      exch := s.exch, draws := s.draws, portG := s.portG, portP := s.portP, portM := s.portM }) hframe
    exact this
  · have := congrArg (fun x : State => reading (x.chan d)) hframe
    exact this
  · have := congrArg (fun x : State => (x.chan d).state) hframe
    exact this

/-- The consultation at the end of the second may freeze LIVE channels. -/
theorem measured_rest (s : State) : Measured [] s s.rest := by
  rcases rest_cases s with h | ⟨a, h, ⟨hframe, hchan, -⟩, -⟩
  · rw [h]
    exact .refl s
  · rw [h]
    refine ⟨?_, fun d => ?_, fun d => ?_⟩
    · have := congrArg (fun x : State => { x with
        slots := s.slots, pool := s.pool, arb := s.arb, sched := s.sched, exch := s.exch, draws := s.draws }) hframe
      exact this
    · rw [if_neg fun x => List.not_mem_nil x.1]
      have ha : reading (a.chan d) = reading (s.chan d) := by
        rcases hchan d with e | ⟨-, e, -⟩
        · rw [e]
        · rw [e]
          rfl
      exact ha
    · rcases hchan d with e | ⟨hl, e, -⟩
      · exact .inl (congrArg Chan.state e)
      · exact .inr ⟨hl, congrArg Chan.state e⟩

/-- A second after its clock has stepped. -/
theorem measured_everySecond (s : State) : Measured allChans s s.everySecond.rest := by
  have hev := measured_evaluates (List.nodup_finRange 32) s
  have hall : Measured allChans s (State.aheadStep (State.startTest 4 (allChans.foldl State.retryOpen
      (allChans.foldl State.evaluate s)))) :=
    ((hev.quiet_trans (measured_retries allChans _)).quiet_trans (measured_startTest 4 _)).quiet_trans
      (measured_aheadStep _)
  exact (hall.quiet_trans (measured_reportTest _ false)).quiet_trans (measured_rest _)

end Sys2Proof.Proofs

/-! The evaluation of one channel (R92 to R96), the OPEN retry (R100), and the ahead renewal (R107, R108). -/

namespace Sys2Proof.Proofs
open Sys2Proof.Machine

/-! ### Triggers (R96, R14) -/

section
variable {s : State} {c : ChanId}

/-- The trigger of a channel's own record and key. -/
abbrev triggerOf (s : State) (c : ChanId) : Option Reason :=
  trigger (s.chan c) (((s.curKeyed c).map (·.wear)).getD 0) (((s.curKeyed c).map (·.age)).getD 0)

theorem triggers_of_reason (h : (s.chan c).renewal = .idle) {r : Reason} (hr : triggerOf s c = some r) :
    s.triggers c = (s.request c r false false).1 := by
  unfold triggerOf at hr
  simp only [State.triggers, h, hr]

theorem triggers_of_none (h : (s.chan c).renewal = .idle) (hr : triggerOf s c = none) : s.triggers c = s := by
  unfold triggerOf at hr
  simp only [State.triggers, h, hr]

theorem triggers_of_frozen (h : (s.chan c).renewal = .listed) (hf : (s.chan c).state = .frozen) :
    s.triggers c = (s.request c .hard false false).1 := by
  simp only [State.triggers, h, hf, if_true]

theorem triggers_of_else (h : (s.chan c).renewal ≠ .idle)
    (hf : ¬ ((s.chan c).renewal = .listed ∧ (s.chan c).state = .frozen)) : s.triggers c = s := by
  unfold State.triggers
  dsimp only
  split
  next hi => exact absurd hi h
  next hl => exact if_neg fun x => hf ⟨hl, x⟩
  next => rfl

theorem asked_triggers (s : State) (c : ChanId) : Asked s (s.triggers c) c := by
  by_cases hi : (s.chan c).renewal = .idle
  · cases hr : triggerOf s c with
    | none => rw [triggers_of_none hi hr]; exact .refl s c
    | some r => rw [triggers_of_reason hi hr]; exact asked_request ..
  · by_cases hf : (s.chan c).renewal = .listed ∧ (s.chan c).state = .frozen
    · rw [triggers_of_frozen hf.1 hf.2]
      exact asked_request ..
    · rw [triggers_of_else hi hf]
      exact .refl s c

end

/-- The part after the sample and the age step of a channel whose current slot is `i` (R92, R93, R95). -/
def sampledAt (s : State) (c : ChanId) (i : SlotId) : State := (s.modChan c Chan.sampled).modSlot i Slot.aged

theorem chan_sampledAt (s : State) (c d : ChanId) (i : SlotId) :
    (sampledAt s c i).chan d = if d = c then (s.chan d).sampled else s.chan d := State.chan_modChan s c d Chan.sampled

theorem slot_sampledAt (s : State) (c : ChanId) (i j : SlotId) :
    (sampledAt s c i).slot j = if j = i then (s.slot i).aged else s.slot j :=
  slot_modSlot_at (s.modChan c Chan.sampled) i j Slot.aged

theorem evaluate_of_cur {s : State} {c : ChanId} {i : SlotId} (hs : samples s c) (hcur : (s.chan c).cur = some i) :
    s.evaluate c = (sampledAt s c i).triggers c := by
  have hcur' : ((s.modChan c Chan.sampled).chan c).cur = some i := by
    rw [State.chan_modChan, if_pos rfl]
    exact hcur
  rw [evaluate_eq, if_pos hs, agedCurrent, hcur']
  rfl

/-- R92 to R96, R14, R99: the evaluation of a LIVE or FROZEN channel with a current slot. -/
theorem evaluateAgesAndLists (s : State) (c : ChanId) (i : SlotId) (k : Keyed) (hs : samples s c)
    (hcur : (s.chan c).cur = some i) (hk : (s.slot i).keyed = some k) :
    let t := s.evaluate c
    let l := (s.chan c).limits
    let age := min (k.age + 1) max32
    let rate := estimate (s.chan c).rate (sampleOf (s.chan c).units)
    let reason : Option Reason :=
      if (s.chan c).state = .frozen then some .hard
      else if l.soft ≤ k.wear then some .wear
      else if projection l.hard k.wear rate ≤ l.lead then some .projected
      else if l.age ≤ age then some .age
      else none
    t.slot i = { s.slot i with keyed := some { k with age := age } } ∧ (∀ j, j ≠ i → t.slot j = s.slot j)
    ∧ (∀ d, d ≠ c → t.chan d = s.chan d)
    ∧ (let stays := t.sched = s.sched ∧ (t.chan c).renewal = (s.chan c).renewal
      ((s.chan c).renewal = .idle →
        (reason = none ∨ 31 ≤ s.sched.waitList.length → stays)
        ∧ (∀ r, reason = some r → s.sched.waitList.length < 31 → (t.chan c).renewal = .listed
          ∧ t.sched.waitList = (if r.urgent then (s.sched.waitList.filter fun e => e.reason.urgent) ++ ⟨c, r⟩
                :: (s.sched.waitList.filter fun e => !e.reason.urgent)
              else s.sched.waitList ++ [⟨c, r⟩])))
      ∧ (∀ e, (s.chan c).renewal = .listed → (s.chan c).state = .frozen → s.entryOf c = some e →
        (e.reason.urgent = true → stays)
        ∧ (e.reason.urgent = false → (t.chan c).renewal = .listed
          ∧ (let l := s.sched.waitList.filter fun x => x.chan ≠ c
            t.sched = { s.sched with waitList := (l.filter fun x => x.reason.urgent) ++ ⟨c, .hard⟩
              :: (l.filter fun x => !x.reason.urgent) })
          ∧ (t.port (s.chan c).owner.port).latches.channel = true))
      ∧ ((s.chan c).renewal ≠ .idle → ¬ ((s.chan c).renewal = .listed ∧ (s.chan c).state = .frozen) → stays)) := by
  intro t l age rate reason
  have ht : t = (sampledAt s c i).triggers c := evaluate_of_cur hs hcur
  have hchan (d : ChanId) := chan_sampledAt s c d i
  have hslot (j : SlotId) := slot_sampledAt s c i j
  have hsched : (sampledAt s c i).sched = s.sched := rfl
  have hown : (sampledAt s c i).chan c = (s.chan c).sampled := by rw [hchan, if_pos rfl]
  have hreason : triggerOf (sampledAt s c i) c = reason := by
    have hcur' : ((s.chan c).sampled).cur = some i := hcur
    have hkeyed : (sampledAt s c i).curKeyed c = some { k with age := age } := by
      rw [State.curKeyed, hown, hcur', Option.bind_some, hslot, if_pos rfl, Slot.aged, hk]
      rfl
    rw [triggerOf, hkeyed, hown]
    rfl
  clear_value t reason
  generalize sampledAt s c i = u at *
  have hstate : (u.chan c).state = (s.chan c).state := by rw [hown]; rfl
  have hren : (u.chan c).renewal = (s.chan c).renewal := by rw [hown]; rfl
  have hlive : (u.chan c).state = .live ∨ (u.chan c).state = .frozen := by rw [hstate]; exact hs
  have hne {st : ChanState} (h1 : ChanState.live ≠ st) (h2 : ChanState.frozen ≠ st) : (u.chan c).state ≠ st := by
    rcases hlive with h | h <;> rw [h] <;> assumption
  have hstays (h : t = u) : t.sched = s.sched ∧ (t.chan c).renewal = (s.chan c).renewal := by
    rw [h]
    exact ⟨hsched, hren⟩
  obtain ⟨-, hothers, -, hframe⟩ := asked_triggers u c
  rw [← ht] at hothers hframe
  have htslot (j : SlotId) : t.slot j = u.slot j := by
    have := congrArg (State.slot · j) hframe
    exact this
  refine ⟨?_, fun j hj => ?_, fun d hd => ?_, fun hidle => ⟨fun h => hstays ?_, fun r hr hroom => ?_⟩,
    fun e hl hf he => ⟨fun hu => hstays ?_, fun hu => ?_⟩, fun hi hl => hstays ?_⟩
  · rw [htslot, hslot, if_pos rfl, Slot.aged, hk]
    rfl
  · rw [htslot, hslot, if_neg hj]
  · rw [hothers d hd, hchan, if_neg hd]
  · rw [← hren] at hidle
    cases hr : triggerOf u c with
    | none => rw [ht, triggers_of_none hidle hr]
    | some r =>
      have hfull : 31 ≤ u.sched.waitList.length := by
        rw [hsched]
        exact h.resolve_left fun hn => by rw [hreason, hn] at hr; cases hr
      rw [ht, triggers_of_reason hidle hr, request_of_idle (hne nofun nofun) (hne nofun nofun) hidle, join_of_full hfull]
  · rw [← hren] at hidle
    have hjoin : t = (u.join c r false).1 := by
      rw [ht, triggers_of_reason hidle (hreason.trans hr),
        request_of_idle (hne nofun nofun) (hne nofun nofun) hidle, if_neg (hne (st := .openWait) nofun nofun)]
    obtain ⟨hjown, -, hlist, -⟩ := joinedList_join (s := u) (by rw [hsched]; exact hroom) c r false
    rw [hjoin]
    refine ⟨by rw [hjown], ?_⟩
    rw [hlist, hsched, placeEntry]
    rfl
  · rw [← hren] at hl
    have he' : u.entryOf c = some e := by rw [State.entryOf, hsched]; exact he
    rw [ht, triggers_of_frozen hl (hstate.trans hf), request_of_listed (hne nofun nofun) (hne nofun nofun) hl,
      if_neg (hne (st := .openWait) nofun nofun), relist_of_entry he' rfl, if_pos hu]
  · have hl' : (u.chan c).renewal = .listed := hren.trans hl
    have he' : u.entryOf c = some e := by rw [State.entryOf, hsched]; exact he
    have hmoved : t = movedUp u c .hard := by
      rw [ht, triggers_of_frozen hl' (hstate.trans hf), request_of_listed (hne nofun nofun) (hne nofun nofun) hl',
        if_neg (hne (st := .openWait) nofun nofun), relist_of_entry he' rfl, if_neg (by rw [hu]; nofun)]
    rw [hmoved, movedUp]
    refine ⟨?_, ?_, ?_⟩
    · rw [chan_tellChannel]
      exact hl'
    · rw [tellChannel_sched]
      dsimp only
      rw [placeEntry_urgent rfl]
      simp only [State.unlist, bne_eq_decide_ne, hsched]
    · have hlatch := latched_tellChannel { u.unlist c with
        sched := { (u.unlist c).sched with waitList := placeEntry (u.unlist c).sched.waitList ⟨c, .hard⟩ false } } c
      have howner : (u.chan c).owner = (s.chan c).owner := by rw [hown]; rfl
      rw [← howner]
      exact hlatch
  · rw [ht, triggers_of_else (by rw [hren]; exact hi) (by rw [hren, hstate]; exact hl)]

/-- R100: the OPEN retry. -/
theorem retryOpenLists (s : State) (c : ChanId) :
    let waits := (s.chan c).state = .openWait ∧ (s.chan c).renewal = .idle
    (waits → s.sched.waitList.length < 31 →
      (s.retryOpen c).chan c = { s.chan c with renewal := .listed, pause := none, pauseReason := none }
      ∧ (∀ d, d ≠ c → (s.retryOpen c).chan d = s.chan d)
      ∧ (s.retryOpen c).sched.waitList = (s.sched.waitList.filter fun e => e.reason.urgent)
        ++ ⟨c, .openKey⟩ :: s.sched.waitList.filter fun e => !e.reason.urgent)
    ∧ (¬ waits ∨ 31 ≤ s.sched.waitList.length → s.retryOpen c = s) := by
  intro waits
  have hretry (h : waits) : s.retryOpen c = (s.join c .openKey false).1 := by
    rw [State.retryOpen, if_pos h, request_of_idle (by rw [h.1]; nofun) (by rw [h.1]; nofun) h.2, if_pos h.1]
  refine ⟨fun h hroom => ?_, fun h => ?_⟩
  · obtain ⟨hown, hothers, hlist, -⟩ := joinedList_join hroom c .openKey false
    rw [hretry h]
    exact ⟨hown, hothers, hlist.trans (placeEntry_urgent rfl _)⟩
  · by_cases hw : waits
    · rw [hretry hw, join_of_full (h.resolve_left fun x => x hw)]
    · exact if_neg hw

/-! ### The walk (R108) -/

theorem length_aheadWalk (n : Nat) (rotating : Bool) : (aheadWalk n rotating).length = 31 := by simp [aheadWalk]

/-- The channel at a place of the walk. -/
theorem aheadWalk_getElem? {n i : Nat} {rotating : Bool} {c : ChanId} (h : (aheadWalk n rotating)[i]? = some c) :
    i < 31 ∧ c.val = if rotating = true then (n + i) % 31 + 1 else i + 1 := by
  obtain ⟨hi, hc⟩ := List.getElem?_eq_some_iff.1 h
  rw [length_aheadWalk] at hi
  refine ⟨hi, ?_⟩
  simp only [aheadWalk, List.getElem_map, List.getElem_range] at hc
  rw [← hc, Fin.val_ofNat]
  split <;> omega

theorem aheadWalk_place {n i : Nat} (rotating : Bool) (hi : i < 31) : ∃ c, (aheadWalk n rotating)[i]? = some c :=
  ⟨_, List.getElem?_eq_getElem (by rw [length_aheadWalk]; exact hi)⟩

theorem aheadWalkFromTheCursor (n : Nat) (rotating : Bool) (hn : n ≤ 31) :
    let walk := aheadWalk n rotating
    walk.length = 31 ∧ (∀ c : ChanId, c ∈ walk ↔ c ≠ 0)
    ∧ (walk.head?.map fun c => c.val) = some (if rotating = true ∧ n ≠ 31 then n + 1 else 1)
    ∧ ∀ (i : Nat) (c d : ChanId), walk[i]? = some c → walk[i + 1]? = some d →
      d.val = if c.val = 31 then 1 else c.val + 1 := by
  intro walk
  refine ⟨length_aheadWalk n rotating, fun c => ⟨fun h => ?_, fun h => ?_⟩, ?_, fun i c d hc hd => ?_⟩
  · obtain ⟨i, hi⟩ := List.mem_iff_getElem?.1 h
    obtain ⟨-, hval⟩ := aheadWalk_getElem? hi
    rintro rfl
    simp only [Fin.val_zero] at hval
    split at hval <;> omega
  · have hpos : 0 < c.val := Nat.pos_of_ne_zero fun hz => h (Fin.ext hz)
    have hlt := c.isLt
    obtain ⟨i, hi, hval⟩ : ∃ i, i < 31 ∧ c.val = if rotating = true then (n + i) % 31 + 1 else i + 1 := by
      by_cases hr : rotating = true
      · refine ⟨(c.val + 61 - n) % 31, by omega, ?_⟩
        rw [if_pos hr]
        omega
      · exact ⟨c.val - 1, by omega, by rw [if_neg hr]; omega⟩
    obtain ⟨d, hd⟩ := aheadWalk_place (n := n) rotating hi
    have hcd : c = d := Fin.ext (hval.trans (aheadWalk_getElem? hd).2.symm)
    rw [hcd]
    exact List.mem_iff_getElem?.2 ⟨i, hd⟩
  · obtain ⟨c, hc⟩ := aheadWalk_place (n := n) (i := 0) rotating (by decide)
    obtain ⟨-, hval⟩ := aheadWalk_getElem? hc
    have hhead : walk.head? = some c := by rw [List.head?_eq_getElem?]; exact hc
    rw [hhead, Option.map_some, hval]
    congr 1
    by_cases hr : rotating = true
    · by_cases hlast : n = 31
      · rw [if_pos hr, if_neg fun x => x.2 hlast]
        omega
      · rw [if_pos hr, if_pos ⟨hr, hlast⟩]
        omega
    · rw [if_neg hr, if_neg fun x => hr x.1]
  · obtain ⟨hi, hcval⟩ := aheadWalk_getElem? hc
    obtain ⟨hi', hdval⟩ := aheadWalk_getElem? hd
    rw [hcval, hdval]
    by_cases hr : rotating = true
    · simp only [if_pos hr]
      split <;> omega
    · simp only [if_neg hr]
      split <;> omega

/-! ### Ahead starts (R107) -/

/-- A channel halfway to a trigger, with status IDLE (R107). -/
def worn (s : State) (c : ChanId) : Prop := (s.chan c).state = .live ∧ (s.chan c).renewal = .idle
  ∧ ∃ k, s.curKeyed c = some k ∧ ((s.chan c).limits.soft ≤ 2 * k.wear ∨ (s.chan c).limits.age ≤ 2 * k.age)

theorem aheadReady_iff (s : State) (c : ChanId) : s.aheadReady c = true ↔ worn s c := by
  unfold State.aheadReady worn
  cases s.curKeyed c with
  | none => simp
  | some k => simp [and_assoc]

/-- Where no channel of the walk is halfway worn, or no slot is EMPTY, nothing starts. -/
theorem aheadStarts_of_none {s : State} {l : List ChanId}
    (h : (∀ c ∈ l, ¬ worn s c) ∨ ∀ i, (s.slot i).state ≠ .empty) (n : Nat) : State.aheadStarts l n s = s := by
  induction l generalizing n with
  | nil => rfl
  | cons c l ih =>
    cases n with
    | zero => rfl
    | succ n =>
      have hrest := ih (h.imp_left fun hl d hd => hl d (List.mem_cons_of_mem c hd)) (n + 1)
      by_cases hc : worn s c
      · have hfull := h.resolve_left fun hl => hl c List.mem_cons_self hc
        simp only [State.aheadStarts, (aheadReady_iff s c).2 hc, if_true, reserve_of_full hfull]
      · rw [State.aheadStarts, if_neg fun x => hc ((aheadReady_iff s c).1 x)]
        exact hrest

theorem aheadStarts_skip {s : State} {before : List ChanId} (h : ∀ c ∈ before, ¬ worn s c) (l : List ChanId) (n : Nat) :
    State.aheadStarts (before ++ l) (n + 1) s = State.aheadStarts l (n + 1) s := by
  induction before with
  | nil => rfl
  | cons c before ih =>
    rw [List.cons_append, State.aheadStarts,
      if_neg fun x => h c List.mem_cons_self ((aheadReady_iff s c).1 x)]
    exact ih fun d hd => h d (List.mem_cons_of_mem c hd)

/-- The part after one AHEAD start. -/
def aheadStarted (s : State) (c : ChanId) (i : SlotId) : State :=
  ((reserved s c i).startExchange c .ahead i).noteAhead c

theorem aheadStarts_of_worn {s : State} {c : ChanId} {i : SlotId} (h : worn s c)
    (hr : s.reserve c = some (reserved s c i, i)) (l : List ChanId) (n : Nat) :
    State.aheadStarts (c :: l) (n + 1) s = State.aheadStarts l n (aheadStarted s c i) := by
  simp only [State.aheadStarts, (aheadReady_iff s c).2 h, if_true, hr]
  rfl

/-- What one AHEAD start writes. -/
structure AheadStarted (s t : State) (c : ChanId) (i : SlotId) : Prop where
  exch : t.exch = s.exch ++ [⟨c, .ahead, .asking, 1, Config.nonce s.draws, i, none, none,
    some (s.uptime + s.settings.reply + 2), none, false⟩]
  chan : ∀ d, t.chan d = if d = c then { s.chan c with renewal := .exchanging } else s.chan d
  slot : ∀ j, t.slot j = if j = i then { Slot.wiped with state := .reserved, chan := some c } else s.slot j
  sched : t.sched = { s.sched with ahead := if s.settings.aheadRotating then c.val else s.sched.ahead }
  settings : t.settings = s.settings

theorem aheadStarted_spec (s : State) (c : ChanId) (i : SlotId) : AheadStarted s (aheadStarted s c i) c i := by
  obtain ⟨hexch, -, hchan, -, hframe⟩ := started (reserved s c i) c .ahead i
  have hslot (j : SlotId) := slot_reserved s c i j
  have hbase : (reserved s c i).exch = s.exch ∧ (reserved s c i).draws = s.draws ∧ (reserved s c i).uptime = s.uptime
      ∧ (reserved s c i).settings = s.settings ∧ (reserved s c i).sched = s.sched := ⟨rfl, rfl, rfl, rfl, rfl⟩
  have hbchan (d : ChanId) : (reserved s c i).chan d = s.chan d := rfl
  unfold aheadStarted
  generalize reserved s c i = u at *
  have husettings : (u.startExchange c .ahead i).settings = u.settings := by
    have := congrArg State.settings hframe
    exact this
  have husched : (u.startExchange c .ahead i).sched = u.sched := by
    have := congrArg State.sched hframe
    exact this
  have huslot (j : SlotId) : (u.startExchange c .ahead i).slot j = u.slot j := by
    have := congrArg (State.slot · j) hframe
    exact this
  generalize u.startExchange c .ahead i = v at *
  obtain ⟨hbexch, hbdraws, hbuptime, hbsettings, hbsched⟩ := hbase
  rw [hbexch, hbdraws, hbuptime, hbsettings] at hexch
  rw [hbsettings] at husettings
  rw [hbsched] at husched
  have hnote : v.noteAhead c = { v with
      sched := { v.sched with ahead := if v.settings.aheadRotating then c.val else v.sched.ahead } } := by
    unfold State.noteAhead
    split <;> rfl
  rw [hnote]
  refine ⟨hexch, fun d => ?_, fun j => ?_, ?_, husettings⟩
  · exact (hchan d).trans (by rw [hbchan, hbchan])
  · exact (huslot j).trans (hslot j)
  · rw [husched, husettings]

/-- A channel that is halfway worn after a start of another one was so before it. -/
theorem AheadStarted.worn {s t : State} {c d : ChanId} {i : SlotId} (h : AheadStarted s t c i) (hw : worn t d) :
    d ≠ c ∧ Proofs.worn s d := by
  obtain ⟨hlive, hidle, k, hk, hhalf⟩ := hw
  have hd : d ≠ c := by
    rintro rfl
    rw [h.chan, if_pos rfl] at hidle
    cases hidle
  have hchan : t.chan d = s.chan d := by rw [h.chan, if_neg hd]
  rw [hchan] at hlive hidle hhalf
  refine ⟨hd, hlive, hidle, k, ?_, hhalf⟩
  unfold State.curKeyed at hk ⊢
  rw [hchan] at hk
  obtain ⟨j, hj, hkj⟩ := Option.bind_eq_some_iff.1 hk
  rw [h.slot] at hkj
  rw [hj, Option.bind_some]
  split at hkj
  · cases hkj
  · exact hkj

/-- What the AHEAD starts along a walk leave, with the entries `more` that they append. -/
structure AheadRun (s t : State) (l : List ChanId) (n : Nat) (more : List Exchange) : Prop where
  exch : t.exch = s.exch ++ more
  length : more.length ≤ n
  entries : ∀ x ∈ more, x.reason = .ahead ∧ worn s x.chan ∧ x.chan ∈ l
  chan : ∀ d, (∀ x ∈ more, x.chan ≠ d) → t.chan d = s.chan d
  slot : ∀ j, (s.slot j).state ≠ .empty → t.slot j = s.slot j
  sched : t.sched = { s.sched with ahead := if s.settings.aheadRotating
    then (more.getLast?.map fun x => x.chan.val).getD s.sched.ahead else s.sched.ahead }

theorem AheadRun.refl (s : State) (l : List ChanId) (n : Nat) : AheadRun s s l n [] :=
  ⟨(List.append_nil _).symm, Nat.zero_le n, fun _ h => absurd h List.not_mem_nil, fun _ _ => rfl, fun _ _ => rfl,
    (congrArg (fun n => { s.sched with ahead := n }) (ite_self s.sched.ahead)).symm⟩

theorem AheadRun.start {s u t : State} {c : ChanId} {i : SlotId} {l : List ChanId} {n : Nat} {more : List Exchange}
    (hw : worn s c) (hempty : (s.slot i).state = .empty) (h : AheadStarted s u c i) (k : AheadRun u t l n more) :
    AheadRun s t (c :: l) (n + 1) (⟨c, .ahead, .asking, 1, Config.nonce s.draws, i, none, none,
      some (s.uptime + s.settings.reply + 2), none, false⟩ :: more) := by
  refine ⟨?_, Nat.succ_le_succ k.length, fun x hx => ?_, fun d hd => ?_, fun j hj => ?_, ?_⟩
  · rw [k.exch, h.exch, List.append_assoc]
    rfl
  · rcases List.mem_cons.1 hx with rfl | hx
    · exact ⟨rfl, hw, List.mem_cons_self⟩
    · obtain ⟨hreason, hworn, hmem⟩ := k.entries x hx
      exact ⟨hreason, (h.worn hworn).2, List.mem_cons_of_mem c hmem⟩
  · rw [k.chan d fun x hx => hd x (List.mem_cons_of_mem _ hx), h.chan, if_neg (hd _ List.mem_cons_self).symm]
  · have hne : j ≠ i := by
      rintro rfl
      exact hj hempty
    have huj : u.slot j = s.slot j := by rw [h.slot, if_neg hne]
    rw [k.slot j (by rw [huj]; exact hj), huj]
  · rw [k.sched, h.sched, h.settings]
    cases hrot : s.settings.aheadRotating with
    | false => rfl
    | true =>
      cases more with
      | nil => rfl
      | cons x more => rfl

theorem aheadRun_exists (l : List ChanId) (n : Nat) (s : State) : ∃ more, AheadRun s (State.aheadStarts l n s) l n more := by
  induction l generalizing n s with
  | nil => exact ⟨[], .refl s _ n⟩
  | cons c l ih =>
    cases n with
    | zero => exact ⟨[], .refl s _ 0⟩
    | succ n =>
      by_cases hw : worn s c
      · cases hr : s.reserve c with
        | none =>
          have hstop : State.aheadStarts (c :: l) (n + 1) s = s := by
            simp only [State.aheadStarts, (aheadReady_iff s c).2 hw, if_true, hr]
          rw [hstop]
          exact ⟨[], .refl s _ _⟩
        | some q =>
          obtain ⟨u, i⟩ := q
          obtain ⟨hu, hempty⟩ := reserve_eq_some hr
          subst hu
          rw [aheadStarts_of_worn hw hr]
          obtain ⟨more, hrun⟩ := ih n (aheadStarted s c i)
          exact ⟨_, .start hw hempty (aheadStarted_spec s c i) hrun⟩
      · obtain ⟨more, hrun⟩ := ih (n + 1) s
        rw [State.aheadStarts, if_neg fun x => hw ((aheadReady_iff s c).1 x)]
        exact ⟨more, hrun.exch, hrun.length, fun x hx => by
          obtain ⟨hreason, hworn, hmem⟩ := hrun.entries x hx
          exact ⟨hreason, hworn, List.mem_cons_of_mem c hmem⟩, hrun.chan, hrun.slot, hrun.sched⟩

/-- R107, R108: the ahead step. -/
theorem aheadStepStartsTheWorn (s : State) (hmode : s.mode = .running) :
    let walk := aheadWalk s.sched.ahead s.settings.aheadRotating
    let most := min s.settings.aheadMax (4 - s.exch.length)
    let takes := s.sched.waitList = [] ∧ (s.chan 0).state = .live ∧ 0 < most
    (¬ takes ∨ (∀ c ∈ walk, ¬ worn s c) ∨ (∀ i, (s.slot i).state ≠ .empty) → s.aheadStep = s)
    ∧ (∀ before c after (i : SlotId), takes → walk = before ++ c :: after → (∀ d ∈ before, ¬ worn s d) → worn s c →
      (s.slot i).state = .empty → (∀ j, j < i → (s.slot j).state ≠ .empty) →
      let t := s.aheadStep
      t.slot i = { Slot.wiped with state := .reserved, chan := some c }
      ∧ t.chan c = { s.chan c with renewal := .exchanging } ∧ t.sched.waitList = []
      ∧ ∃ more, t.exch = s.exch ++ ⟨c, .ahead, .asking, 1, Config.nonce s.draws, i, none, none,
            some (s.uptime + s.settings.reply + 2), none, false⟩ :: more
        ∧ more.length + 1 ≤ most ∧ (∀ x ∈ more, x.reason = .ahead ∧ worn s x.chan ∧ x.chan ∈ after)
        ∧ (∀ d, d ≠ c → (∀ x ∈ more, x.chan ≠ d) → t.chan d = s.chan d)
        ∧ t.sched.ahead = (if s.settings.aheadRotating
            then ((more.getLast?.map fun x => x.chan.val).getD c.val) else s.sched.ahead)) := by
  intro walk most takes
  have htakes : takes ↔ s.sched.waitList = [] ∧ (s.chan 0).state = .live ∧ s.exch.length < 4
      ∧ 0 < s.settings.aheadMax := by
    refine and_congr_right fun _ => and_congr_right fun _ => ?_
    unfold most
    omega
  have hstep (h : takes) : s.aheadStep = State.aheadStarts walk most s := if_pos (htakes.1 h)
  refine ⟨fun h => ?_, fun before c after i h hwalk hbefore hw hempty hlow => ?_⟩
  · by_cases ht : takes
    · rw [hstep ht, aheadStarts_of_none (h.resolve_left fun x => x ht)]
    · exact if_neg fun x => ht (htakes.2 x)
  · intro t
    obtain ⟨n, hn⟩ : ∃ n, most = n + 1 := Nat.exists_eq_succ_of_ne_zero (Nat.ne_of_gt h.2.2)
    have hspec := aheadStarted_spec s c i
    have ht : t = State.aheadStarts after n (aheadStarted s c i) := by
      rw [show t = _ from hstep h, hwalk, hn, aheadStarts_skip hbefore,
        aheadStarts_of_worn hw (reserve_of_lowest hmode hempty hlow c)]
    obtain ⟨more, hrun⟩ := aheadRun_exists after n (aheadStarted s c i)
    rw [← ht] at hrun
    clear_value t
    generalize aheadStarted s c i = u at *
    have hnot : ∀ x ∈ more, x.chan ≠ c := fun x hx => (hspec.worn (hrun.entries x hx).2.1).1
    have hslot : u.slot i = { Slot.wiped with state := .reserved, chan := some c } := by rw [hspec.slot, if_pos rfl]
    refine ⟨?_, ?_, ?_, more, ?_, ?_, fun x hx => ?_, fun d hd hno => ?_, ?_⟩
    · rw [hrun.slot i (by rw [hslot]; nofun), hslot]
    · rw [hrun.chan c hnot, hspec.chan, if_pos rfl]
    · rw [hrun.sched, hspec.sched]
      exact h.1
    · rw [hrun.exch, hspec.exch, List.append_assoc]
      rfl
    · rw [hn]
      exact Nat.succ_le_succ hrun.length
    · obtain ⟨hreason, hworn, hmem⟩ := hrun.entries x hx
      exact ⟨hreason, (hspec.worn hworn).2, hmem⟩
    · rw [hrun.chan d hno, hspec.chan, if_neg hd]
    · rw [hrun.sched, hspec.sched, hspec.settings]
      split <;> rfl

/-- Settles O53: the parts of a second, each by its own lemma. -/
theorem uptimeStepEvaluatesEveryChannel : Obligations.UptimeStepEvaluatesEveryChannel := by
  have hexec (s : State) : exec .uptimeStep s
      = .next (State.everySecond { s with uptime := min (s.uptime + 1) 4294967295 }).rest := rfl
  refine ⟨fun s => ?_, fun s c i k hs hcur hk => evaluateAgesAndLists s c i k hs hcur hk, fun s => ⟨_, hexec s, rfl⟩,
    retryOpenLists, aheadWalkFromTheCursor, fun s hmode => aheadStepStartsTheWorn s hmode⟩
  obtain ⟨hframe, hreading, hstate⟩ := measured_everySecond { s with uptime := min (s.uptime + 1) 4294967295 }
  rw [hexec]
  generalize (State.everySecond { s with uptime := min (s.uptime + 1) 4294967295 }).rest = t at *
  have hsampled (c : ChanId) (h : samples s c) : reading (t.chan c) = reading (s.chan c).sampled := by
    rw [hreading, if_pos ⟨List.mem_finRange c, h⟩]
    rfl
  have hquiet (c : ChanId) (h : ¬ samples s c) : reading (t.chan c) = reading (s.chan c) := by
    rw [hreading, if_neg fun x => h x.2]
    rfl
  refine ⟨t, rfl, ?_, ?_, fun c h => ?_, fun c h1 h2 => ?_, fun c => ?_, ?_, ?_, ?_, ?_⟩
  · have := congrArg State.uptime hframe
    exact this
  · have := congrArg State.mode hframe
    exact this
  · have hread := hsampled c h
    simp only [reading, Prod.mk.injEq] at hread
    obtain ⟨⟨hrate, hunits, hbucket⟩, -⟩ := hread
    exact ⟨hrate, hunits, hbucket⟩
  · have hread := hquiet c (not_or.2 ⟨h1, h2⟩)
    simp only [reading, Prod.mk.injEq] at hread
    obtain ⟨⟨hrate, hunits, hbucket⟩, -⟩ := hread
    refine ⟨hrate, hunits, hbucket, ?_⟩
    rcases hstate c with e | ⟨e, -⟩
    · exact e
    · exact absurd e h1
  · have hread : (reading (t.chan c)).2 = (reading (s.chan c)).2 := by
      by_cases h : samples s c
      · rw [hsampled c h]
        rfl
      · rw [hquiet c h]
    simp only [reading, Prod.mk.injEq] at hread
    exact hread
  · have := congrArg State.inFifo hframe
    exact this
  · have := congrArg State.core hframe
    exact this
  · have := congrArg State.t0 hframe
    exact this
  · have := congrArg State.t1 hframe
    exact this

end Sys2Proof.Proofs
